-- ==== Sys2Proof/Word.lean ====
section
/-! DEFINITION. The word and byte types of the register window (R10, R12): a register is 32 bits, memory is bytes. -/

namespace Sys2Proof

/-- A register or a table word: 32 bits (R12). -/
abbrev Word := BitVec 32

/-- A byte of a frame or of memory. -/
abbrev Byte := BitVec 8

end Sys2Proof
end

