-- ==== Sys2Proof/Operand.lean ====
section
/-! DEFINITION. The operands of the commands: what comes from outside the block with a command. -/

namespace Sys2Proof

/-- The requesters of R25, by the path on which an access arrives. (DEDUCED, log entry 97.) -/
inductive Req where
  | hst | hosta | hostb | pair | debug | cpe | dma
  deriving DecidableEq, Repr

/-- The requester ID of R25. -/
def Req.id : Req → Nat
  | .hst => 0 | .hosta => 1 | .hostb => 2 | .pair => 3 | .debug => 4 | .cpe => 5 | .dma => 6

/-- The fuse bank (R89, R103, R486, R492, R494, R587), as programmed. `roots` are the four 32-byte roots of R486 in
the order TEST, DEVELOP, PRODUCTION, RETURNED. -/
structure Fuses where
  lc : Nat
  sirev : Nat
  uidLo : Word
  uidHi : Word
  devFeat : Nat
  kh0 : List Word
  kh1 : List Word
  prog0 : Bool
  prog1 : Bool
  rev0 : Bool
  rev1 : Bool
  floor : Nat
  tampCfg : Nat
  roots : List (List Byte)
  pgFeat : List (Nat × Nat)
  deriving DecidableEq, Repr

/-- Fuses as manufactured: nothing programmed, life-cycle state BLANK (R492). -/
def Fuses.blank : Fuses :=
  { lc := 0, sirev := 0, uidLo := 0, uidHi := 0, devFeat := 0, kh0 := List.replicate 8 0, kh1 := List.replicate 8 0,
    prog0 := false, prog1 := false, rev0 := false, rev1 := false, floor := 0, tampCfg := 0,
    roots := List.replicate 4 (List.replicate 32 0), pgFeat := [] }

/-- What a host and its root port set on an endpoint (R414, R415, R434, R443): link state as HIF_EPSTAT codes it, the
generation and width, Bus Master Enable and D3hot of each function, and the MSI-X enables and masks. -/
structure EpEnv where
  link : Nat := 0
  gen : Nat := 0
  width : Nat := 0
  bme0 : Bool := false
  bme1 : Bool := false
  d3hot0 : Bool := false
  d3hot1 : Bool := false
  msixEn0 : Bool := false
  msixEn1 : Bool := false
  fmask0 : Bool := false
  fmask1 : Bool := false
  masks0 : Nat := 0xFFFFFFFFFFFFFFFF
  masks1 : Nat := 0xFFFFFFFFFFFFFFFF
  deriving DecidableEq, Repr

/-- What the memories that a pass reads show: parser nodes corrected and uncorrectable (R222), rule words corrected and
entries uncorrectable (R248), flow buckets uncorrectable, cache words corrected and whether the cached copy of the entry that the
lookup finds is uncorrectable (R275), forwarding
words corrected, MAC buckets uncorrectable, and which other forwarding word is (R294): 0 none, 1 VLAN, 2 stream, 3 route, with
its way in the bucket of a 29-bit route. -/
structure PassEnv where
  nodeCorr : Nat := 0
  nodeBad : List Nat := []
  ruleCorr : Nat := 0
  ruleBad : List Nat := []
  flowBad : List Nat := []
  flowCorr : Nat := 0
  flowLost : Bool := false
  fwdCorr : Nat := 0
  macBad : List Nat := []
  fwdBad : Nat := 0
  fwdWay : Nat := 0
  deriving DecidableEq, Repr

/-- What a port's PHY shows at a turn edge (R400, R409): its equaliser taps, whether it reports its equaliser converged, and its signal
quality. -/
structure TruObs where
  port : Nat
  taps : List Int := []
  conv : Bool := false
  sqi : Nat := 0
  deriving DecidableEq, Repr

/-- What a turn edge finds outside the rules: the PHYs (R400), the levels of GPIO31 to GPIO0 and TOUT7 to TOUT0 (R553), the words that
the slices of step 6 read bad in the flow and MAC tables, with the MAC words that they and the learn engine read corrected since the edge before (R275, R294), in the shadow and its live tables (R294), in the rule
store with the corrected ones (R248), the cells that the Burr audit finds leaked or doubled (R321), the key slots whose shares fail their check (R482), whether the entropy source
reseeds (R458), and how many ns after the edge the Headstock starts its work (step 8 of R54). -/
structure TurnEnv where
  obs : List TruObs := []
  gpio : Nat := 0
  tout : Nat := 0
  flowBad : List Nat := []
  macBad : List Nat := []
  macCorr : Nat := 0
  shdBad : List (Nat × Nat) := []
  liveBad : List (Nat × Nat) := []
  ruleCorr : Nat := 0
  ruleBad : List Nat := []
  leaks : List Nat := []
  healed : List Nat := []
  doubles : List (Nat × Nat) := []
  keyBad : List Nat := []
  reseed : Bool := true
  startNs : Nat := 0
  deriving DecidableEq, Repr

/-- What the Bench answers to the accesses of an operation (R510, R513): the BUSY results of one of them, and a word found whole (0),
corrected (1) or uncorrectable (2), with its place among the operands. -/
structure BenchEnv where
  busy : Nat := 0
  ecc : Nat := 0
  at_ : Nat := 0
  deriving DecidableEq, Repr

/-- What a port's receiver reports with a frame (R142, R348): PCS errors, FEC codewords corrected and not correctable, the
fragments that the frame came in (0: whole), reassembly errors and SMD errors. -/
structure LineObs where
  pcs : Nat := 0
  corr : Nat := 0
  uncorr : Nat := 0
  frags : Nat := 0
  assyErr : Nat := 0
  smdErr : Nat := 0
  deriving DecidableEq, Repr

/-- A legacy frame as its bus carries it (R143, R200, R214): kind 1 CAN CC, 2 CAN FD, 3 CAN XL, 4 LIN, 5 RS-485. -/
structure LegFrame where
  kind : Nat := 1
  ide : Bool := false
  rtr : Bool := false
  brs : Bool := false
  esi : Bool := false
  sec : Bool := false
  rrs : Bool := false
  sdt : Nat := 0
  id : Nat := 0
  vcid : Nat := 0
  dlc : Nat := 0
  af : Nat := 0
  data : List Byte := []
  deriving DecidableEq, Repr

/-- What host memory shows to the HIF of a ring (R418, R419, R423): the words of the descriptors from HEAD on, and for a TX
ring the bytes of their buffers in order. -/
structure RingView where
  ring : Nat
  descs : List (List Nat) := []
  data : List Byte := []
  deriving DecidableEq, Repr

/-- The straps sampled when PORST_N rises (R91, R551), with whether CLK32K_IN runs (R45). -/
structure Straps where
  sel : Nat := 0
  pairEn : Bool := false
  rank : Bool := false
  clk32k : Bool := true
  deriving DecidableEq, Repr

/-- The TAP instructions of R610. -/
inductive TapInst where
  | bypass | idcode | sample | debug | extest | extestPulse | extestTrain | clamp
  deriving DecidableEq, Repr

/-- The header of an Epmel frame (R552), beside EVER, TYPE and LEN: RANK, STATE, ROLE, SEQ, FRAG, NFRAG, TURN. -/
structure EplHdr where
  rank : Bool := false
  state : Nat := 0
  role : Bool := false
  seq : Nat := 0
  frag : Nat := 0
  nfrag : Nat := 1
  turn : Nat := 0
  deriving DecidableEq, Repr

end Sys2Proof
end

