-- ==== Sys2Proof/Syntax.lean ====
section
/-! DEFINITION. The commands: one constructor for each row of the table of operations and events. An operand is
what comes from outside with the command: the requester of an access (R25), an offset and a value, a frame's bytes, a time
stamp's position inside the current FRC cycle, or what the environment presents (a PHY, a cable, the flash, a soft error). -/

namespace Sys2Proof

/-- The commands of the block, in the table's order. (DEDUCED, log entry 90.) (DEDUCED, log entry 92.) -/
inductive Instr where
  /-- REGISTER_WRITE: A write to a register that has no row of its own, applied under its access type, ownership and lock rules (R16). -/
  | registerWrite (r : Req) (off : Nat) (size : Nat) (v : Nat)
  /-- LO_REGISTER_READ: A read of a _LO or other low-order register returns the low half and copies the high part into the requester's holding register (R13). -/
  | loRegisterRead (r : Req) (off : Nat) (size : Nat)
  /-- RC_READ: A read of an RC register returns its value and then clears it, unless hardware sets it in the same cycle (R16). -/
  | rcRead (r : Req) (off : Nat)
  /-- SOFT_RST: A write of PG_CTRL.SOFT_RST resets the block state and registers, clears EV_RAW and OWN_VIOL, and keeps READY at 0 until done (R61). -/
  | softRst (r : Req) (p : Nat)
  /-- EV_FORCE: A write to EV_FORCE sets the chosen EV_RAW bits exactly as the events would (R62). -/
  | evForce (r : Req) (p : Nat) (v : Nat)
  /-- PG_OWNER_WRITE: A write to PG_OWNER claims, releases or reassigns the page, or is refused and counted as an ownership violation (R64). -/
  | pgOwnerWrite (r : Req) (p : Nat) (v : Nat)
  /-- PG_LOCK_WRITE: A write by the owner or HST sets LOCK or OWNER_LOCK until PORST_N (R66). -/
  | pgLockWrite (r : Req) (p : Nat) (v : Nat)
  /-- SAT_CLEAR: Writing 1 to a counter's SAT bit clears the bit and zeroes the counter in the same core clock (R366). -/
  | satClear (r : Req) (off : Nat) (v : Nat)
  /-- TAW_READ: An OP write of READ on a table access window returns one complete entry (R68). -/
  | tawRead (r : Req) (w : Nat)
  /-- TAW_WRITE: An OP write of WRITE on a table access window writes an entry where the table's update class allows it (R70). -/
  | tawWrite (r : Req) (w : Nat)
  /-- WRITE_VALID_LAST: An OP write of WRITE_VALID_LAST replaces the entry as one atomic update (R69). -/
  | writeValidLast (r : Req) (w : Nat)
  /-- TAW_OP_DONE: A table window operation that set BUSY completes, writes STATUS and clears BUSY (R71). -/
  | tawOpDone (w : Nat) (ecc : Nat)
  /-- FEAT_REQUEST: A host write of FEAT_CTRL.DONE submits its DRV_FEAT request for judgement (R74). -/
  | featRequest (r : Req) (e : Nat)
  /-- FEAT_ANSWER: Within 10 µs the B960 answers a feature request with OK or FAIL and raises FEAT_A or FEAT_B (R74). -/
  | featAnswer (e : Nat)
  /-- RENEG: A write of RENEG ends the host's feature agreement, stops its PF1 rings and closes its mailbox (R76). -/
  | reneg (r : Req) (e : Nat)
  /-- CMB_GO: A doorbell write to CMB_GO makes a command outstanding, or sets GO_LOST while BUSY (R80). -/
  | cmbGo (r : Req) (m : Nat)
  /-- CMB_TAKE: The Headstock takes the next outstanding command and judges it for closed mailbox, tag memory and COUNT before executing it (R81). -/
  | cmbTake
  /-- CMB_ABORT: A write of CMB_ABORT.REQ aborts the named command before its completion point or is answered NOTHING_TO_ABORT (R84). -/
  | cmbAbort (r : Req) (m : Nat) (v : Nat)
  /-- NOP: Mailbox opcode 0x00 completes OK with no results (R85). -/
  | nop (m : Nat)
  /-- IDENTIFY: Mailbox opcode 0x01 returns part, revision, unique number and offered features (R85). -/
  | identify (m : Nat)
  /-- FEAT_QUERY: Mailbox opcode 0x02 returns the requester's DRV_FEAT set and FEAT_CTRL (R85). -/
  | featQuery (m : Nat)
  /-- TAG_FLUSH: Mailbox opcode 0x03 forgets all tags of the mailbox and remembers its own (R85). -/
  | tagFlush (m : Nat)
  /-- PORST_ASSERT: PORST_N falls and resets everything except the PD0 tamper and false-wake state, holding outputs as R87 gives (R88). -/
  | porstAssert
  /-- PORST_RELEASE: PORST_N rises, the straps are sampled and boot starts in stage POR (R91). -/
  | porstRelease (st : Straps)
  /-- PLL_LOCK: The PLLs lock, the FRC starts at zero and boot enters FUSE (R111). -/
  | pllLock
  /-- FUSE_STAGE_DONE: Fuses are loaded, RESET_OUT_N goes high and boot proceeds or stops for BLANK, SCRAPPED or FUSE_ERR (R111). -/
  | fuseStageDone (ok : Bool) (prog : Option Fuses)
  /-- MEMORY_STAGE_DONE: DRAM is trained and cleared and the die-to-die link trained; boot proceeds to HEADER or enters HELD under FLASH_HOLD (R111). -/
  | memoryStageDone (dramOk : Bool) (linkOk : Bool)
  /-- HEADER_STAGE_DONE: Both slot headers are read, checked and the candidates ordered (R104). -/
  | headerStageDone (a : Option (List Word)) (b : Option (List Word))
  /-- IMAGE_STAGE_DONE: The candidate image has been copied into DRAM and hashed, or failed with FLASH_ERR (R94). -/
  | imageStageDone (img : Option (List Word))
  /-- VERIFY_STAGE_DONE: The image digest, key digest, signature and HST_FW signature are checked (R107). -/
  | verifyStageDone
  /-- KEYS_STAGE_DONE: The device keys are derived from the selected root (R108). -/
  | keysStageDone
  /-- TABLES_STAGE_DONE: All sections are loaded in TYPE and INST order, shadows written and held locks applied (R97). -/
  | tablesStageDone
  /-- DP_RELEASE: The data plane is released: ports train, channels integrate, the turn starts and SAFE_N goes high (R111). -/
  | dpRelease (us : Nat)
  /-- HOST_RELEASE: Both PF0s answer in full, mailboxes open and BOOT_DONE is raised (R111). -/
  | hostRelease (us : Nat)
  /-- BOOT_TIMEOUT: 500 ms after PORST_N rises without DP_RELEASE, boot enters HALT with TIMEOUT (R112). -/
  | bootTimeout
  /-- TURN_EDGE: At each aligned instant a turn edge increments TURN_CNT and runs the ordered edge work of R54 (R54). -/
  | turnEdge (e : TurnEnv)
  /-- TURN_APPLY: A write of TURN_CTRL.APPLY stages new TURN_CFG and TURN_PHASE for the next edge (R49). -/
  | turnApply (r : Req)
  /-- CLR_OVR: A write of TURN_CTRL.CLR_OVR zeroes the overrun and step counters and their SAT bits (R49). -/
  | clrOvr (r : Req)
  /-- TURN_HST_DONE: A write by HST to TURN_HST_DONE marks the turn's Headstock work finished (R56). -/
  | turnHstDone (r : Req)
  /-- PORT_EN_WRITE: A change of ETH_CTRL.PORT_EN enables the port into TRAINING, refuses with MODE_ERR, or disables it (R133). -/
  | portEnWrite (r : Req) (n : Nat) (v : Nat)
  /-- ETH_MODE_WRITE: A write to ETH_MODE takes effect only while PORT_EN is 0, and sets MODE_ERR otherwise (R133). -/
  | ethModeWrite (r : Req) (n : Nat) (v : Nat)
  /-- LINK_UP: A training port establishes its link and enters UP (R131). -/
  | linkUp (n : Nat) (inband : Nat) (align : Nat) (sqi : Nat) (plca : Bool)
  /-- LINK_DOWN: A port leaves UP or SLEEP_REQ, aborts its transmission and discards its queued copies (R132). -/
  | linkDown (n : Nat) (fault : Bool)
  /-- INBAND_RATE_CHANGE: An external PHY signals a new rate in band and the port retrains at that rate (R120). -/
  | inbandRateChange (n : Nat) (rate : Nat)
  /-- ETH_FRAME_RX: A frame received on P0–P31 is checked, stamped, verified by MACsec, written to cells and hashed to a Spindle queue (R125). -/
  | ethFrameRx (p : Nat) (bytes : List Byte) (fcsOk : Bool) (more : Bool) (sub : Nat) (obs : LineObs)
  /-- SPINDLE_PASS: A Spindle takes a head from its input queue and runs TSN ingress, parse, lookups, actions and admission for one pass (R30). -/
  | spindlePass (k : Nat) (env : PassEnv)
  /-- RECIRC_REENTER: A recirculated head re-enters the ingress hasher after its action stage, or after its insertion completes, and joins a Spindle queue (R239). -/
  | recircReenter
  /-- TX_SELECT: A port able to start a frame chooses the highest eligible class and begins transmitting its head copy (R346). -/
  | txSelect (n : Nat) (sent : Nat) (ecc : Nat) (info : Nat)
  /-- ETH_TX_DONE: The last byte of a copy leaves its port, the egress stamp is taken and the copy's reference is released (R300). -/
  | ethTxDone (n : Nat) (tap : Option Int) (coll : Bool)
  /-- LPI_ENTRY: After ETH_EEE.IDLE µs of empty queues the transmit side enters LPI (R134). -/
  | lpiEntry (n : Nat) (rx : Bool)
  /-- LPI_EXIT_DONE: The wake time Tw after an LPI exit begins ends and the port may send (R135). -/
  | lpiExitDone (n : Nat) (rx : Bool)
  /-- SLEEP_REQ: A write of SLEEP_REQ on a G port in UP starts the TC10 sleep handshake (R136). -/
  | sleepReq (r : Req) (n : Nat)
  /-- TC10_SLEPT: The partner acknowledges the sleep handshake and the port enters TC10_SLEEP (R136). -/
  | tc10Slept (n : Nat)
  /-- TC10_FAIL: 16 ms without acknowledgement returns the port to UP with TC10_FAIL (R136). -/
  | tc10Fail (n : Nat)
  /-- TC10_REMOTE_SLEEP: A sleep request from the partner is acknowledged or rejected (R137). -/
  | tc10RemoteSleep (n : Nat)
  /-- WAKE_REQ: A write of WAKE_REQ sends a TC10 wake-up pulse or cancels a sleep handshake (R138). -/
  | wakeReq (r : Req) (n : Nat) (sleep : Bool)
  /-- TC10_WOKE: A wake-up from the partner takes the port from TC10_SLEEP to TRAINING and may wake the device (R138). -/
  | tc10Woke (n : Nat)
  /-- DIAG_START: A write of DIAG_START starts a cable measurement in TRAINING, or leaves RESULT NOT_RUN (R139). -/
  | diagStart (r : Req) (n : Nat)
  /-- DIAG_DONE: The cable measurement ends, ETH_DIAG is written and the port returns to TRAINING (R139). -/
  | diagDone (n : Nat) (result : Nat) (dist : Nat)
  /-- MDIO_WRITE: An OP write of WRITE queues a Clause 45 MDIO write command (R123). -/
  | mdioWrite (r : Req) (n : Nat) (addr : Nat)
  /-- MDIO_READ: An OP write of READ queues a Clause 45 MDIO read command (R123). -/
  | mdioRead (r : Req) (n : Nat) (addr : Nat)
  /-- MDIO_DONE: An MDIO command finishes after 128 MDC cycles, BUSY falls and MDIO_DONE is raised (R123). -/
  | mdioDone (resp : Option Nat)
  /-- MDIO_POLL: Once per millisecond the PMA/PMD status of POLL_PRTAD is read into PHY_LINK (R124). -/
  | mdioPoll (n : Nat) (status : Nat)
  /-- CH_EN_WRITE: A write of CAN_CTRL.CH_EN checks the configuration and starts integrating, or returns the channel to CONFIG (R146). -/
  | chEnWrite (r : Req) (n : Nat) (v : Nat)
  /-- CAN_INTEGRATED: 11 consecutive recessive bits end integration into MONITOR or the error state that TEC and REC give (R150). -/
  | canIntegrated (n : Nat)
  /-- CAN_FRAME_RX: A frame received without error is stored with its time-stamp in the receive buffer (R158). -/
  | canFrameRx (n : Nat) (f : LegFrame) (ago : Nat)
  /-- CAN_BUS_ERROR: A detected bus error updates TEC and REC and may change the controller state (R150). -/
  | canBusError (n : Nat) (code : Nat) (data : Bool) (tx : Bool) (plain : Bool) (dom : Bool)
  /-- BOFF_DELAY_EXPIRY: CAN_BOFF.DELAY ms after bus-off with BOFF_AUTO set, the channel enters RECOVERING (R157). -/
  | boffDelayExpiry (n : Nat)
  /-- RECOVER: A write of RECOVER in BUS_OFF starts recovery (R157). -/
  | recover (r : Req) (n : Nat)
  /-- CAN_RECOVERY_DONE: 128 occurrences of 11 recessive bits end RECOVERING into ERROR_ACTIVE with zero counters (R150). -/
  | canRecoveryDone (n : Nat)
  /-- CAN_TX_START: The channel selects the winning pool entry and begins its SOF (R154). -/
  | canTxStart (n : Nat) (tdcv : Nat)
  /-- CAN_TX_DONE: An attempt completes and the entry leaves the pool (R154). -/
  | canTxDone (n : Nat)
  /-- ARB_LOST: An attempt loses arbitration and the entry returns to the pool or is withdrawn by a cancel (R154). -/
  | arbLost (n : Nat)
  /-- CAN_CANCEL: A write of CAN_CANCEL.REQ withdraws matching pending entries and resolves those in attempt (R155). -/
  | canCancel (r : Req) (n : Nat) (v : Nat)
  /-- CH_SLEEP_WRITE: A write of CH_SLEEP arms selective wake or ends WAKE_ARMED with REASON LOCAL (R159). -/
  | chSleepWrite (r : Req) (n : Nat) (v : Bool)
  /-- CAN_WAKE_DETECT: The transceiver in WAKE_ARMED detects WUP, WUF or FEC_OVERFLOW and wakes the channel (R159). -/
  | canWakeDetect (n : Nat) (reason : Nat) (f : LegFrame)
  /-- GWY_ENTER_FRAME: The gateway takes a complete frame from a channel buffer round robin and enters it at P34 with the legacy header (R163). -/
  | gwyEnterFrame
  /-- GWY_COPY_IN: P34 releases a copy to the gateway, which removes the header and hands it to a channel, a hold buffer, encapsulation or decapsulation (R35). -/
  | gwyCopyIn (ecc : Nat) (info : Nat)
  /-- GWY_BATCH_TIMEOUT: BATCH_US after its first message an open 1722 frame is closed and entered at P34 (R164). -/
  | gwyBatchTimeout (p : Nat)
  /-- TTS_EN_WRITE: A write of TTS_CH_CFG.EN starts the schedule in LISTEN or returns it to TT_OFF (R181). -/
  | ttsEnWrite (r : Req) (n : Nat) (v : Nat)
  /-- TTS_REF_DUE: At an expected reference instant a potential master attempts its reference message (R183). -/
  | ttsRefDue (n sub : Nat) (idle : Bool)
  /-- TTS_REF_RX: A reference message is received or won and the basic cycle and windows are timed from its SOF (R186). -/
  | ttsRefRx (n : Nat) (prio : Nat) (cnt : Nat) (gap : Bool) (mark : Nat) (ago : Nat)
  /-- TTS_REF_TIMEOUT: No reference message starts within one basic cycle and the schedule enters LISTEN at S2 (R182). -/
  | ttsRefTimeout (n : Nat)
  /-- TTS_WINDOW_START: A slot window opens and its hold buffer attempt may begin its SOF (R178). -/
  | ttsWindowStart (n : Nat) (i : Nat) (tdcv : Nat) (busy : Bool)
  /-- TTS_TXEN_CLOSE: A window's TXEN span closes and a missed slot counts SLOT_MISS and raises MSC (R178). -/
  | ttsTxenClose (n : Nat)
  /-- RX_MISS: An RX_CHECK span closes without a matching frame (R180). -/
  | rxMiss (n : Nat)
  /-- TTS_SWAP: A write of TTS_CH_CTRL.SWAP checks the staged schedule and sets SWAP_PEND or raises SWAP_ERR (R189). -/
  | ttsSwap (r : Req) (n : Nat) (v : Nat)
  /-- SWAP_DONE: At the next basic cycle with count 0 the staged schedule becomes active (R189). -/
  | swapDone (n : Nat)
  /-- TTS_HBCLR: A write of TTS_CH_HBCLR.GO empties the named hold buffer (R177). -/
  | ttsHbclr (r : Req) (n : Nat) (v : Nat)
  /-- LIN_EN_WRITE: A write of LIN_CTRL.EN starts the channel or refuses it with CFG_ERR (R193). -/
  | linEnWrite (r : Req) (n : Nat) (v : Nat)
  /-- LIN_SLOT_START: A commander's schedule slot starts and sends its header (R196). -/
  | linSlotStart (n : Nat) (busy : Bool)
  /-- LIN_HEADER_RX: A header is resolved as PUBLISH, SUBSCRIBE or ignored (R197). -/
  | linHeaderRx (n : Nat) (id : Nat) (ago : Nat)
  /-- LIN_RESPONSE_RX: A subscribed response arrives and goes to the gateway or is dropped on checksum error (R197). -/
  | linResponseRx (n : Nat) (data : List Byte) (sum : Byte)
  /-- LIN_NO_RESP: No response arrives within 1.4 times its nominal time (R197). -/
  | linNoResp (n : Nat)
  /-- LIN_SLEEP_CMD_RX: A responder receives the go-to-sleep command and enters SLEEP (R198). -/
  | linSleepCmdRx (n : Nat)
  /-- LIN_IDLE_TIMEOUT: A responder with 4 s of no bus activity enters SLEEP (R198). -/
  | linIdleTimeout (n : Nat)
  /-- LIN_WAKE_REQ: A write of LIN_CTRL.WAKE_REQ sends a wake pulse or cancels a sleep (R198). -/
  | linWakeReq (r : Req) (n : Nat)
  /-- LIN_WOKE: A dominant level over 150 µs in SLEEP wakes the channel (R198). -/
  | linWoke (n : Nat)
  /-- LIN_WAKING_DONE: 100 ms in WAKING end and a commander starts its table at entry 0 (R198). -/
  | linWakingDone (n : Nat)
  /-- SER_EN_WRITE: A write of SER_CTRL.EN starts the RS-485 channel or refuses it (R193). -/
  | serEnWrite (r : Req) (n : Nat) (v : Nat)
  /-- SER_FRAME_RX: An RS-485 frame ends at IDLE bit times or 1,024 bytes and goes to the gateway or is dropped (R200). -/
  | serFrameRx (n : Nat) (bytes : List Byte) (err : Nat) (ago : Nat)
  /-- SER_TX_START: After IDLE bit times a queued frame enables the driver and starts, deferring on a received start bit (R201). -/
  | serTxStart (n : Nat) (defer : Bool)
  /-- SER_TX_DONE: A frame is sent or ended by a read-back collision and the driver is released (R201). -/
  | serTxDone (n : Nat) (coll : Option Nat)
  /-- PARS_COMMIT: A write of PARS_CTRL.COMMIT starts the check of the staged start table and reachable nodes (R218). -/
  | parsCommit (r : Req)
  /-- PARS_CHECK_DONE: The graph check ends with PEND set or COMMIT_ERR raised (R218). -/
  | parsCheckDone (bad : List Nat)
  /-- RULE_COMMIT: A write of RULE_CTRL.COMMIT starts the check of staged entries and matrix (R243). -/
  | ruleCommit (r : Req)
  /-- RULE_CHECK_DONE: The rule check ends with PEND set or COMMIT_ERR raised (R243). -/
  | ruleCheckDone (bad : List Nat) (badMat : List Nat)
  /-- ZONE_SET: Mailbox opcode 0x20 writes staged zone map entries and optionally starts a commit (R246). -/
  | zoneSet (m : Nat) (race : Bool)
  /-- FLOW_INSERT_SERVE: A shard's insertion engine serves its next queued request, absorbing, relocating or failing (R260). -/
  | flowInsertServe (k : Nat) (bad : List Nat)
  /-- FIND: Search operation FIND returns the entry that matches a tuple (R273). -/
  | find (r : Req)
  /-- INSERT: Search operation INSERT places an entry under the relocation rules (R273). -/
  | insert (r : Req)
  /-- DELETE: Search operation DELETE invalidates the entry that matches a tuple (R273). -/
  | delete (r : Req)
  /-- SRCH_DONE: A search operation completes in the insertion queue and raises SRCH_DONE (R273). -/
  | srchDone (k : Nat) (bad : List Nat)
  /-- FLOW_PURGE_WRITE: A write of FLOW_PURGE with EN starts a purge whose filter lookups treat as misses (R272). -/
  | flowPurgeWrite (r : Req) (v : Nat)
  /-- LEARN_APPLY: The learn engine applies the next queued learn request against the MAC table (R284). -/
  | learnApply
  /-- SHADOW_READ: A READ on the shadow window returns a shadow entry (R297). -/
  | shadowRead (r : Req)
  /-- SHADOW_WRITE: A WRITE on the shadow window writes a shadow entry (R297). -/
  | shadowWrite (r : Req) (last : Bool)
  /-- BUF_CFG_WRITE: A write of QCFG or BUF_HDRM changes MIN, HDRM, ALPHA or ORDERED, or is refused whole with CFG_ERR (R306). -/
  | bufCfgWrite (r : Req) (off : Nat) (v : Nat)
  /-- BUF_DEEP_WRITE: A write of a deep slot enables, disables or reconfigures it, or is refused with CFG_ERR (R307). -/
  | bufDeepWrite (r : Req) (k : Nat) (v : Nat)
  /-- SPILL_WRITE_DONE: The spill engine finishes writing a copy to DRAM and releases its reference (R308). -/
  | spillWriteDone (k : Nat)
  /-- REFILL: The refill engine moves the oldest DRAM copy of a deep queue into its SRAM segment (R309). -/
  | refill (k : Nat) (ecc : Nat) (word : Nat)
  /-- REORDER_TIMEOUT: The oldest held frame of a reordering function waits its timeout and the gap before it is skipped (R320). -/
  | reorderTimeout (f : Nat)
  /-- SG_CHANGE_REQ: A stream gate write with CHANGE requests a list change (R332). -/
  | sgChangeReq (r : Req)
  /-- SG_CHANGE: At its change time a stream gate's admin list becomes operating (R332). -/
  | sgChange (g : Nat)
  /-- CONFIG_CHANGE_REQ: A write of CONFIG_CHANGE checks the admin gate list and computes CCT (R344). -/
  | configChangeReq (r : Req) (n : Nat) (v : Nat)
  /-- CONFIG_CHANGE: At CCT the admin gate list becomes operating (R344). -/
  | configChange (n : Nat)
  /-- GCL_ENTRY_ADVANCE: A gate control entry's interval expires and the next entry's gates, hold or release take effect (R345). -/
  | gclEntryAdvance (n : Nat)
  /-- PREEMPT_VERIFY: Every VERIFY_TIME ms the port attempts 802.3br verification and updates PRE_STATUS (R348). -/
  | preemptVerify (n : Nat) (ok : Bool)
  /-- RCVY_RESET: A recovery function idle for RESET_MS resets and releases held frames (R340). -/
  | rcvyReset (r : Nat)
  /-- MIR_SCFG_WRITE: A write of MIR_SCFG enables or clears a session, or is refused with CFG_ERR (R355). -/
  | mirScfgWrite (r : Req) (k : Nat) (v : Nat)
  /-- CAP_RECORD_WRITE: A copy leaving P37 is written to the capture ring as one record, or dropped, or overwrites old records (R356). -/
  | capRecordWrite (reading : Bool) (ecc : Nat) (info : Nat)
  /-- CAP_FREEZE: Setting CAP_CTRL.FREEZE stops the ring from changing and raises CAP_FROZEN (R360). -/
  | capFreeze (r : Req) (v : Nat)
  /-- CAP_DRAIN_DELIVER: The drain engine delivers the oldest record to its host ring and advances CAP_RD (R361). -/
  | capDrainDeliver (ecc : Nat) (word : Nat) (descs : List (List Nat))
  /-- CAP_RELEASE: A write of CAP_RELEASE advances CAP_RD over whole records (R361). -/
  | capRelease (r : Req) (n : Nat)
  /-- TIME_FRC0_READ: A read of TIME_FRC0 returns FRC[31:0] and holds the upper bits for the requester (R369). -/
  | timeFrc0Read (r : Req)
  /-- TD_S_LO_READ: A read of TD_S_LO holds the domain's seconds, ns and fraction for the requester (R376). -/
  | tdSLoRead (r : Req) (k : Nat)
  /-- XSNAP: A write of TIME_CTRL.XSNAP latches the FRC and all domains and raises XSNAP_DONE (R376). -/
  | xsnap (r : Req)
  /-- TD_RATE_HI_WRITE: A write of TD_RATE_HI applies the new RATE, clamped at ±1,000 ppm (R372). -/
  | tdRateHiWrite (r : Req) (k : Nat) (v : Nat)
  /-- STEP: A write of TD_CTRL.STEP steps the domain absolutely or relatively (R373). -/
  | step (r : Req) (k : Nat) (rel : Bool)
  /-- TD_ADJ_WRITE: A write of TD_ADJ adds to the remaining slewed adjustment (R374). -/
  | tdAdjWrite (r : Req) (k : Nat) (v : Nat)
  /-- ADJ_DONE: The remaining adjustment reaches zero and ADJ_DONE is raised (R374). -/
  | adjDone (k : Nat)
  /-- TD_EN_WRITE: A write of TD_CTRL.EN holds or resumes a domain (R375). -/
  | tdEnWrite (r : Req) (k : Nat) (v : Nat)
  /-- TOUT_ARM: A write of TOUT_CFG.MODE arms an output or is refused with CFG_ERR (R388). -/
  | toutArm (r : Req) (k : Nat) (v : Nat)
  /-- TOUT_PULSE: An output's domain instant arrives and a pulse of WIDTH is driven (R388). -/
  | toutPulse (k : Nat)
  /-- TCAP_EDGE: An enabled edge on TCAPn is captured into the capture FIFO (R390). -/
  | tcapEdge (i : Nat) (rise : Bool) (sub : Nat)
  /-- TCAP_POP: A read of TCAP_E0 pops the oldest capture (R391). -/
  | tcapPop (r : Req)
  /-- TSF_POP: A read of TSF_E0 pops the oldest egress stamp entry (R387). -/
  | tsfPop (r : Req)
  /-- KEEP_SYNC_INTERVAL: Each keeper sync interval a MASTER keeper sends Sync and Announce on its ports (R393). -/
  | keepSyncInterval (d : Nat)
  /-- KEEP_FRAME_RX: A frame trapped to the keeper in REST is answered, used to slew, or dropped (R393). -/
  | keepFrameRx
  /-- KEEP_LOST: A SLAVE keeper without Sync for four intervals sets LOST (R393). -/
  | keepLost (d : Nat)
  /-- SLP_RATIO_MEASURE: Every 2^20 CLK32K_IN ticks the tick period is published in TIME_SLP_RATIO (R395). -/
  | slpRatioMeasure (span : Nat)
  /-- RING_EN_WRITE: A write of RING_CFG.EN starts a ring in RUNNING or stops it, or is refused with CFG_ERR (R428). -/
  | ringEnWrite (r : Req) (k : Nat) (v : Nat)
  /-- RING_TAIL_WRITE: A TAIL write, directly or through a doorbell alias, posts descriptors or sets TAIL_ERR (R418). -/
  | ringTailWrite (r : Req) (k : Nat) (v : Nat)
  /-- RP_CFG_WRITE: A write of RP_CFG changes the pair's fields and EP only by HST with both rings DISABLED (R417). -/
  | rpCfgWrite (r : Req) (n : Nat) (v : Nat)
  /-- START: A write of RING_CTRL.START resumes a STOPPED ring (R428). -/
  | start (r : Req) (k : Nat)
  /-- STOP: A write of RING_CTRL.STOP latches the ring's completion point (R429). -/
  | stop (r : Req) (k : Nat) (abort : Bool)
  /-- RING_STOPPED: A stopping ring reaches its completion point and enters STOPPED (R429). -/
  | ringStopped (k : Nat)
  /-- ABORT: A write of RING_CTRL.ABORT ends a pending stop or answers NOTHING_TO_ABORT (R429). -/
  | abort (r : Req) (k : Nat)
  /-- FORCE: A write of RING_CTRL.FORCE stops the ring within 2 µs, discarding partial frames (R430). -/
  | force (r : Req) (k : Nat)
  /-- HIF_TX_FETCH: The HIF takes a complete frame from a TX ring in turn and reads it into cells, or refuses it (R420). -/
  | hifTxFetch (e : Nat) (views : List RingView)
  /-- HIF_TX_COMPLETE: A TX frame's last byte is in the cells and its TX records are written (R422). -/
  | hifTxComplete (k : Nat)
  /-- HIF_RX_DELIVER: A copy from P32 or P33 is steered to a ring and written with its records, or waits or drops (R426). -/
  | hifRxDeliver (e : Nat) (ecc : Nat) (info : Nat) (part : Bool) (views : List RingView)
  /-- DMA_ERR: A DMA read completion error puts its ring in ERROR (R431). -/
  | dmaErr (k : Nat) (canWrite : Bool)
  /-- MOD_HOLDOFF_EXPIRY: A ring pair's moderation hold-off expires and sets its PEND bits (R432). -/
  | modHoldoffExpiry (n : Nat)
  /-- PCIE_LINK_CHANGE: An endpoint's link, Bus Master Enable or D-state changes and DMA and wake behaviour follow (R434). -/
  | pcieLinkChange (e : Nat) (env : EpEnv)
  /-- PERST_ASSERT: PA_PERST_N or PB_PERST_N falls and releases ownership, feature agreement, rings, lock, WAKE_N and the interrupt target (R611). -/
  | perstAssert (e : Nat)
  /-- PERST_RISE: PA_PERST_N or PB_PERST_N rises, a wake source in SLEEP and the end of a host wake pulse (R539). -/
  | perstRise (e : Nat)
  /-- INTC_SOURCE_CHANGE: A source's level changes at the INTC input and its pending state and hold-off timer follow (R437). -/
  | intcSourceChange (src : Nat)
  /-- INTC_HOLDOFF_EXPIRY: A group hold-off timer expires and its pending sources become deliverable (R441). -/
  | intcHoldoffExpiry (g : Nat) (t : Nat)
  /-- INTC_CLAIM: A read of INTC_CLAIMt returns the active or lowest deliverable source, 0x3FF or 0x3FE (R444). -/
  | intcClaim (r : Req) (t : Nat)
  /-- INTC_DONE: A write of INTC_DONEt completes the active source and re-samples it (R445). -/
  | intcDone (r : Req) (t : Nat) (v : Nat)
  /-- INTC_SRC_CFG_WRITE: A write of INTC_SRC_CFG retargets, enables or disables a source at once (R440). -/
  | intcSrcCfgWrite (r : Req) (src : Nat) (v : Nat)
  /-- INTC_TGT_SLEEP_WRITE: A host writes its INTC_TGT_SLEEP bit to mark its target asleep or awake (R449). -/
  | intcTgtSleepWrite (r : Req) (v : Nat)
  /-- MSIX_PENDING_SEND: A held MSI-X message is sent when the function may send and the vector is unmasked (R443). -/
  | msixPendingSend (e : Nat)
  /-- SAFETY_CONDITION: A safety condition sets its INTC_SAFE_RAW bit (R439). -/
  | safetyCondition (c : Nat)
  /-- INTC_SAFE_FORCE: A write of INTC_SAFE_FORCE sets INTC_SAFE_RAW bits as their conditions would (R439). -/
  | intcSafeForce (r : Req) (v : Nat)
  /-- GCM_ENC: Look-aside operation 0x01 encrypts with AES-GCM (R475). -/
  | gcmEnc (k : Nat) (env : BenchEnv)
  /-- GCM_DEC: Look-aside operation 0x02 decrypts and checks the tag in the staging buffer (R476). -/
  | gcmDec (k : Nat) (env : BenchEnv)
  /-- CMAC_GEN: Look-aside operation 0x03 computes an AES-CMAC tag (R475). -/
  | cmacGen (k : Nat) (env : BenchEnv)
  /-- CMAC_VER: Look-aside operation 0x04 verifies an AES-CMAC tag (R476). -/
  | cmacVer (k : Nat) (env : BenchEnv)
  /-- SHA3_256: Look-aside operation 0x05 computes a SHA3-256 digest (R475). -/
  | sha3256 (k : Nat) (env : BenchEnv)
  /-- RANDOM: Look-aside operation 0x06 writes random bytes (R475). -/
  | random (k : Nat) (env : BenchEnv)
  /-- LA_START: A user page with a GO waiting is started in round-robin order when fewer than four operations run (R478). -/
  | laStart
  /-- LA_DONE: An operation reaches its completion point, writes its results with OK and sets DONE (R477). -/
  | laDone (k : Nat)
  /-- LA_ABORT: A write of LA_ABORT.REQ ends an operation before its completion point or is answered NOTHING_TO_ABORT (R477). -/
  | laAbort (r : Req) (k : Nat) (v : Nat)
  /-- CPE_UWIN_WRITE: An HST write sets a user page's Bench window or is refused with CFG_ERR (R474). -/
  | cpeUwinWrite (r : Req) (k : Nat) (lim : Bool) (v : Nat)
  /-- KEY_INSTALL: Mailbox opcode 0x30 installs a plain or wrapped key into a user slot, applied or held (R489). -/
  | keyInstall (m : Nat)
  /-- KEY_ERASE: Mailbox opcode 0x31 erases a user slot, applied or held (R487). -/
  | keyErase (m : Nat)
  /-- KEY_DERIVE: Mailbox opcode 0x32 derives a key into a user slot with KMAC256 (R489). -/
  | keyDerive (m : Nat)
  /-- ATTEST: Mailbox opcode 0x33 writes and signs an attestation record in the Bench (R490). -/
  | attest (m : Nat)
  /-- LC_TRANSITION: Mailbox opcode 0x34 burns a new life-cycle state and zeroises keys (R493). -/
  | lcTransition (m : Nat) (burnOk : Bool)
  /-- LC_RESET: 10 ms after a successful LC_TRANSITION the B960 resets itself as under PORST_N (R493). -/
  | lcReset
  /-- OWNER_KEY: Mailbox opcode 0x35 programs or revokes an owner key digest (R494). -/
  | ownerKey (m : Nat) (burnOk : Bool)
  /-- TAMPER_INPUT: A tamper source becomes active, latches, records and wipes keys according to the power state (R497). -/
  | tamperInput (src : Nat) (on : Bool)
  /-- ENT_FAIL: The entropy source fails a health test and raises ENT_FAIL (R491). -/
  | entFail
  /-- LOCKSTEP_MISMATCH: The lock-step comparator fails, halts both cores and starts a restart or halts (R500). -/
  | lockstepMismatch (unit : Nat)
  /-- HST_RESTARTED: The restart completes after self-test, state reload and log undo, and firmware resumes at the checkpoint (R502). -/
  | hstRestarted (ok : Bool) (us : Nat)
  /-- CKPT_EXTRA: A store that finds the write log full forces an immediate checkpoint (R502). -/
  | ckptExtra
  /-- BENCH_READ: A Bench read is performed under ownership, secure-bank, collision and error rules (R505). -/
  | benchRead (r : Req) (addr : BitVec 22) (n : Nat) (busy : Nat) (ecc : Nat)
  /-- BENCH_WRITE: A Bench write is performed or refused under ownership and secure-bank rules (R506). -/
  | benchWrite (r : Req) (addr : BitVec 22) (bytes : List Byte) (busy : Nat)
  /-- BENCH_OWN_WRITE: A write of BENCH_OWNn hands a bank to a new owner and sets PENDING (R507). -/
  | benchOwnWrite (r : Req) (n : Nat) (v : Nat)
  /-- HANDOVER_DONE: The old owner's accepted writes reach the bank and PENDING clears (R507). -/
  | handoverDone (n : Nat)
  /-- ADD: Atomic operation ADD adds OPERAND to a Bench word (R512). -/
  | add (r : Req) (busy : Nat)
  /-- SWAP: Atomic operation SWAP stores OPERAND in a Bench word (R512). -/
  | swap (r : Req) (busy : Nat)
  /-- CAS: Atomic operation CAS stores OPERAND when the word equals COMPARE (R512). -/
  | cas (r : Req) (busy : Nat)
  /-- DRAM_SCRUB: The scrubber reads the next codeword and writes back a correction (R518). -/
  | dramScrub (ecc : Nat)
  /-- DRAM_CLEARED: The background clear of the DRAM ends and DRAM_CLEARED is raised (R519). -/
  | dramCleared
  /-- PWR_REQ_ACTIVE: A PWR_CTRL request with TARGET ACTIVE is a software wake or clears a pending request (R521). -/
  | pwrReqActive (r : Req)
  /-- PWR_REQ_REST: A PWR_CTRL request with TARGET REST is accepted as pending or refused (R521). -/
  | pwrReqRest (r : Req)
  /-- PWR_REQ_SLEEP: A PWR_CTRL request with TARGET SLEEP is accepted as pending, exits REST first, or is refused (R521). -/
  | pwrReqSleep (r : Req)
  /-- CONFIRM: A write of PWR_CTRL.CONFIRM confirms a wake in the false-wake window (R544). -/
  | confirm (r : Req)
  /-- DRAIN_DONE: The queues drain empty during REST or SLEEP entry and the sequence proceeds (R523). -/
  | drainDone
  /-- DRAIN_TIMEOUT: DRAIN_US expires and every remaining copy is discarded (R523). -/
  | drainTimeout
  /-- REST_ENTERED: Cache write-back, Headstock save and domain power-down complete and the device is in REST (R523). -/
  | restEntered
  /-- REST_EXIT_DONE: The REST exit sequence completes and the device is ACTIVE with WOKE raised (R526). -/
  | restExitDone
  /-- POINT_OF_NO_RETURN: The TC10 handshakes and state save end and the Tailstock begins switching off PD2 (R528). -/
  | pointOfNoReturn
  /-- SLEEP_ENTERED: Power-down completes and the device is in SLEEP (R528). -/
  | sleepEntered
  /-- MIN_SLEEP_EXPIRY: PWR_MIN_SLEEP ms after SLEEP is reached a latched wake event acts (R531). -/
  | minSleepExpiry
  /-- WAKE_SUPPLY_READY: The removed rails come into range after INH enables and the wake path starts (R533). -/
  | wakeSupplyReady (linkOk : Bool) (recOk : Bool)
  /-- WAKE_RAIL_TIMEOUT: A removed rail not in range 10 ms after INH enables resets the device (R598). -/
  | wakeRailTimeout
  /-- LEGACY_RELEASE: The early sections are loaded and the Spindles, Chuck, channels and turn run (R533). -/
  | legacyRelease (ok : Bool)
  /-- LATE_SECTIONS_LOADED: The late sections are loaded and enabled ports start training (R533). -/
  | lateSectionsLoaded (ok : Bool)
  /-- WAKE_HST_STARTED: HST_FW is loaded and checked after wake and the Headstock starts (R533). -/
  | wakeHstStarted (ok : Bool)
  /-- HOST_WAKE_TIMEOUT: 100 ms after legacy release the host WAKE_N pin is released (R538). -/
  | hostWakeTimeout
  /-- WAKE_IN_EDGE: A debounced WAKE_IN edge is a wake source or raises WAKE_IN_EDGE in ACTIVE (R541). -/
  | wakeInEdge (k : Nat) (rise : Bool)
  /-- VEH_MOVING_RISE: A rising VEH_MOVING is a wake source (R539). -/
  | vehMovingRise (stays : Bool)
  /-- PWR_TIMER_EXPIRY: PWR_TIMER ticks after entry completed are a wake event (R539). -/
  | pwrTimerExpiry
  /-- FW_WINDOW_EXPIRY: An unconfirmed false-wake window ends, counts the false wake and requests the state again (R544). -/
  | fwWindowExpiry
  /-- LINE_SAFE_STATE: PD5 loss or 10 ms of link loss puts every transceiver into its safe state (R545). -/
  | lineSafeState
  /-- NM_EN_WRITE: A write of NM_CFG.EN starts or stops a channel's NM engine (R546). -/
  | nmEnWrite (r : Req) (n : Nat) (v : Nat)
  /-- NM_REQ_WRITE: A write of NM_CTRL.REQ moves the engine to NM_AWAKE or NM_READY (R546). -/
  | nmReqWrite (r : Req) (n : Nat) (v : Nat)
  /-- NM_CYCLE: Every CYCLE ms in NM_AWAKE the engine sends its own NM message (R547). -/
  | nmCycle (n : Nat)
  /-- NM_TIMEOUT: TIMEOUT ms without an NM message in NM_READY moves the engine to NM_AGREED (R546). -/
  | nmTimeout (n : Nat)
  /-- VBAT_SAMPLE: Every 100 µs VBAT_SNS is measured and VBAT_LOW set or cleared (R549). -/
  | vbatSample (mv : Nat)
  /-- D2D_LINK_LOSS: The die-to-die link loses framing and all legacy channels become not ready (R24). -/
  | d2dLinkLoss
  /-- D2D_LINK_RETRAINED: The die-to-die link retrains and the channels become ready (R24). -/
  | d2dLinkRetrained
  /-- XTAL_FAIL: XTAL25_IN stops or drifts over 2,000 ppm for 4 µs, driving SAFE_N low and stopping forwarding (R44). -/
  | xtalFail
  /-- CLK32K_LOST: CLK32K_IN is absent or stops and the Tailstock keeps time from its RC oscillator (R45). -/
  | clk32kLost
  /-- SUPPLY_OUT_OF_RANGE: A required rail leaves its operating range for 1 µs and sets SUPPLY (R598). -/
  | supplyOutOfRange (bad : Bool)
  /-- SUPPLY_BELOW_TRIP: A required rail below its reset trip for 2 µs resets the device or makes channels not ready (R598). -/
  | supplyBelowTrip (rail : Nat)
  /-- HELLO_RX: A received HELLO is judged for part, epoch, mode and rank (R554). -/
  | helloRx (h : EplHdr) (ws : List Nat)
  /-- BEAT_RX: A received BEAT updates partner state, digest comparison and time steering (R565). -/
  | beatRx (h : EplHdr) (ws : List Nat) (sub : Nat)
  /-- JOURNAL_RX: A received JOURNAL fragment's records are applied as writes by PAIR, or a gap starts a resync (R559). -/
  | journalRx (h : EplHdr) (ws : List Nat)
  /-- RESYNC_RX: A received RESYNC frame's records are applied during bulk resync (R562). -/
  | resyncRx (h : EplHdr) (ws : List Nat)
  /-- RESYNC_REQUEST_RX: A RESYNC_CTL request makes the active start or restart a bulk resync (R562). -/
  | resyncRequestRx
  /-- RESYNC_START_RX: A RESYNC_CTL START begins a bulk resync on the standby (R562). -/
  | resyncStartRx
  /-- RESYNC_END_RX: A RESYNC_CTL END takes the member to STANDBY and raises RESYNC_DONE (R562). -/
  | resyncEndRx
  /-- INPUT_RX: An INPUT frame is entered at the standby's first pass as received on its port (R561). -/
  | inputRx (h : EplHdr) (ws : List Nat) (bytes : List Byte)
  /-- RACC_RX: A RACC frame is performed as an access by PAIR and answered with RACC_RSP (R572). -/
  | raccRx (wr : Bool) (off : Nat) (v : Nat)
  /-- RACC_RSP_RX: A RACC_RSP completes a remote access with OK (R572). -/
  | raccRspRx (v : Nat)
  /-- RACC_READ: PAIR_RACC_CMD.OP READ sends a remote read to the partner (R572). -/
  | raccRead (r : Req)
  /-- RACC_WRITE: PAIR_RACC_CMD.OP WRITE sends a remote write to the partner (R572). -/
  | raccWrite (r : Req)
  /-- RACC_TIMEOUT: 100 µs without an answer completes a remote access with TIMEOUT (R572). -/
  | raccTimeout
  /-- PAIR_SWITCH: A write of PAIR_CTRL.SWITCH hands the active role to the standby at the next edge (R569). -/
  | pairSwitch (r : Req)
  /-- PAIR_RESYNC: A write of PAIR_CTRL.RESYNC requests a bulk resync from DIVERGED or STANDBY (R562). -/
  | pairResync (r : Req)
  /-- PAIR_WAIT_EXPIRY: PAIR_CFG.WAIT ms after release without pairing, the member takes ROLE 1 (R557). -/
  | pairWaitExpiry
  /-- UPD_BEGIN: Update opcode 0x40 takes the lock and begins staging the inactive slot (R578). -/
  | updBegin (m : Nat)
  /-- UPD_WRITE: Update opcode 0x41 programs a range of the inactive slot from the Bench (R579). -/
  | updWrite (m : Nat)
  /-- UPD_FINISH: Update opcode 0x42 reads the slot back and checks digest and header (R581). -/
  | updFinish (m : Nat) (img : List Word)
  /-- ACTIVATE: Update opcode 0x43 verifies the staged image and, at its completion point, begins the pause (R583). -/
  | activate (m : Nat) (img : Option (List Word)) (room : Bool)
  /-- ACTIVATE_FW_LOADED: During the pause HST_FW is read and checked and the Headstock restarts on it (R584). -/
  | activateFwLoaded (ok : Bool)
  /-- ACTIVATE_SECTIONS_LOADED: During the pause the other sections are read, checked and loaded (R585). -/
  | activateSectionsLoaded (ok : Bool)
  /-- ACTIVATED: The pause ends, boot registers and attestation key are updated and mailboxes resume (R584). -/
  | activated
  /-- UPD_FLOOR: Update opcode 0x44 raises SEC_FLOOR in fuses (R587). -/
  | updFloor (m : Nat) (burnOk : Bool)
  /-- UPD_STATUS: Update opcode 0x45 returns the engine state and clears or enables events (R589). -/
  | updStatus (m : Nat)
  /-- UPD_CANCEL: Update opcode 0x46 returns the engine to IDLE and frees the lock (R576). -/
  | updCancel (m : Nat)
  /-- HST_COPY_TAKE: The Headstock firmware takes a copy queued on P35 (R26). -/
  | hstCopyTake (ecc : Nat) (info : Nat)
  /-- HST_FRAME_SEND: The Headstock sends a frame at P35 with optional time request fields (R385). -/
  | hstFrameSend (bytes : List Byte) (tc : Nat) (tsr : Nat) (td : Nat) (tag : Nat) (ref : Nat)
  /-- JTAG_INSTRUCTION: A TAP instruction is loaded; EXTEST-class instructions hold reset and leaving them restarts boot (R610). -/
  | jtagInstruction (i : TapInst) (st : Straps)
  /-- SER_WAKE_ACTIVITY: Differential activity of at least 10 µs on an RS-485 channel's wake receiver is a wake event of class SER in REST or SLEEP (R539). -/
  | serWakeActivity (n : Nat)
  /-- SWK_FRAME_DECODED: A CC frame decoded by the selective-wake decoder in WAKE_ARMED that does not wake the channel raises or lowers the frame error counter, or freezes it for an FD or XL frame (R160). -/
  | swkFrameDecoded (n : Nat) (cc : Bool) (err : Bool)
  /-- DRAM_TRAINED: DRAM training ends during the wake from SLEEP, DRAM_STAT.TRAINED sets and flow lookups, tracking, spilling and capture stop acting as R537 gives (R537). -/
  | dramTrained
  /-- HST_STATE_RESTORED: At REST exit step 5 the Headstock's core state is restored, the firmware resumes and the MGMT target is awake (R526). -/
  | hstStateRestored
  deriving DecidableEq, Repr

end Sys2Proof
end

