-- ==== Sys2Proof/Decode.lean ====
section
/-! DEFINITION. Commands as words. The table of operations and events gives none of its rows any bits: a command is an access, a
frame, a pin or an event, not a word. -/

namespace Sys2Proof

/-- The command that a word of `nbits` bits spells: none, since no row of the table has bits. -/
def decodeTableWord (_nbits _w : Nat) : Option Instr := none

end Sys2Proof
end

