-- ==== Sys2Proof/Machine/Crypto.lean ====
section
/-! DEFINITION. The digests and ciphers the spec names by their standards: SHA3-256 (FIPS 202), KMAC256
(SP 800-185), AES (FIPS 197), AES-CMAC (SP 800-38B), AES-GCM (SP 800-38D) and CRC-32C (R224). The standards stand
outside the spec: PRESUMED, log entry 4. -/

namespace Sys2Proof.Machine

/-- Bytes of a Nat, least significant first. -/
def leBytes : Nat → Nat → List Byte
  | 0, _ => []
  | n + 1, v => BitVec.ofNat 8 v :: leBytes n (v / 256)

/-- Bytes of a Nat, most significant first. -/
def beBytes (n v : Nat) : List Byte := (leBytes n v).reverse

/-- The Nat of bytes, least significant first. -/
def leNat : List Byte → Nat
  | [] => 0
  | b :: bs => b.toNat + 256 * leNat bs

/-- The Nat of bytes, most significant first. -/
def beNat (bs : List Byte) : Nat := bs.foldl (fun a b => a * 256 + b.toNat) 0

/-- The first `n` bytes, zeros after the end. -/
def takePad (n : Nat) (bs : List Byte) : List Byte := (bs ++ List.replicate n 0).take n

/-- Bytewise exclusive or, as long as the shorter. -/
def xorBytes (a b : List Byte) : List Byte := List.zipWith (· ^^^ ·) a b

def rotl64 (x n : Nat) : Nat := ((x <<< n) ||| (x >>> (64 - n))) % 2 ^ 64

/-- The walk of rho: from lane (x, y) its index with the offset of step t, then on to (y, 2x + 3y), n lanes in all. -/
def rhoWalk : Nat → Nat → Nat → Nat → List (Nat × Nat)
  | 0, _, _, _ => []
  | n + 1, t, x, y => (x + 5 * y, (t + 1) * (t + 2) / 2 % 64) :: rhoWalk n (t + 1) y ((2 * x + 3 * y) % 5)

/-- How far rho turns each lane: lane 0 stays, the others follow the walk from (1, 0). -/
def rhoBy : List Nat :=
  let w := rhoWalk 24 0 1 0
  (List.range 25).map fun lane => (w.lookup lane).getD 0

/-- n successive bits of the register of iota, x^8 + x^6 + x^5 + x^4 + 1. -/
def iotaBits : Nat → Nat → List Nat
  | 0, _ => []
  | n + 1, r => r % 2 :: iotaBits n (if r < 128 then 2 * r else (2 * r) ^^^ 0x171)

/-- The constant of each of n rounds: seven bits of the register apiece, bit j at place 2^j - 1. -/
def iotaRounds : Nat → List Nat → List Nat
  | 0, _ => []
  | n + 1, bits => ((bits.take 7).zipIdx.foldl (fun a e => a + e.1 * 2 ^ (2 ^ e.2 - 1)) 0) :: iotaRounds n (bits.drop 7)

/-- The constants of the 24 rounds. -/
def iotaBy : List Nat := iotaRounds 24 (iotaBits 168 1)

/-- One round of Keccak-f[1600] on 25 lanes, lane (x, y) at 5y + x. -/
def keccakRound (a : List Nat) (rc : Nat) : List Nat :=
  let l (v : List Nat) (i : Nat) : Nat := v.getD i 0
  let c := (List.range 5).map fun x => l a x ^^^ l a (x + 5) ^^^ l a (x + 10) ^^^ l a (x + 15) ^^^ l a (x + 20)
  let d := (List.range 5).map fun x => l c ((x + 4) % 5) ^^^ rotl64 (l c ((x + 1) % 5)) 1
  let b := (List.range 25).map fun i =>
    let x := (i % 5 + 3 * (i / 5)) % 5
    let j := x + 5 * (i % 5)
    rotl64 (l a j ^^^ l d x) (rhoBy.getD j 0)
  (List.range 25).map fun i =>
    let y := i / 5
    let x := i % 5
    let v := l b i ^^^ ((2 ^ 64 - 1 - l b ((x + 1) % 5 + 5 * y)) &&& l b ((x + 2) % 5 + 5 * y))
    if i = 0 then v ^^^ rc else v

def keccakF (a : List Nat) : List Nat := iotaBy.foldl keccakRound a

/-- Absorb one block of 136 bytes. -/
def keccakAbsorb (a : List Nat) (blk : List Byte) : List Nat :=
  keccakF ((List.range 25).map fun i => a.getD i 0 ^^^ (if i < 17 then leNat ((blk.drop (8 * i)).take 8) else 0))

def keccakBlocks : Nat → List Nat → List Byte → List Nat
  | 0, a, _ => a
  | n + 1, a, bs => keccakBlocks n (keccakAbsorb a (bs.take 136)) (bs.drop 136)

/-- The first 32 bytes of the sponge of rate 136 with a domain suffix. -/
def sponge136 (suffix : Byte) (m : List Byte) : List Byte :=
  let q := 136 - m.length % 136
  let pad := if q = 1 then [suffix ||| 0x80] else suffix :: (List.replicate (q - 2) 0 ++ [0x80])
  let s := m ++ pad
  ((keccakBlocks (s.length / 136) (List.replicate 25 0) s).take 4).flatMap (leBytes 8)

/-- SHA3-256. -/
def sha3_256 (m : List Byte) : List Byte := sponge136 0x06 m

def leftEncode (v : Nat) : List Byte :=
  let n := if v < 256 then 1 else if v < 65536 then 2 else 3
  BitVec.ofNat 8 n :: beBytes n v

def rightEncode (v : Nat) : List Byte :=
  let n := if v < 256 then 1 else if v < 65536 then 2 else 3
  beBytes n v ++ [BitVec.ofNat 8 n]

def encodeString (s : List Byte) : List Byte := leftEncode (8 * s.length) ++ s

def bytepad136 (x : List Byte) : List Byte :=
  let z := leftEncode 136 ++ x
  z ++ List.replicate ((136 - z.length % 136) % 136) 0

/-- KMAC256 with 256 bits of output. -/
def kmac256 (key x s : List Byte) : List Byte :=
  sponge136 0x04 (bytepad136 (encodeString [0x4B, 0x4D, 0x41, 0x43] ++ encodeString s) ++
    bytepad136 (encodeString key) ++ x ++ rightEncode 256)

/-- The bytes of an ASCII text. -/
def ascii (t : String) : List Byte := t.toList.map fun c => BitVec.ofNat 8 c.toNat

/-- Multiplication by x in GF(2^8) of FIPS 197. -/
def gfX (a : Nat) : Nat := if a < 128 then 2 * a else (2 * a) ^^^ 0x11B

def gfMulN : Nat → Nat → Nat → Nat
  | 0, _, _ => 0
  | n + 1, a, b => (if b % 2 = 1 then a else 0) ^^^ gfMulN n (gfX a) (b / 2)

def gfMul (a b : Nat) : Nat := gfMulN 8 a b

def gfSq (a : Nat) : Nat := gfMul a a

/-- The inverse a^254, zero for zero. -/
def gfInv (a : Nat) : Nat :=
  let a2 := gfSq a; let a3 := gfMul a2 a; let a6 := gfSq a3; let a12 := gfSq a6; let a15 := gfMul a12 a3
  let a30 := gfSq a15; let a60 := gfSq a30; let a120 := gfSq a60; let a126 := gfMul a120 a6
  let a127 := gfMul a126 a
  gfSq a127

/-- The S-box of FIPS 197. -/
def aesSub (b : Byte) : Byte :=
  let v := gfInv b.toNat
  let r (n : Nat) : Nat := ((v <<< n) ||| (v >>> (8 - n))) % 256
  BitVec.ofNat 8 (v ^^^ r 1 ^^^ r 2 ^^^ r 3 ^^^ r 4 ^^^ 0x63)

/-- The key expansion: `n` further words of four bytes after the key's `nk`, newest first. -/
def aesExpand (nk : Nat) : Nat → Nat → List (List Byte) → Nat → List (List Byte)
  | 0, _, ws, _ => ws
  | n + 1, i, ws, rcon =>
    let t := ws.headD []
    let p := ws.getD (nk - 1) []
    if i % nk = 0 then
      let r := ((t.drop 1) ++ (t.take 1)).map aesSub
      let r := xorBytes r [BitVec.ofNat 8 rcon, 0, 0, 0]
      aesExpand nk n (i + 1) (xorBytes p r :: ws) (gfX rcon)
    else if nk = 8 ∧ i % nk = 4 then aesExpand nk n (i + 1) (xorBytes p (t.map aesSub) :: ws) rcon
    else aesExpand nk n (i + 1) (xorBytes p t :: ws) rcon

def chunks (n : Nat) : Nat → List Byte → List (List Byte)
  | 0, _ => []
  | k + 1, bs => bs.take n :: chunks n k (bs.drop n)

/-- The round keys of a 16-byte or 32-byte key. -/
def aesKeys (key : List Byte) : List (List Byte) :=
  let nk := key.length / 4
  let ws := (aesExpand nk (4 * (nk + 7) - nk) nk (chunks 4 nk key).reverse 1).reverse
  (List.range (nk + 7)).map fun r => (List.range 4).flatMap fun j => ws.getD (4 * r + j) []

def aesShift (s : List Byte) : List Byte :=
  (List.range 16).map fun i => s.getD ((i + 4 * (i % 4)) % 16) 0

def aesMix (s : List Byte) : List Byte :=
  (List.range 16).map fun i =>
    let c := 4 * (i / 4)
    let g (k : Nat) : Nat := (s.getD (c + (i + k) % 4) 0).toNat
    BitVec.ofNat 8 (gfX (g 0) ^^^ gfX (g 1) ^^^ g 1 ^^^ g 2 ^^^ g 3)

/-- AES encryption of one block. -/
def aesBlock (key blk : List Byte) : List Byte :=
  let ks := aesKeys key
  let n := ks.length
  let s := xorBytes blk (ks.headD [])
  let s := ((ks.drop 1).take (n - 2)).foldl (fun s k => xorBytes (aesMix (aesShift (s.map aesSub))) k) s
  xorBytes (aesShift (s.map aesSub)) (ks.getD (n - 1) [])

/-- Doubling in GF(2^128) of SP 800-38B. -/
def cmacDbl (b : List Byte) : List Byte :=
  let v := beNat b
  beBytes 16 (if v < 2 ^ 127 then 2 * v else ((2 * v) % 2 ^ 128) ^^^ 0x87)

/-- AES-CMAC, all 16 bytes. -/
def aesCmac (key m : List Byte) : List Byte :=
  let k1 := cmacDbl (aesBlock key (List.replicate 16 0))
  let k2 := cmacDbl k1
  let n := if m.length = 0 then 1 else (m.length + 15) / 16
  let bs := chunks 16 n m
  let last := bs.getD (n - 1) []
  let last := if last.length = 16 then xorBytes last k1 else xorBytes (takePad 16 (last ++ [0x80])) k2
  ((bs.take (n - 1)) ++ [last]).foldl (fun c b => aesBlock key (xorBytes c b)) (List.replicate 16 0)

/-- Multiplication in GF(2^128) of SP 800-38D; the Nat's most significant bit is the standard's bit 0. -/
def ghashMulN : Nat → Nat → Nat → Nat → Nat
  | 0, _, _, z => z
  | n + 1, x, v, z =>
    ghashMulN n x (if v % 2 = 1 then (v / 2) ^^^ 0xE1000000000000000000000000000000 else v / 2)
      (if x.testBit n then z ^^^ v else z)

def ghash (h : Nat) (bs : List (List Byte)) : Nat :=
  bs.foldl (fun y b => ghashMulN 128 (y ^^^ beNat (takePad 16 b)) h 0) 0

/-- The key stream of GCM from a counter block. -/
def gcmStream (key iv : List Byte) : Nat → Nat → List Byte
  | 0, _ => []
  | n + 1, c => aesBlock key (iv ++ beBytes 4 c) ++ gcmStream key iv n (c + 1)

/-- Encrypt or decrypt the text of AES-GCM with a 12-byte IV. -/
def gcmText (key iv text : List Byte) : List Byte :=
  xorBytes text (gcmStream key iv ((text.length + 15) / 16) 2)

/-- The 16-byte tag of AES-GCM over AAD and ciphertext. -/
def gcmTag (key iv aad ct : List Byte) : List Byte :=
  let h := beNat (aesBlock key (List.replicate 16 0))
  let s := ghash h (chunks 16 ((aad.length + 15) / 16) aad ++ chunks 16 ((ct.length + 15) / 16) ct ++
    [beBytes 8 (8 * aad.length) ++ beBytes 8 (8 * ct.length)])
  xorBytes (beBytes 16 s) (aesBlock key (iv ++ [0, 0, 0, 1]))

/-- Bit steps of a reflected 32-bit CRC register of a polynomial. -/
def crcBits (poly : Nat) : Nat → Nat → Nat
  | 0, c => c
  | n + 1, c => crcBits poly n (if c % 2 = 1 then (c / 2) ^^^ poly else c / 2)

/-- The register of a reflected CRC after the bytes, from a start value, without inversion. -/
def crcRun (poly init : Nat) (bs : List Byte) : Nat := bs.foldl (fun c b => crcBits poly 8 (c ^^^ b.toNat)) init

/-- The CRC-32C register after the bytes (R224). -/
def crc32cRun (init : Nat) (bs : List Byte) : Nat := crcRun 0x82F63B78 init bs

/-- The four bytes of the FCS of a frame (R126, R552): the CRC-32 of IEEE 802.3, low byte first. (PRESUMED, log entry 106.) -/
def fcsOf (bs : List Byte) : List Byte := leBytes 4 (crcRun 0xEDB88320 0xFFFFFFFF bs ^^^ 0xFFFFFFFF)

/-- The bitwise inverse of the FCS (R316). -/
def fcsInverse (bs : List Byte) : List Byte := leBytes 4 (crcRun 0xEDB88320 0xFFFFFFFF bs)

end Sys2Proof.Machine
end

