-- ==== Sys2Proof/Config.lean ====
section
/-! DEFINITION. The free values: what the spec leaves open, or leaves to a standard outside it that this model does not
write out. Each is a constant without a body, so that nothing can be proved from its value (log entries 2 and 3). -/

namespace Sys2Proof.Config

/-- A free 32-bit value, drawn by a counter of the state (entropy, undefined read data). -/
opaque freeWord : Nat → Word

/-- ML-DSA-44 verification of FIPS 204 (R6): key, message, signature. -/
opaque mldsaVerify : List Byte → List Byte → List Byte → Bool

/-- ML-DSA-44 signature of FIPS 204 by the key pair of a 32-byte seed (R485, R490). -/
opaque mldsaSign : List Byte → List Byte → List Byte

/-- The public key of the ML-DSA-44 key pair of a 32-byte seed (R485). -/
opaque mldsaPublic : List Byte → List Byte

/-- The Lergus public keys in the boot ROM (R99): true the production key, false the development key. -/
opaque lergusKey : Bool → List Byte

/-- Whether the look-aside engine and the CAN protection use the whole 256-bit slot as an AES-256 key, or its low half
as an AES-128 key: R456 allows both and no field chooses (DESIGN CHOICE, log entry 7). -/
opaque wholeKey : Bool

/-- CANsec protection after CiA 613-2 (R473): key, AEAD, VCID, freshness value, payload to protected payload. -/
opaque cansecSeal : List Byte → Bool → Nat → Nat → List Byte → List Byte

/-- CANsec verification after CiA 613-2 (R473): key, AEAD, VCID, last freshness value, window and protected payload to
the new freshness value and the payload. -/
opaque cansecOpen : List Byte → Bool → Nat → Nat → Nat → List Byte → Option (Nat × List Byte)

/-- The receive constants fused per port and mode at production test (R400, R407): field 0 RX_BASE in 2^-16 ns, 1 RX_K in
2^-16, 2 C_REF and 3, 4 the valid range of the centroid in 2^-12 taps. -/
opaque rxFuse (port mode field : Nat) : Int

/-- The transmit latency fused per port and mode (R407, R409), in 2^-16 ns. -/
opaque txFuse (port mode : Nat) : Int

/-- The receive delay fused for a CAN transceiver (R158), in FRC units. -/
opaque canDelay (channel : Nat) : Nat

/-- The payload of a RACC frame (R572), whose layout the spec does not give: whether it writes, the offset and the data. -/
opaque raccSeal : Bool → Nat → Nat → List Byte

/-- What a RACC payload asks for. -/
opaque raccOpen : List Byte → Bool × Nat × Nat

/-- The payload of a RACC_RSP frame (R572): the data read. -/
opaque rspSeal : Nat → List Byte

/-- The data of a RACC_RSP payload. -/
opaque rspOpen : List Byte → Nat

/-- The configuration digest of the reset configuration (R563): its sum runs over the words of every table, whose addresses
the spec does not give. -/
opaque cfgBase : Nat

/-- The bytes a then w of R563 for a word of the configuration set, by the model's key of that word: the byte order and the
addresses of table words are not given. -/
opaque cfgMsg : Nat → Nat → List Byte

/-- The record index of hold buffer 0 in a TTS_MATRIX section: the spec gives no index form for its two kinds of record (DESIGN CHOICE, log entry 65). -/
opaque ttsBufIndex : Nat

end Sys2Proof.Config
end

