-- ==== Sys2Proof/Machine/Regs.lean ====
section
/-! DEFINITION. The register window of chapter 03 (R58, R60) and the register tables of chapters 02 to 25:
the blocks and their pages, every register's offset, its writable, write-1-to-clear and lockable bits (R16),
its reset value where it is not zero (R17), every counter with its SAT bit (R365), and the live ranges
that the turn edge copies into SNAP registers (R54 step 1). Offsets are window offsets (R58). -/

namespace Sys2Proof.Machine

/-- The blocks of R58. CPE stands for the cipher engine's common page, LA for its user pages. -/
inductive Blk where
  | glb | turn | cmb | boot | pwr | intc | time | tru | eth | hif | can | lin | ser | tts | gwy | pars | rule | flow | fwd | buf | tsn | mir | cpe | la | key | lcs | bench | dram | hst | pair
  deriving DecidableEq, Repr

/-- R58: base, instances, pages of one unit, block code and number that INST shows for the first unit. -/
structure BlkRow where
  blk : Blk
  base : Nat
  inst : Nat
  pages : Nat
  code : Nat
  inst0 : Nat
  deriving DecidableEq, Repr

/-- The page map of R58. -/
def blkRows : List BlkRow := [
  ⟨.glb, 0x0, 1, 1, 0x1, 0⟩,
  ⟨.turn, 0x1000, 1, 1, 0x2, 0⟩,
  ⟨.cmb, 0x2000, 4, 1, 0x3, 0⟩,
  ⟨.boot, 0x8000, 1, 2, 0x4, 0⟩,
  ⟨.pwr, 0xA000, 1, 2, 0x5, 0⟩,
  ⟨.intc, 0xC000, 1, 4, 0x6, 0⟩,
  ⟨.time, 0x10000, 1, 4, 0x10, 0⟩,
  ⟨.tru, 0x14000, 1, 2, 0x11, 0⟩,
  ⟨.eth, 0x20000, 32, 1, 0x20, 0⟩,
  ⟨.hif, 0x40000, 1, 8, 0x21, 0⟩,
  ⟨.can, 0x50000, 24, 1, 0x30, 0⟩,
  ⟨.lin, 0x68000, 8, 1, 0x31, 0⟩,
  ⟨.ser, 0x70000, 4, 1, 0x32, 0⟩,
  ⟨.tts, 0x74000, 1, 4, 0x33, 0⟩,
  ⟨.gwy, 0x78000, 1, 2, 0x34, 0⟩,
  ⟨.pars, 0x80000, 1, 2, 0x40, 0⟩,
  ⟨.rule, 0x88000, 1, 4, 0x41, 0⟩,
  ⟨.flow, 0x90000, 1, 4, 0x42, 0⟩,
  ⟨.fwd, 0x98000, 1, 4, 0x43, 0⟩,
  ⟨.buf, 0xA0000, 1, 16, 0x50, 0⟩,
  ⟨.tsn, 0xB0000, 38, 1, 0x51, 0⟩,
  ⟨.mir, 0xE0000, 1, 2, 0x52, 0⟩,
  ⟨.cpe, 0xF0000, 1, 1, 0x60, 0⟩,
  ⟨.la, 0xF1000, 16, 1, 0x60, 1⟩,
  ⟨.key, 0x108000, 1, 2, 0x61, 0⟩,
  ⟨.lcs, 0x10A000, 1, 1, 0x62, 0⟩,
  ⟨.bench, 0x110000, 1, 2, 0x70, 0⟩,
  ⟨.dram, 0x118000, 1, 2, 0x71, 0⟩,
  ⟨.hst, 0x120000, 1, 1, 0x72, 0⟩,
  ⟨.pair, 0x128000, 1, 2, 0x80, 0⟩]

/-- The first window offset of unit i of a block (R58). -/
def Blk.page : Blk → Nat → Nat
  | .glb, _ => 0x0
  | .turn, _ => 0x1000
  | .cmb, i => 0x2000 + 0x1000 * i
  | .boot, _ => 0x8000
  | .pwr, _ => 0xA000
  | .intc, _ => 0xC000
  | .time, _ => 0x10000
  | .tru, _ => 0x14000
  | .eth, i => 0x20000 + 0x1000 * i
  | .hif, _ => 0x40000
  | .can, i => 0x50000 + 0x1000 * i
  | .lin, i => 0x68000 + 0x1000 * i
  | .ser, i => 0x70000 + 0x1000 * i
  | .tts, _ => 0x74000
  | .gwy, _ => 0x78000
  | .pars, _ => 0x80000
  | .rule, _ => 0x88000
  | .flow, _ => 0x90000
  | .fwd, _ => 0x98000
  | .buf, _ => 0xA0000
  | .tsn, i => 0xB0000 + 0x1000 * i
  | .mir, _ => 0xE0000
  | .cpe, _ => 0xF0000
  | .la, i => 0xF1000 + 0x1000 * i
  | .key, _ => 0x108000
  | .lcs, _ => 0x10A000
  | .bench, _ => 0x110000
  | .dram, _ => 0x118000
  | .hst, _ => 0x120000
  | .pair, _ => 0x128000

/-- INTC sources of R438 held high by a page (R62); the LIN, SER, ETH, CAN, CMB and TSN pages have one per unit or per group. -/
def Blk.source : Blk → Nat → Option Nat
  | .glb, _ => some (20)
  | .turn, _ => some (18)
  | .cmb, i => some (176 + i)
  | .boot, _ => some (19)
  | .pwr, _ => some (16)
  | .intc, _ => some (22)
  | .time, _ => some (32)
  | .tru, _ => some (33)
  | .eth, i => some (48 + i)
  | .hif, _ => some (21)
  | .can, i => some (112 + i)
  | .lin, i => some (136 + i)
  | .ser, i => some (144 + i)
  | .tts, _ => some (148)
  | .gwy, _ => some (149)
  | .pars, _ => some (96)
  | .rule, _ => some (97)
  | .flow, _ => some (98)
  | .fwd, _ => some (99)
  | .buf, _ => some (80)
  | .tsn, i => some (81 + i / 4)
  | .mir, _ => some (91)
  | .cpe, _ => some (152)
  | .la, i => some (156 + i / 2)
  | .key, _ => some (153)
  | .lcs, _ => some (154)
  | .bench, _ => some (184)
  | .dram, _ => some (185)
  | .hst, _ => some (186)
  | .pair, _ => some (168)

namespace R
/-! Register offsets, one constant or function for each register of the chapters. -/
def TURN_CFG : Nat := 0x1040
def TURN_PHASE : Nat := 0x1044
def TURN_CTRL : Nat := 0x1048
def TURN_STAT : Nat := 0x104C
def TURN_CNT_LO : Nat := 0x1050
def TURN_CNT_HI : Nat := 0x1054
def TURN_IDX_LO : Nat := 0x1058
def TURN_IDX_HI : Nat := 0x105C
def TURN_EDGE_FRC0 : Nat := 0x1060
def TURN_EDGE_FRC1 : Nat := 0x1064
def TURN_EDGE_FRC2 : Nat := 0x1068
def TURN_HST_DONE : Nat := 0x106C
def TURN_LOAD : Nat := 0x1070
def TURN_LOAD_MAX : Nat := 0x1074
def TURN_OVR_CNT : Nat := 0x1078
def TURN_OVR_RUN : Nat := 0x107C
def TURN_STEP_CNT : Nat := 0x1080
def GLB_PART : Nat := 0x40
def GLB_SIREV : Nat := 0x44
def GLB_UID_LO : Nat := 0x48
def GLB_UID_HI : Nat := 0x4C
def GLB_OWN_VIOL : Nat := 0x50
def DEV_FEAT (k : Nat) : Nat := 0x60 + 0x4 * k
def DRV_FEAT_A (k : Nat) : Nat := 0x70 + 0x4 * k
def FEAT_CTRL_A : Nat := 0x80
def DRV_FEAT_B (k : Nat) : Nat := 0x90 + 0x4 * k
def FEAT_CTRL_B : Nat := 0xA0
def GLB_CNT_SAT : Nat := 0x2C0
def CMB_HDR (i : Nat) : Nat := 0x2040 + 0x1000 * i
def CMB_ARG (i k : Nat) : Nat := 0x2080 + 0x1000 * i + 0x4 * k
def CMB_GO (i : Nat) : Nat := 0x2100 + 0x1000 * i
def CMB_CPL (i : Nat) : Nat := 0x2104 + 0x1000 * i
def CMB_STAT (i : Nat) : Nat := 0x2108 + 0x1000 * i
def CMB_ABORT (i : Nat) : Nat := 0x210C + 0x1000 * i
def CMB_RES (i k : Nat) : Nat := 0x2140 + 0x1000 * i + 0x4 * k
def BOOT_STAT : Nat := 0x8040
def BOOT_STRAP : Nat := 0x8044
def BOOT_SLOT_A : Nat := 0x8048
def BOOT_SLOT_B : Nat := 0x804C
def BOOT_SEQ_A : Nat := 0x8050
def BOOT_SEQ_B : Nat := 0x8054
def BOOT_BUILD : Nat := 0x8058
def BOOT_EPOCH : Nat := 0x805C
def BOOT_FLOOR : Nat := 0x8060
def BOOT_T_DP : Nat := 0x8064
def BOOT_T_HOST : Nat := 0x8068
def BOOT_SKIP_CNT : Nat := 0x806C
def BOOT_DIGEST (k : Nat) : Nat := 0x8070 + 0x4 * k
def ETH_CTRL (i : Nat) : Nat := 0x20040 + 0x1000 * i
def ETH_MODE (i : Nat) : Nat := 0x20044 + 0x1000 * i
def ETH_STAT (i : Nat) : Nat := 0x20048 + 0x1000 * i
def ETH_MAX_FRAME (i : Nat) : Nat := 0x2004C + 0x1000 * i
def ETH_EEE (i : Nat) : Nat := 0x20050 + 0x1000 * i
def ETH_TC10 (i : Nat) : Nat := 0x20054 + 0x1000 * i
def ETH_PLCA (i : Nat) : Nat := 0x20058 + 0x1000 * i
def ETH_DIAG (i : Nat) : Nat := 0x2005C + 0x1000 * i
def ETH_SQI (i : Nat) : Nat := 0x20060 + 0x1000 * i
def ETH_MDIO_CFG (i : Nat) : Nat := 0x20070 + 0x1000 * i
def ETH_MDIO_CMD (i : Nat) : Nat := 0x20074 + 0x1000 * i
def ETH_MDIO_DATA (i : Nat) : Nat := 0x20078 + 0x1000 * i
def ETH_CNT_SAT (i : Nat) : Nat := 0x202C0 + 0x1000 * i
def CAN_CTRL (i : Nat) : Nat := 0x50040 + 0x1000 * i
def CAN_STAT (i : Nat) : Nat := 0x50044 + 0x1000 * i
def CAN_NBT (i : Nat) : Nat := 0x50048 + 0x1000 * i
def CAN_DBT (i : Nat) : Nat := 0x5004C + 0x1000 * i
def CAN_XBT (i : Nat) : Nat := 0x50050 + 0x1000 * i
def CAN_TDC (i : Nat) : Nat := 0x50054 + 0x1000 * i
def CAN_XLPWM (i : Nat) : Nat := 0x50058 + 0x1000 * i
def CAN_ERRC (i : Nat) : Nat := 0x5005C + 0x1000 * i
def CAN_BOFF (i : Nat) : Nat := 0x50060 + 0x1000 * i
def CAN_CANCEL_ID (i : Nat) : Nat := 0x50064 + 0x1000 * i
def CAN_CANCEL (i : Nat) : Nat := 0x50068 + 0x1000 * i
def CAN_TXQ (i : Nat) : Nat := 0x5006C + 0x1000 * i
def CAN_SWK_CTRL (i : Nat) : Nat := 0x50070 + 0x1000 * i
def CAN_SWK_ID (i : Nat) : Nat := 0x50074 + 0x1000 * i
def CAN_SWK_MASK (i : Nat) : Nat := 0x50078 + 0x1000 * i
def CAN_SWK_DLC (i : Nat) : Nat := 0x5007C + 0x1000 * i
def CAN_SWK_DATA0 (i : Nat) : Nat := 0x50080 + 0x1000 * i
def CAN_SWK_DATA1 (i : Nat) : Nat := 0x50084 + 0x1000 * i
def CAN_SWK_STAT (i : Nat) : Nat := 0x50088 + 0x1000 * i
def CAN_SWK_WID (i : Nat) : Nat := 0x5008C + 0x1000 * i
def CAN_SEC (i : Nat) : Nat := 0x50090 + 0x1000 * i
def CAN_CNT_SAT (i : Nat) : Nat := 0x502C0 + 0x1000 * i
def GWY_CTRL : Nat := 0x78040
def GWY_SA_LO : Nat := 0x78044
def GWY_SA_HI : Nat := 0x78048
def GWY_ENC_FRAMES : Nat := 0x78200
def GWY_DEC_MSGS : Nat := 0x78208
def GWY_BAD_CHANNEL : Nat := 0x78210
def GWY_ACF_BAD : Nat := 0x78214
def GWY_ACF_SKIP : Nat := 0x78218
def GWY_CNT_SAT : Nat := 0x782C0
def TTS_CTRL : Nat := 0x74040
def TTS_EV_CH : Nat := 0x74048
def TTS_CH_CFG (k : Nat) : Nat := 0x75040 + 0x40 * k
def TTS_CH_CYCLE (k : Nat) : Nat := 0x75044 + 0x40 * k
def TTS_CH_NTU (k : Nat) : Nat := 0x75048 + 0x40 * k
def TTS_CH_REF (k : Nat) : Nat := 0x7504C + 0x40 * k
def TTS_CH_PHASE (k : Nat) : Nat := 0x75050 + 0x40 * k
def TTS_CH_MATRIX (k : Nat) : Nat := 0x75054 + 0x40 * k
def TTS_CH_CTRL (k : Nat) : Nat := 0x75058 + 0x40 * k
def TTS_CH_HBCLR (k : Nat) : Nat := 0x7505C + 0x40 * k
def TTS_CH_STAT (k : Nat) : Nat := 0x75060 + 0x40 * k
def TTS_CH_GTOFS (k : Nat) : Nat := 0x75064 + 0x40 * k
def TTS_CH_LASTREF (k : Nat) : Nat := 0x75068 + 0x40 * k
def LIN_CTRL (i : Nat) : Nat := 0x68040 + 0x1000 * i
def LIN_STAT (i : Nat) : Nat := 0x68044 + 0x1000 * i
def LIN_RATE (i : Nat) : Nat := 0x68048 + 0x1000 * i
def LIN_ID (i k : Nat) : Nat := 0x68100 + 0x1000 * i + 0x4 * k
def LIN_SCHED_A (i k : Nat) : Nat := 0x68300 + 0x1000 * i + 0x4 * k
def LIN_SCHED_B (i k : Nat) : Nat := 0x68380 + 0x1000 * i + 0x4 * k
def SER_CTRL (i : Nat) : Nat := 0x70040 + 0x1000 * i
def SER_STAT (i : Nat) : Nat := 0x70044 + 0x1000 * i
def SER_RATE (i : Nat) : Nat := 0x70048 + 0x1000 * i
def SER_TURN (i : Nat) : Nat := 0x7004C + 0x1000 * i
def LIN_CNT_SAT (i : Nat) : Nat := 0x682C0 + 0x1000 * i
def SER_CNT_SAT (i : Nat) : Nat := 0x702C0 + 0x1000 * i
def PARS_CTRL : Nat := 0x80040
def PARS_STAT : Nat := 0x80044
def PARS_CHECK : Nat := 0x80048
def PARS_EXC_ACT : Nat := 0x8004C
def PARS_LIVE (k : Nat) : Nat := 0x80050 + 0x4 * k
def RULE_CTRL : Nat := 0x88040
def RULE_STAT : Nat := 0x88044
def RULE_CHECK : Nat := 0x88048
def RULE_HASH_SEED : Nat := 0x8804C
def RULE_VER_INFLIGHT (k : Nat) : Nat := 0x88050 + 0x4 * k
def RULE_ERR_ENTRY : Nat := 0x88060
def RULE_CNT_SAT : Nat := 0x882C0
def FLOW_CTRL : Nat := 0x90040
def FLOW_AGE_CFG : Nat := 0x90044
def FLOW_INS_CFG : Nat := 0x90048
def FLOW_PURGE : Nat := 0x9004C
def FLOW_USED (k : Nat) : Nat := 0x90050 + 0x4 * k
def FLOW_ERR_INDEX : Nat := 0x90060
def FLOW_SRCH_CMD : Nat := 0x90100
def FLOW_SRCH_INDEX : Nat := 0x90104
def FLOW_SRCH_DATA (k : Nat) : Nat := 0x90140 + 0x4 * k
def FLOW_CNT_SAT : Nat := 0x902C0
def FWD_CTRL : Nat := 0x98040
def FWD_SEED : Nat := 0x98044
def FWD_AGE_CFG : Nat := 0x98048
def FWD_AGE_TIME : Nat := 0x9804C
def FWD_MOVE_CFG : Nat := 0x98050
def FWD_FLAP_CFG : Nat := 0x98054
def FWD_PIN_CFG : Nat := 0x98058
def FWD_LEARN_STAT : Nat := 0x9805C
def FWD_FLAP_INFO : Nat := 0x98060
def FWD_DYN_USED : Nat := 0x98064
def FWD_SHD_CFG : Nat := 0x98068
def FWD_SHD_STAT : Nat := 0x9806C
def FWD_SHD_POS : Nat := 0x98070
def FWD_CNT_SAT : Nat := 0x982C0
def FWD_PORT (k : Nat) : Nat := 0x98400 + 0x4 * k
def FWD_LAG_SLOT (k : Nat) : Nat := 0x98500 + 0x4 * k
def BUF_CTRL : Nat := 0xA0040
def BUF_STAT : Nat := 0xA0044
def BUF_HDRM : Nat := 0xA0048
def BUF_SHARED : Nat := 0xA004C
def BUF_FREE : Nat := 0xA0050
def BUF_FREE_MIN : Nat := 0xA0054
def BUF_HDRM_USED : Nat := 0xA0058
def BUF_DESC_FREE : Nat := 0xA005C
def BUF_CT_EN : Nat := 0xA0060
def BUF_BURR_CFG : Nat := 0xA0064
def BUF_BURR_INFO : Nat := 0xA0068
def BUF_UNCORR_INFO : Nat := 0xA006C
def BUF_RESEQ_USED : Nat := 0xA0070
def BUF_SPILL_CFG : Nat := 0xA0074
def BUF_DEEP (k : Nat) : Nat := 0xA0100 + 0x4 * k
def BUF_DEEP_LEN (k : Nat) : Nat := 0xA0140 + 0x4 * k
def BUF_CNT_SAT : Nat := 0xA02C0
def BUF_CT_SAT0 : Nat := 0xA02C4
def BUF_CT_SAT1 : Nat := 0xA02C8
def QCFG (k : Nat) : Nat := 0xA8000 + 0x10 * k
def QLEN (k : Nat) : Nat := 0xA8004 + 0x10 * k
def QLEN_MAX (k : Nat) : Nat := 0xA8008 + 0x10 * k
def TSN_CTRL (i : Nat) : Nat := 0xB0040 + 0x1000 * i
def TSN_STAT (i : Nat) : Nat := 0xB0044 + 0x1000 * i
def TSN_ADM_BASE_S_LO (i : Nat) : Nat := 0xB0048 + 0x1000 * i
def TSN_ADM_BASE_S_HI (i : Nat) : Nat := 0xB004C + 0x1000 * i
def TSN_ADM_BASE_NS (i : Nat) : Nat := 0xB0050 + 0x1000 * i
def TSN_ADM_CYCLE (i : Nat) : Nat := 0xB0054 + 0x1000 * i
def TSN_ADM_CYC_EXT (i : Nat) : Nat := 0xB0058 + 0x1000 * i
def TSN_ADM_LIST (i : Nat) : Nat := 0xB005C + 0x1000 * i
def TSN_OPR_BASE_S_LO (i : Nat) : Nat := 0xB0060 + 0x1000 * i
def TSN_OPR_BASE_S_HI (i : Nat) : Nat := 0xB0064 + 0x1000 * i
def TSN_OPR_BASE_NS (i : Nat) : Nat := 0xB0068 + 0x1000 * i
def TSN_OPR_CYCLE (i : Nat) : Nat := 0xB006C + 0x1000 * i
def TSN_OPR_CYC_EXT (i : Nat) : Nat := 0xB0070 + 0x1000 * i
def TSN_OPR_LIST (i : Nat) : Nat := 0xB0074 + 0x1000 * i
def TSN_CCT_S_LO (i : Nat) : Nat := 0xB0078 + 0x1000 * i
def TSN_CCT_S_HI (i : Nat) : Nat := 0xB007C + 0x1000 * i
def TSN_CCT_NS (i : Nat) : Nat := 0xB0080 + 0x1000 * i
def TSN_GATE (i : Nat) : Nat := 0xB0084 + 0x1000 * i
def TSN_MAXSDU (i k : Nat) : Nat := 0xB0090 + 0x1000 * i + 0x4 * k
def TSN_CBS (i k : Nat) : Nat := 0xB00B0 + 0x1000 * i + 0x4 * k
def TSN_ATS_EN (i : Nat) : Nat := 0xB00D0 + 0x1000 * i
def TSN_PREEMPT (i : Nat) : Nat := 0xB00D4 + 0x1000 * i
def TSN_HOLD_ADV (i : Nat) : Nat := 0xB00D8 + 0x1000 * i
def TSN_REL_ADV (i : Nat) : Nat := 0xB00DC + 0x1000 * i
def TSN_SID (i : Nat) : Nat := 0xB00E0 + 0x1000 * i
def TSN_CNT_SAT (i : Nat) : Nat := 0xB02C0 + 0x1000 * i
def MIR_STAT : Nat := 0xE0040
def CAP_CTRL : Nat := 0xE0044
def CAP_WR : Nat := 0xE0048
def CAP_RD : Nat := 0xE004C
def CAP_RELEASE : Nat := 0xE0050
def CAP_RECS : Nat := 0xE0054
def CAP_DRAIN : Nat := 0xE0058
def MIR_SCFG (k : Nat) : Nat := 0xE0100 + 0x20 * k
def MIR_SIN (k : Nat) : Nat := 0xE0104 + 0x20 * k
def MIR_SOUT (k : Nat) : Nat := 0xE0108 + 0x20 * k
def MIR_SHI (k : Nat) : Nat := 0xE010C + 0x20 * k
def MIR_SRATE (k : Nat) : Nat := 0xE0110 + 0x20 * k
def MIR_SSEQ (k : Nat) : Nat := 0xE0114 + 0x20 * k
def SESS_COPIES (k : Nat) : Nat := 0xE0200 + 0x8 * k
def CAP_RECORDS : Nat := 0xE0240
def CAP_OCTETS : Nat := 0xE0248
def CAP_DROP : Nat := 0xE0250
def CAP_OVERWR : Nat := 0xE0254
def MIR_CNT_SAT : Nat := 0xE02C0
def TIME_CTRL : Nat := 0x10040
def TIME_STAT : Nat := 0x10044
def TIME_FRC (k : Nat) : Nat := 0x10048 + 0x4 * k
def TIME_SLP_RATIO : Nat := 0x10054
def TIME_XS_FRC (k : Nat) : Nat := 0x10060 + 0x4 * k
def TD_CTRL (k : Nat) : Nat := 0x10100 + 0x40 * k
def TD_STAT (k : Nat) : Nat := 0x10104 + 0x40 * k
def TD_S_LO (k : Nat) : Nat := 0x10108 + 0x40 * k
def TD_S_HI (k : Nat) : Nat := 0x1010C + 0x40 * k
def TD_NS (k : Nat) : Nat := 0x10110 + 0x40 * k
def TD_FRAC (k : Nat) : Nat := 0x10114 + 0x40 * k
def TD_RATE_LO (k : Nat) : Nat := 0x10118 + 0x40 * k
def TD_RATE_HI (k : Nat) : Nat := 0x1011C + 0x40 * k
def TD_SET_S_LO (k : Nat) : Nat := 0x10120 + 0x40 * k
def TD_SET_S_HI (k : Nat) : Nat := 0x10124 + 0x40 * k
def TD_SET_NS (k : Nat) : Nat := 0x10128 + 0x40 * k
def TD_ADJ (k : Nat) : Nat := 0x1012C + 0x40 * k
def TD_ADJ_REM (k : Nat) : Nat := 0x10130 + 0x40 * k
def TD_XS_S_LO (k : Nat) : Nat := 0x10400 + 0x10 * k
def TD_XS_S_HI (k : Nat) : Nat := 0x10404 + 0x10 * k
def TD_XS_NS (k : Nat) : Nat := 0x10408 + 0x10 * k
def TD_XS_FRAC (k : Nat) : Nat := 0x1040C + 0x10 * k
def TIME_CNT_SAT : Nat := 0x108C0
def TOUT_CFG (k : Nat) : Nat := 0x11040 + 0x20 * k
def TOUT_START_S_LO (k : Nat) : Nat := 0x11044 + 0x20 * k
def TOUT_START_S_HI (k : Nat) : Nat := 0x11048 + 0x20 * k
def TOUT_START_NS (k : Nat) : Nat := 0x1104C + 0x20 * k
def TOUT_PERIOD (k : Nat) : Nat := 0x11050 + 0x20 * k
def TOUT_WIDTH (k : Nat) : Nat := 0x11054 + 0x20 * k
def TOUT_STAT (k : Nat) : Nat := 0x11058 + 0x20 * k
def TCAP_CFG (k : Nat) : Nat := 0x11140 + 0x4 * k
def TCAP_FIFO : Nat := 0x11160
def TCAP_E (k : Nat) : Nat := 0x11170 + 0x4 * k
def TIME_TRAP : Nat := 0x12040
def TIME_DMAP (k : Nat) : Nat := 0x12050 + 0x4 * k
def TSF_STAT : Nat := 0x12080
def TSF_E (k : Nat) : Nat := 0x12090 + 0x4 * k
def PTP_PORT_CFG (k : Nat) : Nat := 0x12100 + 0x10 * k
def PTP_LINK_DELAY (k : Nat) : Nat := 0x12104 + 0x10 * k
def KEEP_CFG (k : Nat) : Nat := 0x13040 + 0x10 * k
def KEEP_PORTS (k : Nat) : Nat := 0x13044 + 0x10 * k
def KEEP_STAT (k : Nat) : Nat := 0x13048 + 0x10 * k
def TRU_CTRL : Nat := 0x14040
def TRU_TOL : Nat := 0x14044
def TRU_CAL_MAP : Nat := 0x14048
def TRU_FAULT_MAP : Nat := 0x1404C
def TRU_PUBLISH : Nat := 0x14200
def TRU_SENSE_MISS : Nat := 0x14208
def TRU_TX_RESID : Nat := 0x1420C
def TRU_RX_JUMP : Nat := 0x14210
def TRU_MODEL_FAULT : Nat := 0x14214
def TRU_CNT_SAT : Nat := 0x142C0
def TRU_PCFG (k : Nat) : Nat := 0x15040 + 0x20 * k
def TRU_PSTAT (k : Nat) : Nat := 0x15044 + 0x20 * k
def TRU_RX_CORR (k : Nat) : Nat := 0x15048 + 0x20 * k
def TRU_TX_LAT (k : Nat) : Nat := 0x1504C + 0x20 * k
def TRU_EXT_RX (k : Nat) : Nat := 0x15050 + 0x20 * k
def TRU_EXT_TX (k : Nat) : Nat := 0x15054 + 0x20 * k
def TRU_TXRES_MAX (k : Nat) : Nat := 0x15058 + 0x20 * k
def TRU_CENTROID (k : Nat) : Nat := 0x1505C + 0x20 * k
def HIF_EPSTAT_A : Nat := 0x40040
def HIF_EPSTAT_B : Nat := 0x40044
def HIF_STEER_A (k : Nat) : Nat := 0x40100 + 0x4 * k
def HIF_STEER_B (k : Nat) : Nat := 0x40120 + 0x4 * k
def HIF_CNT_SAT : Nat := 0x402C0
def RING_BASE_LO_RX (k : Nat) : Nat := 0x41040 + 0x20 * k
def RING_BASE_LO_TX (k : Nat) : Nat := 0x42040 + 0x20 * k
def RING_BASE_HI_RX (k : Nat) : Nat := 0x41044 + 0x20 * k
def RING_BASE_HI_TX (k : Nat) : Nat := 0x42044 + 0x20 * k
def RING_CFG_RX (k : Nat) : Nat := 0x41048 + 0x20 * k
def RING_CFG_TX (k : Nat) : Nat := 0x42048 + 0x20 * k
def RING_TAIL_RX (k : Nat) : Nat := 0x4104C + 0x20 * k
def RING_TAIL_TX (k : Nat) : Nat := 0x4204C + 0x20 * k
def RING_HEAD_RX (k : Nat) : Nat := 0x41050 + 0x20 * k
def RING_HEAD_TX (k : Nat) : Nat := 0x42050 + 0x20 * k
def RING_CTRL_RX (k : Nat) : Nat := 0x41054 + 0x20 * k
def RING_CTRL_TX (k : Nat) : Nat := 0x42054 + 0x20 * k
def RING_STAT_RX (k : Nat) : Nat := 0x41058 + 0x20 * k
def RING_STAT_TX (k : Nat) : Nat := 0x42058 + 0x20 * k
def RP_CFG (k : Nat) : Nat := 0x43040 + 0x10 * k
def RP_MOD (k : Nat) : Nat := 0x43044 + 0x10 * k
def RP_IRQ (k : Nat) : Nat := 0x43048 + 0x10 * k
def RING_FRAMES (k : Nat) : Nat := 0x44040 + 0x10 * k
def RING_OCTETS (k : Nat) : Nat := 0x44048 + 0x10 * k
def INTC_SAFE_RAW : Nat := 0xC040
def INTC_SAFE_EN : Nat := 0xC044
def INTC_SAFE_FORCE : Nat := 0xC048
def INTC_TGT_SLEEP : Nat := 0xC04C
def INTC_CLAIM (k : Nat) : Nat := 0xC080 + 0x4 * k
def INTC_DONE (k : Nat) : Nat := 0xC090 + 0x4 * k
def INTC_TGT_STAT (k : Nat) : Nat := 0xC0A0 + 0x4 * k
def INTC_HOLD (k : Nat) : Nat := 0xC100 + 0x4 * k
def INTC_LEVEL (k : Nat) : Nat := 0xC200 + 0x4 * k
def INTC_PEND (k : Nat) : Nat := 0xC220 + 0x4 * k
def INTC_ACTV (k : Nat) : Nat := 0xC240 + 0x4 * k
def INTC_CNT_SAT : Nat := 0xC2C0
def INTC_SRC_CFG (k : Nat) : Nat := 0xD000 + 0x4 * k
def CPE_STAT : Nat := 0xF0040
def CPE_PN_MARGIN : Nat := 0xF0044
def CPE_FV_WINDOW : Nat := 0xF0048
def CPE_CAN_FAIL : Nat := 0xF004C
def CPE_CAN_FAIL_ID : Nat := 0xF0050
def CPE_LA_BUSY : Nat := 0xF0060
def CPE_UWIN_BASE (k : Nat) : Nat := 0xF0100 + 0x8 * k
def CPE_UWIN_LIM (k : Nat) : Nat := 0xF0104 + 0x8 * k
def CPE_CNT_SAT : Nat := 0xF02C0
def LA_CMD (i : Nat) : Nat := 0xF1040 + 0x1000 * i
def LA_SRC (i : Nat) : Nat := 0xF1044 + 0x1000 * i
def LA_DST (i : Nat) : Nat := 0xF1048 + 0x1000 * i
def LA_LEN (i : Nat) : Nat := 0xF104C + 0x1000 * i
def LA_AAD_LEN (i : Nat) : Nat := 0xF1050 + 0x1000 * i
def LA_IV (i k : Nat) : Nat := 0xF1060 + 0x1000 * i + 0x4 * k
def LA_TAG (i k : Nat) : Nat := 0xF1070 + 0x1000 * i + 0x4 * k
def LA_GO (i : Nat) : Nat := 0xF1080 + 0x1000 * i
def LA_STAT (i : Nat) : Nat := 0xF1084 + 0x1000 * i
def LA_ABORT (i : Nat) : Nat := 0xF1088 + 0x1000 * i
def LA_OUT (i k : Nat) : Nat := 0xF10A0 + 0x1000 * i + 0x4 * k
def KEY_STAT : Nat := 0x108040
def KEY_SLOT_SEL : Nat := 0x108044
def KEY_SLOT_STAT : Nat := 0x108048
def KEY_SLOT_ATTR : Nat := 0x10804C
def KEY_USE_LO : Nat := 0x108050
def KEY_USE_HI : Nat := 0x108054
def KEY_LIMIT_LO : Nat := 0x108058
def KEY_LIMIT_HI : Nat := 0x10805C
def KEY_INSTALLS : Nat := 0x108200
def KEY_HELD_CHANGES : Nat := 0x108208
def KEY_SLOT_UNCORR : Nat := 0x10820C
def KEY_ENT_FAIL : Nat := 0x108210
def KEY_CNT_SAT : Nat := 0x1082C0
def LCS_STATE : Nat := 0x10A040
def LCS_OWNER : Nat := 0x10A044
def LCS_OWNER_KH0 (k : Nat) : Nat := 0x10A048 + 0x4 * k
def LCS_OWNER_KH1 (k : Nat) : Nat := 0x10A068 + 0x4 * k
def LCS_TAMP_CFG : Nat := 0x10A088
def LCS_TAMP_STAT : Nat := 0x10A08C
def LCS_TAMP_REC : Nat := 0x10A090
def LCS_TAMP_TICK : Nat := 0x10A094
def HST_STAT : Nat := 0x120040
def HST_CTRL : Nat := 0x120044
def HST_CKPT_TURN_LO : Nat := 0x120048
def HST_CKPT_TURN_HI : Nat := 0x12004C
def HST_LOG_USED : Nat := 0x120050
def HST_MISMATCH : Nat := 0x120054
def HST_RESTART_US : Nat := 0x120058
def HST_CKPT_COUNT : Nat := 0x120200
def HST_LOCKSTEP_CNT : Nat := 0x120208
def HST_RESTART_CNT : Nat := 0x12020C
def HST_CKPT_EXTRA : Nat := 0x120210
def HST_CNT_SAT : Nat := 0x1202C0
def BENCH_DBG : Nat := 0x110040
def BENCH_ERR_INFO : Nat := 0x110044
def BENCH_OWN (k : Nat) : Nat := 0x110100 + 0x4 * k
def BENCH_BUSY_CNT : Nat := 0x110200
def BENCH_CORR : Nat := 0x110208
def BENCH_UNCORR : Nat := 0x11020C
def BENCH_RETRY_FAIL_HST : Nat := 0x110210
def BENCH_RETRY_FAIL_CPE : Nat := 0x110214
def BENCH_RETRY_FAIL_BRIDGE : Nat := 0x110218
def BENCH_RETRY_FAIL_DMA : Nat := 0x11021C
def BENCH_OWN_REFUSED : Nat := 0x110220
def BENCH_CNT_SAT : Nat := 0x1102C0
def ATOM_ADDR (k : Nat) : Nat := 0x110400 + 0x20 * k
def ATOM_CMD (k : Nat) : Nat := 0x110404 + 0x20 * k
def ATOM_OPND_LO (k : Nat) : Nat := 0x110408 + 0x20 * k
def ATOM_OPND_HI (k : Nat) : Nat := 0x11040C + 0x20 * k
def ATOM_CMP_LO (k : Nat) : Nat := 0x110410 + 0x20 * k
def ATOM_CMP_HI (k : Nat) : Nat := 0x110414 + 0x20 * k
def ATOM_OLD_LO (k : Nat) : Nat := 0x110418 + 0x20 * k
def ATOM_OLD_HI (k : Nat) : Nat := 0x11041C + 0x20 * k
def DRAM_STAT : Nat := 0x118040
def DRAM_SCRUB_CFG : Nat := 0x118044
def DRAM_SCRUB_POS : Nat := 0x118048
def DRAM_CORR_INFO : Nat := 0x11804C
def DRAM_UNCORR_INFO : Nat := 0x118050
def DRAM_CORR_THRESH : Nat := 0x118054
def DRAM_CORR : Nat := 0x118200
def SCRUB_SWEEPS : Nat := 0x118208
def DRAM_UNCORR_FLOW : Nat := 0x118210
def DRAM_UNCORR_DEEP : Nat := 0x118214
def DRAM_UNCORR_CAPTURE : Nat := 0x118218
def DRAM_UNCORR_SHADOW : Nat := 0x11821C
def DRAM_UNCORR_HST : Nat := 0x118220
def DRAM_CNT_SAT : Nat := 0x1182C0
def PWR_CTRL : Nat := 0xA040
def PWR_STAT : Nat := 0xA044
def PWR_CFG : Nat := 0xA048
def PWR_INH_CFG : Nat := 0xA04C
def PWR_WAKE_EN : Nat := 0xA050
def PWR_WAKE_CAN : Nat := 0xA054
def PWR_WAKE_LEG : Nat := 0xA058
def PWR_WAKE_TC10 : Nat := 0xA05C
def PWR_WIN_CFG (k : Nat) : Nat := 0xA060 + 0x4 * k
def PWR_TIMER : Nat := 0xA070
def PWR_MIN_SLEEP : Nat := 0xA074
def PWR_TAMPER_WAKE : Nat := 0xA078
def PWR_FW_CFG : Nat := 0xA07C
def PWR_FW_RUN : Nat := 0xA080
def PWR_FW_BLOCK0 : Nat := 0xA084
def PWR_FW_BLOCK1 : Nat := 0xA088
def PWR_WAKE_REASON : Nat := 0xA08C
def PWR_WAKE_TICK : Nat := 0xA090
def PWR_SLEEP_TICKS : Nat := 0xA094
def PWR_VBAT : Nat := 0xA098
def PWR_VBAT_UV : Nat := 0xA09C
def PWR_REST_ENTRIES : Nat := 0xA200
def NM_TX : Nat := 0xA208
def PWR_ENTRY_CANCELS : Nat := 0xA210
def PWR_DRAIN_DROPS : Nat := 0xA214
def PWR_REST_IN_DROP : Nat := 0xA218
def PWR_CNT_SAT : Nat := 0xA2C0
def NM_CFG (k : Nat) : Nat := 0xB040 + 0x20 * k
def NM_ID (k : Nat) : Nat := 0xB044 + 0x20 * k
def NM_MASK (k : Nat) : Nat := 0xB048 + 0x20 * k
def NM_TIMING (k : Nat) : Nat := 0xB04C + 0x20 * k
def NM_CTRL (k : Nat) : Nat := 0xB050 + 0x20 * k
def NM_DATA0 (k : Nat) : Nat := 0xB054 + 0x20 * k
def NM_DATA1 (k : Nat) : Nat := 0xB058 + 0x20 * k
def NM_STAT (k : Nat) : Nat := 0xB05C + 0x20 * k
def PAIR_CTRL : Nat := 0x128040
def PAIR_STAT : Nat := 0x128044
def PAIR_CFG : Nat := 0x128048
def PAIR_TIME_CFG : Nat := 0x12804C
def PAIR_TIME_MAP : Nat := 0x128050
def PAIR_GATE_LEG0 : Nat := 0x128054
def PAIR_GATE_LEG1 : Nat := 0x128058
def PAIR_GATE_ETH : Nat := 0x12805C
def PAIR_GATE_PIN0 : Nat := 0x128060
def PAIR_GATE_PIN1 : Nat := 0x128064
def PAIR_IN_PORTS : Nat := 0x128068
def PAIR_IN_HOST : Nat := 0x12806C
def PAIR_FEAT (k : Nat) : Nat := 0x128070 + 0x4 * k
def PAIR_JSEQ : Nat := 0x128080
def PAIR_PARTNER : Nat := 0x128084
def PAIR_LINK_DELAY : Nat := 0x128088
def PAIR_DIG_LO : Nat := 0x12808C
def PAIR_DIG_HI : Nat := 0x128090
def PAIR_OFS (k : Nat) : Nat := 0x1280A0 + 0x4 * k
def PAIR_RACC_ADDR : Nat := 0x1280C0
def PAIR_RACC_DATA : Nat := 0x1280C4
def PAIR_RACC_CMD : Nat := 0x1280C8
def PAIR_CNT_SAT : Nat := 0x1282C0
def TTS_CNT_SAT (k : Nat) : Nat := 0x7607C + 0x40 * k
def PARS_CNT_SAT : Nat := 0x802C0
end R

/-- A counter of 32 bits that saturates (R365): its offset, its SAT register and bit, and the page and bit
of the COUNTER_SAT event. -/
structure Cnt where
  at_ : Nat
  sat : Nat
  bit : Nat
  page : Nat
  ev : Nat
  deriving DecidableEq, Repr

namespace C
/-! Live counters: a 64-bit wrapping counter is its _LO offset, a 32-bit saturating one a `Cnt`. -/
def ETH_RX_OCTETS (i : Nat) : Nat := 0x20200 + 0x1000 * i
def ETH_RX_FRAMES (i : Nat) : Nat := 0x20208 + 0x1000 * i
def ETH_RX_UCAST (i : Nat) : Nat := 0x20210 + 0x1000 * i
def ETH_RX_MCAST (i : Nat) : Nat := 0x20218 + 0x1000 * i
def ETH_RX_BCAST (i : Nat) : Nat := 0x20220 + 0x1000 * i
def ETH_RX_64 (i : Nat) : Nat := 0x20228 + 0x1000 * i
def ETH_RX_65_127 (i : Nat) : Nat := 0x20230 + 0x1000 * i
def ETH_RX_128_255 (i : Nat) : Nat := 0x20238 + 0x1000 * i
def ETH_RX_256_511 (i : Nat) : Nat := 0x20240 + 0x1000 * i
def ETH_RX_512_1023 (i : Nat) : Nat := 0x20248 + 0x1000 * i
def ETH_RX_1024_1518 (i : Nat) : Nat := 0x20250 + 0x1000 * i
def ETH_RX_1519_MAX (i : Nat) : Nat := 0x20258 + 0x1000 * i
def ETH_TX_OCTETS (i : Nat) : Nat := 0x20260 + 0x1000 * i
def ETH_TX_FRAMES (i : Nat) : Nat := 0x20268 + 0x1000 * i
def ETH_TX_UCAST (i : Nat) : Nat := 0x20270 + 0x1000 * i
def ETH_TX_MCAST (i : Nat) : Nat := 0x20278 + 0x1000 * i
def ETH_TX_BCAST (i : Nat) : Nat := 0x20280 + 0x1000 * i
def ETH_FEC_CORR (i : Nat) : Nat := 0x20288 + 0x1000 * i
def ETH_LPI_TIME (i : Nat) : Nat := 0x20290 + 0x1000 * i
def ETH_RX_FCS_ERR (i : Nat) : Cnt := ⟨0x20298 + 0x1000 * i, 0x202C0 + 0x1000 * i, 0, 0x20000 + 0x1000 * i, 9⟩
def ETH_RX_RUNT (i : Nat) : Cnt := ⟨0x2029C + 0x1000 * i, 0x202C0 + 0x1000 * i, 1, 0x20000 + 0x1000 * i, 9⟩
def ETH_RX_OVERSIZE (i : Nat) : Cnt := ⟨0x202A0 + 0x1000 * i, 0x202C0 + 0x1000 * i, 2, 0x20000 + 0x1000 * i, 9⟩
def ETH_RX_PCS_ERR (i : Nat) : Cnt := ⟨0x202A4 + 0x1000 * i, 0x202C0 + 0x1000 * i, 3, 0x20000 + 0x1000 * i, 9⟩
def ETH_RX_MAC_CTRL (i : Nat) : Cnt := ⟨0x202A8 + 0x1000 * i, 0x202C0 + 0x1000 * i, 4, 0x20000 + 0x1000 * i, 9⟩
def ETH_FEC_UNCORR (i : Nat) : Cnt := ⟨0x202AC + 0x1000 * i, 0x202C0 + 0x1000 * i, 5, 0x20000 + 0x1000 * i, 9⟩
def ETH_TX_ABORT (i : Nat) : Cnt := ⟨0x202B0 + 0x1000 * i, 0x202C0 + 0x1000 * i, 6, 0x20000 + 0x1000 * i, 9⟩
def ETH_LINK_DOWN_CNT (i : Nat) : Cnt := ⟨0x202B4 + 0x1000 * i, 0x202C0 + 0x1000 * i, 7, 0x20000 + 0x1000 * i, 9⟩
def ETH_T1S_COLL (i : Nat) : Cnt := ⟨0x202B8 + 0x1000 * i, 0x202C0 + 0x1000 * i, 8, 0x20000 + 0x1000 * i, 9⟩
def ETH_T1S_TX_DROP (i : Nat) : Cnt := ⟨0x202BC + 0x1000 * i, 0x202C0 + 0x1000 * i, 9, 0x20000 + 0x1000 * i, 9⟩
def CAN_RX_FRAMES (i : Nat) : Nat := 0x50200 + 0x1000 * i
def CAN_TX_FRAMES (i : Nat) : Nat := 0x50208 + 0x1000 * i
def CAN_RX_BYTES (i : Nat) : Nat := 0x50210 + 0x1000 * i
def CAN_TX_BYTES (i : Nat) : Nat := 0x50218 + 0x1000 * i
def CAN_ERR_STUFF (i : Nat) : Cnt := ⟨0x50220 + 0x1000 * i, 0x502C0 + 0x1000 * i, 0, 0x50000 + 0x1000 * i, 8⟩
def CAN_ERR_FORM (i : Nat) : Cnt := ⟨0x50224 + 0x1000 * i, 0x502C0 + 0x1000 * i, 1, 0x50000 + 0x1000 * i, 8⟩
def CAN_ERR_ACK (i : Nat) : Cnt := ⟨0x50228 + 0x1000 * i, 0x502C0 + 0x1000 * i, 2, 0x50000 + 0x1000 * i, 8⟩
def CAN_ERR_BIT (i : Nat) : Cnt := ⟨0x5022C + 0x1000 * i, 0x502C0 + 0x1000 * i, 3, 0x50000 + 0x1000 * i, 8⟩
def CAN_ERR_CRC (i : Nat) : Cnt := ⟨0x50230 + 0x1000 * i, 0x502C0 + 0x1000 * i, 4, 0x50000 + 0x1000 * i, 8⟩
def CAN_ARB_LOST (i : Nat) : Cnt := ⟨0x50234 + 0x1000 * i, 0x502C0 + 0x1000 * i, 5, 0x50000 + 0x1000 * i, 8⟩
def CAN_BUS_OFF_CNT (i : Nat) : Cnt := ⟨0x50238 + 0x1000 * i, 0x502C0 + 0x1000 * i, 6, 0x50000 + 0x1000 * i, 8⟩
def CAN_RX_OVERRUN (i : Nat) : Cnt := ⟨0x5023C + 0x1000 * i, 0x502C0 + 0x1000 * i, 7, 0x50000 + 0x1000 * i, 8⟩
def CAN_TX_POOL_FULL (i : Nat) : Cnt := ⟨0x50240 + 0x1000 * i, 0x502C0 + 0x1000 * i, 8, 0x50000 + 0x1000 * i, 8⟩
def CAN_TX_CANCELLED (i : Nat) : Cnt := ⟨0x50244 + 0x1000 * i, 0x502C0 + 0x1000 * i, 9, 0x50000 + 0x1000 * i, 8⟩
def CAN_TX_FMT_DROP (i : Nat) : Cnt := ⟨0x50248 + 0x1000 * i, 0x502C0 + 0x1000 * i, 10, 0x50000 + 0x1000 * i, 8⟩
def CAN_RX_SEC_FAIL (i : Nat) : Cnt := ⟨0x5024C + 0x1000 * i, 0x502C0 + 0x1000 * i, 11, 0x50000 + 0x1000 * i, 8⟩
def CAN_TX_SEC_DROP (i : Nat) : Cnt := ⟨0x50250 + 0x1000 * i, 0x502C0 + 0x1000 * i, 12, 0x50000 + 0x1000 * i, 8⟩
def CAN_PROTO_EXC (i : Nat) : Cnt := ⟨0x50254 + 0x1000 * i, 0x502C0 + 0x1000 * i, 13, 0x50000 + 0x1000 * i, 8⟩
def CAN_TX_DISCARD (i : Nat) : Cnt := ⟨0x50258 + 0x1000 * i, 0x502C0 + 0x1000 * i, 14, 0x50000 + 0x1000 * i, 8⟩
def TTS_REF_TX (k : Nat) : Nat := 0x76040 + 0x40 * k
def TTS_REF_RX (k : Nat) : Nat := 0x76048 + 0x40 * k
def TTS_SLOT_TX (k : Nat) : Nat := 0x76050 + 0x40 * k
def TTS_SLOT_MISS (k : Nat) : Cnt := ⟨0x76058 + 0x40 * k, 0x7607C + 0x40 * k, 0, 0x74000, 8⟩
def TTS_SLOT_EMPTY (k : Nat) : Cnt := ⟨0x7605C + 0x40 * k, 0x7607C + 0x40 * k, 1, 0x74000, 8⟩
def TTS_RX_MISS (k : Nat) : Cnt := ⟨0x76060 + 0x40 * k, 0x7607C + 0x40 * k, 2, 0x74000, 8⟩
def TTS_MASTER_CHG (k : Nat) : Cnt := ⟨0x76064 + 0x40 * k, 0x7607C + 0x40 * k, 3, 0x74000, 8⟩
def TTS_WIN_OVERLAP (k : Nat) : Cnt := ⟨0x76068 + 0x40 * k, 0x7607C + 0x40 * k, 4, 0x74000, 8⟩
def LIN_RX_FRAMES (i : Nat) : Nat := 0x68200 + 0x1000 * i
def SER_RX_FRAMES (i : Nat) : Nat := 0x70200 + 0x1000 * i
def LIN_TX_FRAMES (i : Nat) : Nat := 0x68208 + 0x1000 * i
def SER_TX_FRAMES (i : Nat) : Nat := 0x70208 + 0x1000 * i
def LIN_NO_RESP (i : Nat) : Cnt := ⟨0x68210 + 0x1000 * i, 0x682C0 + 0x1000 * i, 0, 0x68000 + 0x1000 * i, 2⟩
def SER_FRAME_ERR (i : Nat) : Cnt := ⟨0x70210 + 0x1000 * i, 0x702C0 + 0x1000 * i, 0, 0x70000 + 0x1000 * i, 2⟩
def LIN_CSUM_ERR (i : Nat) : Cnt := ⟨0x68214 + 0x1000 * i, 0x682C0 + 0x1000 * i, 1, 0x68000 + 0x1000 * i, 2⟩
def SER_PARITY_ERR (i : Nat) : Cnt := ⟨0x70214 + 0x1000 * i, 0x702C0 + 0x1000 * i, 1, 0x70000 + 0x1000 * i, 2⟩
def LIN_EMPTY (i : Nat) : Cnt := ⟨0x68218 + 0x1000 * i, 0x682C0 + 0x1000 * i, 2, 0x68000 + 0x1000 * i, 2⟩
def SER_RX_SPLIT (i : Nat) : Cnt := ⟨0x70218 + 0x1000 * i, 0x702C0 + 0x1000 * i, 2, 0x70000 + 0x1000 * i, 2⟩
def LIN_OVERRUN (i : Nat) : Cnt := ⟨0x6821C + 0x1000 * i, 0x682C0 + 0x1000 * i, 3, 0x68000 + 0x1000 * i, 2⟩
def SER_COLL (i : Nat) : Cnt := ⟨0x7021C + 0x1000 * i, 0x702C0 + 0x1000 * i, 3, 0x70000 + 0x1000 * i, 2⟩
def LIN_TX_DROP (i : Nat) : Cnt := ⟨0x68220 + 0x1000 * i, 0x682C0 + 0x1000 * i, 4, 0x68000 + 0x1000 * i, 2⟩
def SER_TX_DROP (i : Nat) : Cnt := ⟨0x70220 + 0x1000 * i, 0x702C0 + 0x1000 * i, 4, 0x70000 + 0x1000 * i, 2⟩
def SER_DEFER (i : Nat) : Cnt := ⟨0x70224 + 0x1000 * i, 0x702C0 + 0x1000 * i, 5, 0x70000 + 0x1000 * i, 2⟩
def SPN_HEAD_DROP (k : Nat) : Nat := 0x80200 + 0x8 * k
def SPN_HEADS (k : Nat) : Nat := 0x80220 + 0x8 * k
def PARS_EXC_SHORT : Cnt := ⟨0x80240, 0x802C0, 0, 0x80000, 5⟩
def PARS_EXC_DEPTH : Cnt := ⟨0x80244, 0x802C0, 1, 0x80000, 5⟩
def PARS_EXC_NODES : Cnt := ⟨0x80248, 0x802C0, 2, 0x80000, 5⟩
def PARS_EXC_BAD_LEN : Cnt := ⟨0x8024C, 0x802C0, 3, 0x80000, 5⟩
def PARS_EXC_NO_MATCH : Cnt := ⟨0x80250, 0x802C0, 4, 0x80000, 5⟩
def PARS_EXC_BAD_NODE : Cnt := ⟨0x80254, 0x802C0, 5, 0x80000, 5⟩
def PARS_EXC_ECC : Cnt := ⟨0x80258, 0x802C0, 6, 0x80000, 5⟩
def PARS_NODE_ECC_CORR : Cnt := ⟨0x8025C, 0x802C0, 7, 0x80000, 5⟩
def RULE_LOOKUPS : Nat := 0x88200
def RULE_HITS : Nat := 0x88208
def RULE_RECIRC_PASSES : Nat := 0x88210
def RULE_MISS : Cnt := ⟨0x88218, 0x882C0, 0, 0x88000, 4⟩
def RULE_DENY_MATRIX : Cnt := ⟨0x8821C, 0x882C0, 1, 0x88000, 4⟩
def RULE_ZONE_FANOUT : Cnt := ⟨0x88220, 0x882C0, 2, 0x88000, 4⟩
def RULE_RECIRC_LIMIT : Cnt := ⟨0x88224, 0x882C0, 3, 0x88000, 4⟩
def RULE_POLICE_DROP : Cnt := ⟨0x88228, 0x882C0, 4, 0x88000, 4⟩
def RULE_ECC_CORR : Cnt := ⟨0x8822C, 0x882C0, 5, 0x88000, 4⟩
def RULE_FAILCLOSED : Cnt := ⟨0x88230, 0x882C0, 6, 0x88000, 4⟩
def FLOW_LOOKUPS : Nat := 0x90200
def FLOW_HITS : Nat := 0x90208
def FLOW_INSERTS : Nat := 0x90210
def FLOW_AGED : Nat := 0x90218
def FLOW_CACHE_MISS : Nat := 0x90220
def FLOW_INS_FAIL : Cnt := ⟨0x90228, 0x902C0, 0, 0x90000, 4⟩
def FLOW_INS_DROP : Cnt := ⟨0x9022C, 0x902C0, 1, 0x90000, 4⟩
def FLOW_INS_EXISTS : Cnt := ⟨0x90230, 0x902C0, 2, 0x90000, 4⟩
def FLOW_NOT_TRACKABLE : Cnt := ⟨0x90234, 0x902C0, 3, 0x90000, 4⟩
def FLOW_TRACK_NOSYN : Cnt := ⟨0x90238, 0x902C0, 4, 0x90000, 4⟩
def FLOW_ZONE_MISMATCH : Cnt := ⟨0x9023C, 0x902C0, 5, 0x90000, 4⟩
def FLOW_PURGED : Cnt := ⟨0x90240, 0x902C0, 6, 0x90000, 4⟩
def FLOW_UNCORR : Cnt := ⟨0x90244, 0x902C0, 7, 0x90000, 4⟩
def FLOW_ECC_CORR : Cnt := ⟨0x90248, 0x902C0, 8, 0x90000, 4⟩
def FLOW_CTR_SAT : Cnt := ⟨0x9024C, 0x902C0, 9, 0x90000, 4⟩
def FLOW_FULL_DROP : Cnt := ⟨0x90250, 0x902C0, 10, 0x90000, 4⟩
def FWD_MAC_LEARNED : Nat := 0x98200
def FWD_MAC_MOVES : Nat := 0x98208
def FWD_MAC_AGED : Nat := 0x98210
def FWD_FLOOD_FRAMES : Nat := 0x98218
def FWD_LEARN_DROP : Cnt := ⟨0x98220, 0x982C0, 0, 0x98000, 5⟩
def FWD_LEARN_FULL : Cnt := ⟨0x98224, 0x982C0, 1, 0x98000, 5⟩
def FWD_MOVE_REFUSED : Cnt := ⟨0x98228, 0x982C0, 2, 0x98000, 5⟩
def FWD_FLAP_PINS : Cnt := ⟨0x9822C, 0x982C0, 3, 0x98000, 5⟩
def FWD_SA_MOVE_DROP : Cnt := ⟨0x98230, 0x982C0, 4, 0x98000, 5⟩
def FWD_VLAN_UNKNOWN : Cnt := ⟨0x98234, 0x982C0, 5, 0x98000, 5⟩
def FWD_VLAN_INGRESS_DROP : Cnt := ⟨0x98238, 0x982C0, 6, 0x98000, 5⟩
def FWD_ROUTE_MISS : Cnt := ⟨0x9823C, 0x982C0, 7, 0x98000, 5⟩
def FWD_LAG_DOWN_DROP : Cnt := ⟨0x98240, 0x982C0, 8, 0x98000, 5⟩
def FWD_ECC_CORR : Cnt := ⟨0x98244, 0x982C0, 9, 0x98000, 5⟩
def FWD_MAC_UNCORR : Cnt := ⟨0x98248, 0x982C0, 10, 0x98000, 5⟩
def FWD_UNCORR_DROP : Cnt := ⟨0x9824C, 0x982C0, 11, 0x98000, 5⟩
def FWD_SHD_MISMATCH : Cnt := ⟨0x98250, 0x982C0, 12, 0x98000, 5⟩
def FWD_SHD_REPAIR : Cnt := ⟨0x98254, 0x982C0, 13, 0x98000, 5⟩
def FWD_SHD_UNCORR : Cnt := ⟨0x98258, 0x982C0, 14, 0x98000, 5⟩
def BUFQ_ENQ_FRAMES (k : Nat) : Nat := 0xA1000 + 0x20 * k
def BUFQ_DEQ_FRAMES (k : Nat) : Nat := 0xA1008 + 0x20 * k
def BUFQ_DEQ_OCTETS (k : Nat) : Nat := 0xA1010 + 0x20 * k
def BUFQ_DROP_FRAMES (k : Nat) : Nat := 0xA1018 + 0x20 * k
def BUF_CT_FRAMES : Nat := 0xA0200
def BUF_SPILL_FRAMES : Nat := 0xA0208
def BUF_REFILL_FRAMES : Nat := 0xA0210
def BUF_ING_NO_CELL : Cnt := ⟨0xA0220, 0xA02C0, 0, 0xA0000, 5⟩
def BUF_THRESH_DROP : Cnt := ⟨0xA0224, 0xA02C0, 1, 0xA0000, 5⟩
def BUF_NO_DESC_DROP : Cnt := ⟨0xA0228, 0xA02C0, 2, 0xA0000, 5⟩
def BUF_LINK_DROP : Cnt := ⟨0xA022C, 0xA02C0, 3, 0xA0000, 5⟩
def BUF_DEEP_FULL_DROP : Cnt := ⟨0xA0230, 0xA02C0, 4, 0xA0000, 5⟩
def BUF_DEEP_RATE_DROP : Cnt := ⟨0xA0234, 0xA02C0, 5, 0xA0000, 5⟩
def BUF_DEEP_UNCORR : Cnt := ⟨0xA0238, 0xA02C0, 6, 0xA0000, 5⟩
def BUF_CELL_CORR : Cnt := ⟨0xA023C, 0xA02C0, 7, 0xA0000, 5⟩
def BUF_CELL_UNCORR : Cnt := ⟨0xA0240, 0xA02C0, 8, 0xA0000, 5⟩
def BUF_BURR_LEAK : Cnt := ⟨0xA0244, 0xA02C0, 9, 0xA0000, 5⟩
def BUF_BURR_DOUBLE : Cnt := ⟨0xA0248, 0xA02C0, 10, 0xA0000, 5⟩
def BUF_RESEQ_OVF : Cnt := ⟨0xA024C, 0xA02C0, 11, 0xA0000, 5⟩
def BUF_REORDER_SKIP : Cnt := ⟨0xA0250, 0xA02C0, 12, 0xA0000, 5⟩
def BUF_REORDER_LATE : Cnt := ⟨0xA0254, 0xA02C0, 13, 0xA0000, 5⟩
def TSN_MM_ASSY_OK (i : Nat) : Nat := 0xB0200 + 0x1000 * i
def TSN_MM_FRAG_RX (i : Nat) : Nat := 0xB0208 + 0x1000 * i
def TSN_MM_FRAG_TX (i : Nat) : Nat := 0xB0210 + 0x1000 * i
def TSN_SDU_DROP (i : Nat) : Cnt := ⟨0xB0218 + 0x1000 * i, 0xB02C0 + 0x1000 * i, 0, 0xB0000 + 0x1000 * i, 5⟩
def TSN_GATE_DROP (i : Nat) : Cnt := ⟨0xB021C + 0x1000 * i, 0xB02C0 + 0x1000 * i, 1, 0xB0000 + 0x1000 * i, 5⟩
def TSN_CQF_LATE (i : Nat) : Cnt := ⟨0xB0220 + 0x1000 * i, 0xB02C0 + 0x1000 * i, 2, 0xB0000 + 0x1000 * i, 5⟩
def TSN_MM_ASSY_ERR (i : Nat) : Cnt := ⟨0xB0224 + 0x1000 * i, 0xB02C0 + 0x1000 * i, 3, 0xB0000 + 0x1000 * i, 5⟩
def TSN_MM_SMD_ERR (i : Nat) : Cnt := ⟨0xB0228 + 0x1000 * i, 0xB02C0 + 0x1000 * i, 4, 0xB0000 + 0x1000 * i, 5⟩
def TSN_MM_HOLD (i : Nat) : Cnt := ⟨0xB022C + 0x1000 * i, 0xB02C0 + 0x1000 * i, 5, 0xB0000 + 0x1000 * i, 5⟩
def TSN_CONFIG_CHANGES (i : Nat) : Cnt := ⟨0xB0230 + 0x1000 * i, 0xB02C0 + 0x1000 * i, 6, 0xB0000 + 0x1000 * i, 5⟩
def TSN_GATE_STEPS (i : Nat) : Cnt := ⟨0xB0234 + 0x1000 * i, 0xB02C0 + 0x1000 * i, 7, 0xB0000 + 0x1000 * i, 5⟩
def TIME_ONE_STEP_EDITS : Nat := 0x10800
def TIME_TRAPPED : Nat := 0x10808
def TIME_KEEP_SYNC_TX : Nat := 0x10810
def TIME_KEEP_SYNC_RX : Nat := 0x10818
def TIME_TS_NODOM : Cnt := ⟨0x10820, 0x108C0, 0, 0x10000, 9⟩
def TIME_TS_TWOSTEP_FWD : Cnt := ⟨0x10824, 0x108C0, 1, 0x10000, 9⟩
def TIME_TS_DEMOTED : Cnt := ⟨0x10828, 0x108C0, 2, 0x10000, 9⟩
def TIME_TS_REF_BAD : Cnt := ⟨0x1082C, 0x108C0, 3, 0x10000, 9⟩
def TIME_TSF_OVF : Cnt := ⟨0x10830, 0x108C0, 4, 0x10000, 9⟩
def TIME_TCAP_OVF : Cnt := ⟨0x10834, 0x108C0, 5, 0x10000, 9⟩
def TIME_TOUT_SKIP : Cnt := ⟨0x10838, 0x108C0, 6, 0x10000, 9⟩
def TIME_KEEP_PDELAY : Cnt := ⟨0x1083C, 0x108C0, 7, 0x10000, 9⟩
def TIME_KEEP_DROP : Cnt := ⟨0x10840, 0x108C0, 8, 0x10000, 9⟩
def TIME_KEEP_REJECT : Cnt := ⟨0x10844, 0x108C0, 9, 0x10000, 9⟩
def TIME_CF_SAT : Cnt := ⟨0x10848, 0x108C0, 10, 0x10000, 9⟩
def TD_STEPS (k : Nat) : Cnt := ⟨0x1084C + 0x4 * k, 0x108C0, 11 + k, 0x10000, 9⟩
def HIF_RX_NO_RING : Cnt := ⟨0x40200, 0x402C0, 0, 0x40000, 4⟩
def HIF_RX_RING_FULL : Cnt := ⟨0x40204, 0x402C0, 1, 0x40000, 4⟩
def HIF_RX_BAD_DESC : Cnt := ⟨0x40208, 0x402C0, 2, 0x40000, 4⟩
def HIF_TX_BAD_DESC : Cnt := ⟨0x4020C, 0x402C0, 3, 0x40000, 4⟩
def HIF_DMA_ERR : Cnt := ⟨0x40210, 0x402C0, 4, 0x40000, 4⟩
def HIF_TX_ABORTED : Cnt := ⟨0x40214, 0x402C0, 5, 0x40000, 4⟩
def HIF_RX_ABORTED : Cnt := ⟨0x40218, 0x402C0, 6, 0x40000, 4⟩
def INTC_SPUR_CNT (k : Nat) : Cnt := ⟨0xC280 + 0x4 * k, 0xC2C0, k, 0xC000, 0⟩
def INTC_WAKE_CNT (k : Nat) : Cnt := ⟨0xC290 + 0x4 * k, 0xC2C0, 4 + k, 0xC000, 0⟩
def CPE_LA_OPS : Nat := 0xF0200
def CPE_CAN_SEC_OK : Nat := 0xF0208
def CPE_KEY_SPENT_DROP : Cnt := ⟨0xF0210, 0xF02C0, 0, 0xF0000, 8⟩
def CPE_KEY_REFUSED : Cnt := ⟨0xF0214, 0xF02C0, 1, 0xF0000, 8⟩
def CPE_TX_TOO_LONG : Cnt := ⟨0xF0218, 0xF02C0, 2, 0xF0000, 8⟩
def CPE_NO_RNG : Cnt := ⟨0xF021C, 0xF02C0, 3, 0xF0000, 8⟩
def CPE_CAN_SEC_FAIL : Cnt := ⟨0xF0220, 0xF02C0, 4, 0xF0000, 8⟩
def CPE_UNCORR : Cnt := ⟨0xF0224, 0xF02C0, 5, 0xF0000, 8⟩
def PAIR_BEAT_TX : Nat := 0x128200
def PAIR_BEAT_RX : Nat := 0x128208
def PAIR_JRNL_RECORDS : Nat := 0x128210
def PAIR_INPUT_FRAMES : Nat := 0x128218
def PAIR_BEAT_MISS : Cnt := ⟨0x128220, 0x1282C0, 0, 0x128000, 9⟩
def PAIR_EPL_BAD : Cnt := ⟨0x128224, 0x1282C0, 1, 0x128000, 9⟩
def PAIR_JRNL_GAP : Cnt := ⟨0x128228, 0x1282C0, 2, 0x128000, 9⟩
def PAIR_JRNL_OVF : Cnt := ⟨0x12822C, 0x1282C0, 3, 0x128000, 9⟩
def PAIR_RESYNCS : Cnt := ⟨0x128230, 0x1282C0, 4, 0x128000, 9⟩
def PAIR_TAKEOVERS : Cnt := ⟨0x128234, 0x1282C0, 5, 0x128000, 9⟩
def PAIR_DIGEST_MISM : Cnt := ⟨0x128238, 0x1282C0, 6, 0x128000, 9⟩
def PAIR_GATED_DROP : Cnt := ⟨0x12823C, 0x1282C0, 7, 0x128000, 9⟩
def PAIR_CFG_WR_REFUSED : Cnt := ⟨0x128240, 0x1282C0, 8, 0x128000, 9⟩
def PAIR_TIME_WR_REFUSED : Cnt := ⟨0x128244, 0x1282C0, 9, 0x128000, 9⟩
def PAIR_TIME_DIV_CNT : Cnt := ⟨0x128248, 0x1282C0, 10, 0x128000, 9⟩
def PAIR_TWO_ACTIVE_CNT : Cnt := ⟨0x12824C, 0x1282C0, 11, 0x128000, 9⟩
def BUF_CT_BAD (k : Nat) : Cnt := ⟨0xA0300 + 0x4 * k, 0xA02C4, k, 0xA0000, 5⟩
def BUF_CT_STOMP (k : Nat) : Cnt := ⟨0xA0380 + 0x4 * k, 0xA02C8, k, 0xA0000, 5⟩
def TURN_OVR_CNT : Cnt := ⟨0x1078, 0x104C, 4, 0x1000, 4⟩
def TURN_OVR_RUN : Cnt := ⟨0x107C, 0x104C, 4, 0x1000, 4⟩
def TURN_STEP_CNT : Cnt := ⟨0x1080, 0x104C, 5, 0x1000, 4⟩
def GLB_OWN_VIOL : Cnt := ⟨0x50, 0x2C0, 0, 0x0, 3⟩
def BOOT_SKIP_CNT : Cnt := ⟨0x806C, 0x82C0, 0, 0x8000, 3⟩
def GWY_ENC_FRAMES : Nat := 0x78200
def GWY_DEC_MSGS : Nat := 0x78208
def GWY_BAD_CHANNEL : Cnt := ⟨0x78210, 0x782C0, 0, 0x78000, 0⟩
def GWY_ACF_BAD : Cnt := ⟨0x78214, 0x782C0, 1, 0x78000, 0⟩
def GWY_ACF_SKIP : Cnt := ⟨0x78218, 0x782C0, 2, 0x78000, 0⟩
def SESS_COPIES (k : Nat) : Nat := 0xE0200 + 0x8 * k
def CAP_RECORDS : Nat := 0xE0240
def CAP_OCTETS : Nat := 0xE0248
def CAP_DROP : Cnt := ⟨0xE0250, 0xE02C0, 0, 0xE0000, 3⟩
def CAP_OVERWR : Cnt := ⟨0xE0254, 0xE02C0, 1, 0xE0000, 3⟩
def TRU_PUBLISH : Nat := 0x14200
def TRU_SENSE_MISS : Cnt := ⟨0x14208, 0x142C0, 0, 0x14000, 3⟩
def TRU_TX_RESID : Cnt := ⟨0x1420C, 0x142C0, 1, 0x14000, 3⟩
def TRU_RX_JUMP : Cnt := ⟨0x14210, 0x142C0, 2, 0x14000, 3⟩
def TRU_MODEL_FAULT : Cnt := ⟨0x14214, 0x142C0, 3, 0x14000, 3⟩
def RING_FRAMES (k : Nat) : Nat := 0x44040 + 0x10 * k
def RING_OCTETS (k : Nat) : Nat := 0x44048 + 0x10 * k
def KEY_INSTALLS : Nat := 0x108200
def KEY_HELD_CHANGES : Cnt := ⟨0x108208, 0x1082C0, 0, 0x108000, 4⟩
def KEY_SLOT_UNCORR : Cnt := ⟨0x10820C, 0x1082C0, 1, 0x108000, 4⟩
def KEY_ENT_FAIL : Cnt := ⟨0x108210, 0x1082C0, 2, 0x108000, 4⟩
def HST_CKPT_COUNT : Nat := 0x120200
def HST_LOCKSTEP_CNT : Cnt := ⟨0x120208, 0x1202C0, 0, 0x120000, 2⟩
def HST_RESTART_CNT : Cnt := ⟨0x12020C, 0x1202C0, 1, 0x120000, 2⟩
def HST_CKPT_EXTRA : Cnt := ⟨0x120210, 0x1202C0, 2, 0x120000, 2⟩
def BENCH_BUSY_CNT : Nat := 0x110200
def BENCH_CORR : Cnt := ⟨0x110208, 0x1102C0, 0, 0x110000, 3⟩
def BENCH_UNCORR : Cnt := ⟨0x11020C, 0x1102C0, 1, 0x110000, 3⟩
def BENCH_RETRY_FAIL_HST : Cnt := ⟨0x110210, 0x1102C0, 2, 0x110000, 3⟩
def BENCH_RETRY_FAIL_CPE : Cnt := ⟨0x110214, 0x1102C0, 3, 0x110000, 3⟩
def BENCH_RETRY_FAIL_BRIDGE : Cnt := ⟨0x110218, 0x1102C0, 4, 0x110000, 3⟩
def BENCH_RETRY_FAIL_DMA : Cnt := ⟨0x11021C, 0x1102C0, 5, 0x110000, 3⟩
def BENCH_OWN_REFUSED : Cnt := ⟨0x110220, 0x1102C0, 6, 0x110000, 3⟩
def DRAM_CORR : Nat := 0x118200
def SCRUB_SWEEPS : Nat := 0x118208
def DRAM_UNCORR_FLOW : Cnt := ⟨0x118210, 0x1182C0, 0, 0x118000, 3⟩
def DRAM_UNCORR_DEEP : Cnt := ⟨0x118214, 0x1182C0, 1, 0x118000, 3⟩
def DRAM_UNCORR_CAPTURE : Cnt := ⟨0x118218, 0x1182C0, 2, 0x118000, 3⟩
def DRAM_UNCORR_SHADOW : Cnt := ⟨0x11821C, 0x1182C0, 3, 0x118000, 3⟩
def DRAM_UNCORR_HST : Cnt := ⟨0x118220, 0x1182C0, 4, 0x118000, 3⟩
def PWR_REST_ENTRIES : Nat := 0xA200
def NM_TX : Nat := 0xA208
def PWR_ENTRY_CANCELS : Cnt := ⟨0xA210, 0xA2C0, 0, 0xA000, 9⟩
def PWR_DRAIN_DROPS : Cnt := ⟨0xA214, 0xA2C0, 1, 0xA000, 9⟩
def PWR_REST_IN_DROP : Cnt := ⟨0xA218, 0xA2C0, 2, 0xA000, 9⟩
end C

/-- One row of a block's register table: offset in the unit, count and stride, the bits a plain write
stores (RW, RWL), the bits a 1 clears (W1C), and whether LOCK makes them read only (RWL). -/
structure RegRow where
  off : Nat
  n : Nat
  stride : Nat
  rw : Nat
  w1c : Nat
  lock : Bool
  deriving DecidableEq, Repr

/-- The rows of each block that a plain write can change; every other offset ignores writes (R14, R16). -/
def Blk.rows : Blk → List RegRow
  | .glb => [
      ⟨0x70, 4, 0x4, 0xFFFFFFFF, 0x0, false⟩, ⟨0x90, 4, 0x4, 0xFFFFFFFF, 0x0, false⟩,
      ⟨0x2C0, 1, 0x4, 0x0, 0xFFFFFFFF, false⟩]
  | .turn => [
      ⟨0x40, 1, 0x4, 0x7F, 0x0, true⟩, ⟨0x44, 1, 0x4, 0x1FFFFF, 0x0, true⟩, ⟨0x4C, 1, 0x4, 0x0, 0x38, false⟩]
  | .cmb => [
      ⟨0x40, 1, 0x4, 0xFFFFFFFF, 0x0, false⟩, ⟨0x80, 32, 0x4, 0xFFFFFFFF, 0x0, false⟩,
      ⟨0x108, 1, 0x4, 0x0, 0x4, false⟩, ⟨0x10C, 1, 0x4, 0xFFFF0000, 0x0, false⟩]
  | .boot => [
     ]
  | .pwr => [
      ⟨0x40, 1, 0x4, 0x3000000, 0x0, false⟩, ⟨0x44, 1, 0x4, 0x0, 0x400, false⟩,
      ⟨0x48, 1, 0x4, 0xE300FFFF, 0x0, false⟩, ⟨0x4C, 1, 0x4, 0x707, 0x0, false⟩, ⟨0x50, 1, 0x4, 0x1FF, 0x0, false⟩,
      ⟨0x54, 1, 0x4, 0xFFFFFF, 0x0, false⟩, ⟨0x58, 1, 0x4, 0xFFF, 0x0, false⟩, ⟨0x5C, 1, 0x4, 0xFFFF, 0x0, false⟩,
      ⟨0x60, 4, 0x4, 0x300FF, 0x0, false⟩, ⟨0x70, 1, 0x4, 0xFFFFFFFF, 0x0, false⟩, ⟨0x74, 1, 0x4, 0xFFFF, 0x0, false⟩,
      ⟨0x78, 1, 0x4, 0x1, 0x0, false⟩, ⟨0x7C, 1, 0x4, 0xF00FFFF, 0x0, false⟩, ⟨0x84, 1, 0x4, 0x0, 0xFFFFFF, false⟩,
      ⟨0x88, 1, 0x4, 0x0, 0xF0FFF, false⟩, ⟨0x9C, 1, 0x4, 0xFFFF, 0x0, false⟩,
      ⟨0x2C0, 1, 0x4, 0x0, 0xFFFFFFFF, false⟩, ⟨0x1040, 24, 0x20, 0xC0000000, 0x0, false⟩,
      ⟨0x1044, 24, 0x20, 0x9FFFFFFF, 0x0, false⟩, ⟨0x1048, 24, 0x20, 0x1FFFFFFF, 0x0, false⟩,
      ⟨0x104C, 24, 0x20, 0xFFFFFFFF, 0x0, false⟩, ⟨0x1050, 24, 0x20, 0x1, 0x0, false⟩,
      ⟨0x1054, 24, 0x20, 0xFFFFFFFF, 0x0, false⟩, ⟨0x1058, 24, 0x20, 0xFFFFFFFF, 0x0, false⟩]
  | .intc => [
      ⟨0x40, 1, 0x4, 0x0, 0xFFFF, false⟩, ⟨0x44, 1, 0x4, 0xFFFF, 0x0, false⟩, ⟨0x4C, 1, 0x4, 0x6, 0x0, false⟩,
      ⟨0xA0, 4, 0x4, 0x0, 0x1000000, false⟩, ⟨0x100, 64, 0x4, 0xFFFF, 0x0, false⟩,
      ⟨0x2C0, 1, 0x4, 0x0, 0xFFFFFFFF, false⟩, ⟨0x1000, 256, 0x4, 0xC03F0003, 0x0, false⟩]
  | .time => [
      ⟨0x44, 1, 0x4, 0x0, 0x100, false⟩, ⟨0x100, 8, 0x40, 0xA00003FF, 0x0, false⟩, ⟨0x104, 8, 0x40, 0x0, 0x1C, false⟩,
      ⟨0x118, 8, 0x40, 0xFFFFFFFF, 0x0, false⟩, ⟨0x11C, 8, 0x40, 0xFFFFFFFF, 0x0, false⟩,
      ⟨0x120, 8, 0x40, 0xFFFFFFFF, 0x0, false⟩, ⟨0x124, 8, 0x40, 0xFFFFFFFF, 0x0, false⟩,
      ⟨0x128, 8, 0x40, 0x3FFFFFFF, 0x0, false⟩, ⟨0x8C0, 1, 0x4, 0x0, 0xFFFFFFFF, false⟩,
      ⟨0x1040, 8, 0x20, 0x37010000, 0x0, false⟩, ⟨0x1044, 8, 0x20, 0xFFFFFFFF, 0x0, false⟩,
      ⟨0x1048, 8, 0x20, 0xFFFFFFFF, 0x0, false⟩, ⟨0x104C, 8, 0x20, 0x3FFFFFFF, 0x0, false⟩,
      ⟨0x1050, 8, 0x20, 0xFFFFFFFF, 0x0, false⟩, ⟨0x1054, 8, 0x20, 0xFFFFFFFF, 0x0, false⟩,
      ⟨0x1058, 8, 0x20, 0x0, 0x40000000, false⟩, ⟨0x1140, 8, 0x4, 0x80030007, 0x0, false⟩,
      ⟨0x2040, 1, 0x4, 0x80000003, 0x0, false⟩, ⟨0x2050, 8, 0x4, 0x80FF0007, 0x0, false⟩,
      ⟨0x2100, 32, 0x10, 0xF8000000, 0x0, false⟩, ⟨0x2104, 32, 0x10, 0xFFFFFFFF, 0x0, false⟩,
      ⟨0x3040, 8, 0x10, 0xE01F0F00, 0x0, false⟩, ⟨0x3044, 8, 0x10, 0xFFFFFFFF, 0x0, false⟩,
      ⟨0x3048, 8, 0x10, 0x0, 0x80000000, false⟩]
  | .tru => [
      ⟨0x40, 1, 0x4, 0xFF71, 0x0, false⟩, ⟨0x44, 1, 0x4, 0xFFFFFFFF, 0x0, false⟩,
      ⟨0x2C0, 1, 0x4, 0x0, 0xFFFFFFFF, false⟩, ⟨0x1040, 32, 0x20, 0x80000001, 0x0, false⟩,
      ⟨0x1044, 32, 0x20, 0x0, 0x7, false⟩, ⟨0x1050, 32, 0x20, 0xFFFFFFFF, 0x0, false⟩,
      ⟨0x1054, 32, 0x20, 0xFFFFFFFF, 0x0, false⟩]
  | .eth => [
      ⟨0x40, 1, 0x4, 0xF, 0x0, false⟩, ⟨0x44, 1, 0x4, 0xFF00, 0x0, false⟩, ⟨0x48, 1, 0x4, 0x0, 0x300, false⟩,
      ⟨0x4C, 1, 0x4, 0xFFFFFFFF, 0x0, false⟩, ⟨0x50, 1, 0x4, 0x8000FFFF, 0x0, false⟩,
      ⟨0x54, 1, 0x4, 0x18, 0x0, false⟩, ⟨0x58, 1, 0x4, 0x80FFFFFF, 0x0, false⟩, ⟨0x70, 1, 0x4, 0x3E0FF01, 0x0, false⟩,
      ⟨0x74, 1, 0x4, 0x33FFFFFF, 0x48000000, false⟩, ⟨0x78, 1, 0x4, 0xFFFF, 0x0, false⟩,
      ⟨0x2C0, 1, 0x4, 0x0, 0xFFFFFFFF, false⟩]
  | .hif => [
      ⟨0x100, 8, 0x4, 0xC03F0007, 0x0, false⟩, ⟨0x120, 8, 0x4, 0xC03F0007, 0x0, false⟩,
      ⟨0x2C0, 1, 0x4, 0x0, 0xFFFFFFFF, false⟩, ⟨0x1040, 64, 0x20, 0xFFFFFFFF, 0x0, false⟩,
      ⟨0x2040, 64, 0x20, 0xFFFFFFFF, 0x0, false⟩, ⟨0x1044, 64, 0x20, 0xFFFFFFFF, 0x0, false⟩,
      ⟨0x2044, 64, 0x20, 0xFFFFFFFF, 0x0, false⟩, ⟨0x1048, 64, 0x20, 0x811F0000, 0x0, false⟩,
      ⟨0x2048, 64, 0x20, 0x801F0700, 0x0, false⟩, ⟨0x104C, 64, 0x20, 0xFFFF, 0x0, false⟩,
      ⟨0x204C, 64, 0x20, 0xFFFF, 0x0, false⟩, ⟨0x1058, 64, 0x20, 0x0, 0xE, false⟩,
      ⟨0x2058, 64, 0x20, 0x0, 0xE, false⟩, ⟨0x3040, 64, 0x10, 0x403FFF03, 0x0, false⟩,
      ⟨0x3044, 64, 0x10, 0xFFFF, 0x0, false⟩, ⟨0x3048, 64, 0x10, 0x0, 0x3, false⟩]
  | .can => [
      ⟨0x40, 1, 0x4, 0x77E1, 0x0, false⟩, ⟨0x44, 1, 0x4, 0x0, 0x200, false⟩, ⟨0x48, 1, 0x4, 0xFFFF7F7F, 0x0, false⟩,
      ⟨0x4C, 1, 0x4, 0xFFFF7F7F, 0x0, false⟩, ⟨0x50, 1, 0x4, 0xFFFF7F7F, 0x0, false⟩,
      ⟨0x54, 1, 0x4, 0x800000FF, 0x0, false⟩, ⟨0x58, 1, 0x4, 0x803F3F3F, 0x0, false⟩,
      ⟨0x60, 1, 0x4, 0xFFFF00FF, 0x0, false⟩, ⟨0x64, 1, 0x4, 0x9FFFFFFF, 0x0, false⟩,
      ⟨0x70, 1, 0x4, 0x173, 0x0, false⟩, ⟨0x74, 1, 0x4, 0x9FFFFFFF, 0x0, false⟩,
      ⟨0x78, 1, 0x4, 0x1FFFFFFF, 0x0, false⟩, ⟨0x7C, 1, 0x4, 0xF, 0x0, false⟩, ⟨0x80, 1, 0x4, 0xFFFFFFFF, 0x0, false⟩,
      ⟨0x84, 1, 0x4, 0xFFFFFFFF, 0x0, false⟩, ⟨0x90, 1, 0x4, 0x3, 0x0, false⟩, ⟨0x2C0, 1, 0x4, 0x0, 0xFFFFFFFF, false⟩]
  | .lin => [
      ⟨0x40, 1, 0x4, 0x13, 0x0, false⟩, ⟨0x44, 1, 0x4, 0x0, 0x200, false⟩, ⟨0x48, 1, 0x4, 0xFFFFFF, 0x0, false⟩,
      ⟨0x100, 64, 0x4, 0xF800000F, 0x0, false⟩, ⟨0x300, 32, 0x4, 0xA03F00FF, 0x0, false⟩,
      ⟨0x380, 32, 0x4, 0xA03F00FF, 0x0, false⟩, ⟨0x2C0, 1, 0x4, 0x0, 0xFFFFFFFF, false⟩]
  | .ser => [
      ⟨0x40, 1, 0x4, 0x3FF0037, 0x0, false⟩, ⟨0x44, 1, 0x4, 0x0, 0x200, false⟩, ⟨0x48, 1, 0x4, 0xFFFFFF, 0x0, false⟩,
      ⟨0x4C, 1, 0x4, 0xFF00FF, 0x0, false⟩, ⟨0x2C0, 1, 0x4, 0x0, 0xFFFFFFFF, false⟩]
  | .tts => [
      ⟨0x40, 1, 0x4, 0x1, 0x0, false⟩, ⟨0x48, 1, 0x4, 0x0, 0xFFFFFF, false⟩,
      ⟨0x1040, 24, 0x40, 0xB7370700, 0x0, false⟩, ⟨0x1044, 24, 0x40, 0xFFFFF, 0x0, false⟩,
      ⟨0x1048, 24, 0x40, 0x3FFF, 0x0, false⟩, ⟨0x104C, 24, 0x40, 0x9FFFFFFF, 0x0, false⟩,
      ⟨0x1050, 24, 0x40, 0x1FFFFF, 0x0, false⟩, ⟨0x1054, 24, 0x40, 0x1FFF1FFF, 0x0, false⟩,
      ⟨0x105C, 24, 0x40, 0x3F, 0x0, false⟩, ⟨0x207C, 24, 0x40, 0x0, 0xFFFFFFFF, false⟩]
  | .gwy => [
      ⟨0x40, 1, 0x4, 0x1, 0x0, false⟩, ⟨0x44, 1, 0x4, 0xFFFFFFFF, 0x0, false⟩, ⟨0x48, 1, 0x4, 0xFFFF, 0x0, false⟩,
      ⟨0x2C0, 1, 0x4, 0x0, 0xFFFFFFFF, false⟩]
  | .pars => [
      ⟨0x44, 1, 0x4, 0x0, 0x18, false⟩, ⟨0x4C, 1, 0x4, 0xFFFC, 0x0, false⟩, ⟨0x2C0, 1, 0x4, 0x0, 0xFFFFFFFF, false⟩]
  | .rule => [
      ⟨0x44, 1, 0x4, 0x0, 0x18, false⟩, ⟨0x4C, 1, 0x4, 0xFFFFFFFF, 0x0, true⟩, ⟨0x2C0, 1, 0x4, 0x0, 0xFFFFFFFF, false⟩]
  | .flow => [
      ⟨0x40, 1, 0x4, 0x1, 0x0, false⟩, ⟨0x44, 1, 0x4, 0xF1FFF, 0x0, false⟩, ⟨0x48, 1, 0x4, 0x1F, 0x0, false⟩,
      ⟨0x4C, 1, 0x4, 0xE03F00FF, 0x0, false⟩, ⟨0x100, 1, 0x4, 0x3, 0x0, false⟩,
      ⟨0x140, 16, 0x4, 0xFFFFFFFF, 0x0, false⟩, ⟨0x2C0, 1, 0x4, 0x0, 0xFFFFFFFF, false⟩]
  | .fwd => [
      ⟨0x40, 1, 0x4, 0x1, 0x0, false⟩, ⟨0x44, 1, 0x4, 0xFFFFFFFF, 0x0, true⟩, ⟨0x48, 1, 0x4, 0xF007F, 0x0, false⟩,
      ⟨0x4C, 1, 0x4, 0x3FFF, 0x0, false⟩, ⟨0x50, 1, 0x4, 0x1FFF, 0x0, false⟩, ⟨0x54, 1, 0x4, 0xF001FFF, 0x0, false⟩,
      ⟨0x58, 1, 0x4, 0x1FFF, 0x0, false⟩, ⟨0x68, 1, 0x4, 0xFFF0FFF, 0x0, false⟩,
      ⟨0x2C0, 1, 0x4, 0x0, 0xFFFFFFFF, false⟩, ⟨0x400, 38, 0x4, 0xFC0FEFFF, 0x0, false⟩,
      ⟨0x500, 64, 0x4, 0x1F1F1F1F, 0x0, false⟩]
  | .buf => [
      ⟨0x40, 1, 0x4, 0x100, 0x0, false⟩, ⟨0x44, 1, 0x4, 0x0, 0x1, false⟩, ⟨0x48, 1, 0x4, 0xFFFF, 0x0, false⟩,
      ⟨0x60, 1, 0x4, 0xFFFFFFFF, 0x0, false⟩, ⟨0x64, 1, 0x4, 0x1FFF, 0x0, false⟩, ⟨0x74, 1, 0x4, 0xFFFF, 0x0, false⟩,
      ⟨0x100, 16, 0x4, 0x80FF01FF, 0x0, false⟩, ⟨0x2C0, 1, 0x4, 0x0, 0xFFFFFFFF, false⟩,
      ⟨0x2C4, 1, 0x4, 0x0, 0xFFFFFFFF, false⟩, ⟨0x2C8, 1, 0x4, 0x0, 0xFFFFFFFF, false⟩,
      ⟨0x8000, 304, 0x10, 0xC3FF0007, 0x0, false⟩]
  | .tsn => [
      ⟨0x40, 1, 0x4, 0xC7FF0007, 0x0, false⟩, ⟨0x44, 1, 0x4, 0x0, 0x6, false⟩, ⟨0x48, 1, 0x4, 0xFFFFFFFF, 0x0, false⟩,
      ⟨0x4C, 1, 0x4, 0xFFFFFFFF, 0x0, false⟩, ⟨0x50, 1, 0x4, 0x3FFFFFFF, 0x0, false⟩,
      ⟨0x54, 1, 0x4, 0xFFFFFFFF, 0x0, false⟩, ⟨0x58, 1, 0x4, 0xFFFFFFFF, 0x0, false⟩,
      ⟨0x5C, 1, 0x4, 0x7FF, 0x0, false⟩, ⟨0x90, 8, 0x4, 0x3FFF, 0x0, false⟩, ⟨0xB0, 8, 0x4, 0x81FFFFFF, 0x0, false⟩,
      ⟨0xD0, 1, 0x4, 0xFF, 0x0, false⟩, ⟨0xD4, 1, 0x4, 0xC0FF03FF, 0x0, false⟩, ⟨0xD8, 1, 0x4, 0xFFFF, 0x0, false⟩,
      ⟨0xDC, 1, 0x4, 0xFFFF, 0x0, false⟩, ⟨0xE0, 1, 0x4, 0x7, 0x0, false⟩, ⟨0x2C0, 1, 0x4, 0x0, 0xFFFFFFFF, false⟩]
  | .mir => [
      ⟨0x40, 1, 0x4, 0x0, 0x1, false⟩, ⟨0x44, 1, 0x4, 0xE0000000, 0x0, false⟩, ⟨0x58, 1, 0x4, 0x8001003F, 0x0, false⟩,
      ⟨0x100, 8, 0x20, 0xBF073FFF, 0x0, false⟩, ⟨0x104, 8, 0x20, 0xFFFFFFFF, 0x0, false⟩,
      ⟨0x108, 8, 0x20, 0xFFFFFFFF, 0x0, false⟩, ⟨0x10C, 8, 0x20, 0xF000F, 0x0, false⟩,
      ⟨0x110, 8, 0x20, 0xFFFFFF, 0x0, false⟩, ⟨0x2C0, 1, 0x4, 0x0, 0xFFFFFFFF, false⟩]
  | .cpe => [
      ⟨0x40, 1, 0x4, 0x0, 0x1, false⟩, ⟨0x44, 1, 0x4, 0xFFFFFFFF, 0x0, false⟩, ⟨0x48, 1, 0x4, 0xFFFF, 0x0, false⟩,
      ⟨0x100, 16, 0x8, 0x3FFFFF, 0x0, false⟩, ⟨0x104, 16, 0x8, 0x7FFFFF, 0x0, false⟩,
      ⟨0x2C0, 1, 0x4, 0x0, 0xFFFFFFFF, false⟩]
  | .la => [
      ⟨0x40, 1, 0x4, 0xFF1F03FF, 0x0, false⟩, ⟨0x44, 1, 0x4, 0x3FFFFF, 0x0, false⟩,
      ⟨0x48, 1, 0x4, 0x3FFFFF, 0x0, false⟩, ⟨0x4C, 1, 0x4, 0x7FFF, 0x0, false⟩, ⟨0x50, 1, 0x4, 0x7FFF, 0x0, false⟩,
      ⟨0x60, 3, 0x4, 0xFFFFFFFF, 0x0, false⟩, ⟨0x70, 4, 0x4, 0xFFFFFFFF, 0x0, false⟩, ⟨0x84, 1, 0x4, 0x0, 0x2, false⟩]
  | .key => [
      ⟨0x40, 1, 0x4, 0x0, 0x4, false⟩, ⟨0x44, 1, 0x4, 0x3FF, 0x0, false⟩, ⟨0x2C0, 1, 0x4, 0x0, 0xFFFFFFFF, false⟩]
  | .lcs => [
     ]
  | .bench => [
      ⟨0x40, 1, 0x4, 0x80000000, 0x0, false⟩, ⟨0x100, 64, 0x4, 0xF, 0x0, false⟩,
      ⟨0x2C0, 1, 0x4, 0x0, 0xFFFFFFFF, false⟩, ⟨0x400, 5, 0x20, 0x3FFFF8, 0x0, false⟩,
      ⟨0x404, 5, 0x20, 0x3, 0x0, false⟩, ⟨0x408, 5, 0x20, 0xFFFFFFFF, 0x0, false⟩,
      ⟨0x40C, 5, 0x20, 0xFFFFFFFF, 0x0, false⟩, ⟨0x410, 5, 0x20, 0xFFFFFFFF, 0x0, false⟩,
      ⟨0x414, 5, 0x20, 0xFFFFFFFF, 0x0, false⟩]
  | .dram => [
      ⟨0x44, 1, 0x4, 0x800000FF, 0x0, false⟩, ⟨0x54, 1, 0x4, 0xFFFF, 0x0, false⟩,
      ⟨0x2C0, 1, 0x4, 0x0, 0xFFFFFFFF, false⟩]
  | .hst => [
      ⟨0x44, 1, 0x4, 0xFF00, 0x0, true⟩, ⟨0x2C0, 1, 0x4, 0x0, 0xFFFFFFFF, false⟩]
  | .pair => [
      ⟨0x40, 1, 0x4, 0x1, 0x0, false⟩, ⟨0x44, 1, 0x4, 0x0, 0x800001, false⟩, ⟨0x48, 1, 0x4, 0xCF00FFFF, 0x0, true⟩,
      ⟨0x4C, 1, 0x4, 0xFFFFFFFF, 0x0, true⟩, ⟨0x50, 1, 0x4, 0xFF, 0x0, true⟩, ⟨0x54, 1, 0x4, 0xFFFFFFFF, 0x0, true⟩,
      ⟨0x58, 1, 0x4, 0xF, 0x0, true⟩, ⟨0x5C, 1, 0x4, 0xFFFFFFFF, 0x0, true⟩, ⟨0x60, 1, 0x4, 0xFFFFFFFF, 0x0, true⟩,
      ⟨0x64, 1, 0x4, 0xFF, 0x0, true⟩, ⟨0x68, 1, 0x4, 0xFFFFFFFF, 0x0, true⟩, ⟨0x6C, 1, 0x4, 0x3, 0x0, true⟩,
      ⟨0xC0, 1, 0x4, 0xFFFFFF, 0x0, false⟩, ⟨0xC4, 1, 0x4, 0xFFFFFFFF, 0x0, false⟩, ⟨0xC8, 1, 0x4, 0x3, 0x0, false⟩,
      ⟨0x2C0, 1, 0x4, 0x0, 0xFFFFFFFF, false⟩]

/-- Reset values other than zero of the block registers (R17): offset in the unit, count, stride, value. -/
def Blk.resets : Blk → List (Nat × Nat × Nat × Nat)
  | .glb => [(0x40, 1, 0x4, 0xF1E0960)]
  | .turn => [(0x40, 1, 0x4, 0x8)]
  | .cmb => []
  | .boot => [(0x40, 1, 0x4, 0xC0)]
  | .pwr => [(0x48, 1, 0x4, 0x200007D0), (0x4C, 1, 0x4, 0x707), (0x7C, 1, 0x4, 0x3000000), (0x9C, 1, 0x4, 0x1770), 
      (0x104C, 24, 0x20, 0x6407D0)]
  | .intc => [(0x44, 1, 0x4, 0x3F), (0x80, 4, 0x4, 0x3FE), (0x1000, 16, 0x4, 0x80000003)]
  | .time => [(0x54, 1, 0x4, 0x77359400), (0x100, 8, 0x40, 0x64), (0x1050, 8, 0x20, 0x3B9ACA00), 
      (0x1054, 8, 0x20, 0x3E8), (0x3040, 8, 0x10, 0x400)]
  | .tru => [(0x40, 1, 0x4, 0x201), (0x44, 1, 0x4, 0x200010)]
  | .eth => [(0x4C, 1, 0x4, 0x2400), (0x50, 1, 0x4, 0x64), (0x54, 1, 0x4, 0x18), (0x58, 1, 0x4, 0x80080020), 
      (0x70, 1, 0x4, 0x1300)]
  | .hif => [(0x3040, 64, 0x10, 0x103)]
  | .can => [(0x40, 1, 0x4, 0x2000)]
  | .lin => [(0x48, 1, 0x4, 0x208D5)]
  | .ser => [(0x40, 1, 0x4, 0x230000), (0x48, 1, 0x4, 0x56CE), (0x4C, 1, 0x4, 0x10001)]
  | .tts => [(0x40, 1, 0x4, 0x1), (0x1048, 24, 0x40, 0x3E8)]
  | .gwy => [(0x40, 1, 0x4, 0x1)]
  | .pars => []
  | .rule => [(0x44, 1, 0x4, 0x10000)]
  | .flow => [(0x40, 1, 0x4, 0x1), (0x44, 1, 0x4, 0xC0200), (0x48, 1, 0x4, 0x8)]
  | .fwd => [(0x40, 1, 0x4, 0x1), (0x48, 1, 0x4, 0xC0010), (0x4C, 1, 0x4, 0x125), (0x50, 1, 0x4, 0x1), 
      (0x54, 1, 0x4, 0x4000190), (0x58, 1, 0x4, 0xFA0), (0x68, 1, 0x4, 0x4000000), (0x400, 38, 0x4, 0x88000001)]
  | .buf => [(0x40, 1, 0x4, 0x100), (0x48, 1, 0x4, 0x400), (0x4C, 1, 0x4, 0xF280), (0x50, 1, 0x4, 0xF280), 
      (0x54, 1, 0x4, 0xF280), (0x5C, 1, 0x4, 0x20000), (0x64, 1, 0x4, 0x100), (0x74, 1, 0x4, 0x100), 
      (0x8000, 272, 0x10, 0x80004), (0x9100, 16, 0x10, 0x40080004), (0x9200, 16, 0x10, 0x80004)]
  | .tsn => [(0x84, 1, 0x4, 0xFF), (0xD4, 1, 0x4, 0xA0000)]
  | .mir => [(0x110, 8, 0x20, 0x1)]
  | .cpe => [(0x44, 1, 0x4, 0x10000000), (0x48, 1, 0x4, 0x10)]
  | .la => []
  | .key => []
  | .lcs => []
  | .bench => []
  | .dram => [(0x44, 1, 0x4, 0x80000008), (0x54, 1, 0x4, 0x100)]
  | .hst => [(0x44, 1, 0x4, 0x1000)]
  | .pair => [(0x48, 1, 0x4, 0x20001F4), (0x4C, 1, 0x4, 0x3203E8), (0x50, 1, 0x4, 0x1)]

/-- The live counter ranges of one unit and the distance to their SNAP copies (R17, chapters 05 to 24). -/
def Blk.snaps : Blk → List (Nat × Nat × Nat)
  | .glb => []
  | .turn => []
  | .cmb => []
  | .boot => []
  | .pwr => [(0x200, 0x21C, 0x200)]
  | .intc => [(0x280, 0x29C, 0x200)]
  | .time => [(0x800, 0x86C, 0x200)]
  | .tru => [(0x200, 0x218, 0x200)]
  | .eth => [(0x200, 0x2C0, 0x200)]
  | .hif => [(0x200, 0x220, 0x200), (0x4040, 0x4840, 0x1000)]
  | .can => [(0x200, 0x260, 0x200)]
  | .lin => [(0x200, 0x224, 0x200)]
  | .ser => [(0x200, 0x228, 0x200)]
  | .tts => [(0x2040, 0x2640, 0x1000)]
  | .gwy => []
  | .pars => [(0x200, 0x2C0, 0x1000)]
  | .rule => [(0x200, 0x234, 0x1000)]
  | .flow => [(0x200, 0x254, 0x1000)]
  | .fwd => [(0x200, 0x25C, 0x1000)]
  | .buf => [(0x200, 0x258, 0x4000), (0x300, 0x400, 0x4000), (0x1000, 0x3600, 0x4000)]
  | .tsn => [(0x200, 0x238, 0x200)]
  | .mir => [(0x200, 0x258, 0x1000)]
  | .cpe => [(0x200, 0x228, 0x200)]
  | .la => []
  | .key => [(0x200, 0x214, 0x200)]
  | .lcs => []
  | .bench => [(0x200, 0x224, 0x1000)]
  | .dram => [(0x200, 0x224, 0x1000)]
  | .hst => [(0x200, 0x214, 0x200)]
  | .pair => [(0x200, 0x250, 0x1000)]

/-- The SAT bits (R365, R366): SAT register, first bit, count, the first counter and the distance of the counters. -/
def Blk.sats : Blk → List (Nat × Nat × Nat × Nat × Nat)
  | .glb => [(0x2C0, 0, 1, 0x50, 0x4)]
  | .turn => [(0x4C, 4, 1, 0x78, 0x4), (0x4C, 4, 2, 0x7C, 0x4)]
  | .cmb => []
  | .boot => []
  | .pwr => [(0x2C0, 0, 3, 0x210, 0x4)]
  | .intc => [(0x2C0, 0, 7, 0x280, 0x4)]
  | .time => [(0x8C0, 0, 19, 0x820, 0x4)]
  | .tru => [(0x2C0, 0, 4, 0x208, 0x4)]
  | .eth => [(0x2C0, 0, 10, 0x298, 0x4)]
  | .hif => [(0x2C0, 0, 7, 0x200, 0x4)]
  | .can => [(0x2C0, 0, 15, 0x220, 0x4)]
  | .lin => [(0x2C0, 0, 5, 0x210, 0x4)]
  | .ser => [(0x2C0, 0, 6, 0x210, 0x4)]
  | .tts => (List.range 24).flatMap fun k => [(0x207C + 0x40 * k, 0, 5, 0x2058 + 0x40 * k, 0x4)]
  | .gwy => [(0x2C0, 0, 3, 0x210, 0x4)]
  | .pars => [(0x2C0, 0, 8, 0x240, 0x4)]
  | .rule => [(0x2C0, 0, 7, 0x218, 0x4)]
  | .flow => [(0x2C0, 0, 11, 0x228, 0x4)]
  | .fwd => [(0x2C0, 0, 15, 0x220, 0x4)]
  | .buf => [(0x2C0, 0, 14, 0x220, 0x4), (0x2C4, 0, 32, 0x300, 0x4), (0x2C8, 0, 32, 0x380, 0x4)]
  | .tsn => [(0x2C0, 0, 8, 0x218, 0x4)]
  | .mir => [(0x2C0, 0, 2, 0x250, 0x4)]
  | .cpe => [(0x2C0, 0, 6, 0x210, 0x4)]
  | .la => []
  | .key => [(0x2C0, 0, 3, 0x208, 0x4)]
  | .lcs => []
  | .bench => [(0x2C0, 0, 7, 0x208, 0x4)]
  | .dram => [(0x2C0, 0, 5, 0x210, 0x4)]
  | .hst => [(0x2C0, 0, 3, 0x208, 0x4)]
  | .pair => [(0x2C0, 0, 12, 0x220, 0x4)]

/-- The low-order registers of R13 in a block: those of 64-bit quantities and the 64-bit counters; offset, count, stride. Pairs that hold
fewer bits read live (DEDUCED, log entry 102). -/
def Blk.los : Blk → List (Nat × Nat × Nat)
  | .glb => [(0x48, 1, 0x4)]
  | .turn => [(0x50, 1, 0x4), (0x58, 1, 0x4)]
  | .cmb => []
  | .boot => []
  | .pwr => [(0x200, 1, 0x4), (0x208, 1, 0x4), (0x400, 1, 0x4), (0x408, 1, 0x4)]
  | .intc => []
  | .time => [(0x108, 8, 0x40), (0x120, 8, 0x40), (0x400, 8, 0x10), (0x800, 1, 0x4),
      (0x808, 1, 0x4), (0x810, 1, 0x4), (0x818, 1, 0x4), (0xA00, 1, 0x4), (0xA08, 1, 0x4), (0xA10, 1, 0x4),
      (0xA18, 1, 0x4), (0x1044, 8, 0x20)]
  | .tru => [(0x200, 1, 0x4), (0x400, 1, 0x4)]
  | .eth => [(0x200, 1, 0x4), (0x208, 1, 0x4), (0x210, 1, 0x4), (0x218, 1, 0x4), (0x220, 1, 0x4), (0x228, 1, 0x8),
      (0x230, 1, 0x8), (0x238, 1, 0x8), (0x240, 1, 0x8), (0x248, 1, 0x8), (0x250, 1, 0x8), (0x258, 1, 0x8),
      (0x260, 1, 0x4), (0x268, 1, 0x4), (0x270, 1, 0x4), (0x278, 1, 0x4), (0x280, 1, 0x4), (0x288, 1, 0x4),
      (0x290, 1, 0x4), (0x400, 1, 0x4), (0x408, 1, 0x4), (0x410, 1, 0x4), (0x418, 1, 0x4), (0x420, 1, 0x4),
      (0x428, 1, 0x8), (0x430, 1, 0x8), (0x438, 1, 0x8), (0x440, 1, 0x8), (0x448, 1, 0x8), (0x450, 1, 0x8),
      (0x458, 1, 0x8), (0x460, 1, 0x4), (0x468, 1, 0x4), (0x470, 1, 0x4), (0x478, 1, 0x4), (0x480, 1, 0x4),
      (0x488, 1, 0x4), (0x490, 1, 0x4)]
  | .hif => [(0x1040, 64, 0x20), (0x2040, 64, 0x20), (0x4040, 128, 0x10), (0x4048, 128, 0x10), (0x5040, 128, 0x10),
      (0x5048, 128, 0x10)]
  | .can => [(0x200, 1, 0x4), (0x208, 1, 0x4), (0x210, 1, 0x4), (0x218, 1, 0x4), (0x400, 1, 0x4), (0x408, 1, 0x4),
      (0x410, 1, 0x4), (0x418, 1, 0x4)]
  | .lin => [(0x200, 1, 0x4), (0x208, 1, 0x4), (0x400, 1, 0x4), (0x408, 1, 0x4)]
  | .ser => [(0x200, 1, 0x4), (0x208, 1, 0x4), (0x400, 1, 0x4), (0x408, 1, 0x4)]
  | .tts => [(0x2040, 24, 0x40), (0x2048, 24, 0x40), (0x2050, 24, 0x40), (0x3040, 24, 0x40), (0x3048, 24, 0x40),
      (0x3050, 24, 0x40)]
  | .gwy => [(0x200, 1, 0x4), (0x208, 1, 0x4)]
  | .pars => [(0x200, 4, 0x8), (0x220, 4, 0x8), (0x1200, 4, 0x8), (0x1220, 4, 0x8)]
  | .rule => [(0x200, 1, 0x4), (0x208, 1, 0x4), (0x210, 1, 0x4), (0x1200, 1, 0x4), (0x1208, 1, 0x4), (0x1210, 1, 0x4)]
  | .flow => [(0x200, 1, 0x4), (0x208, 1, 0x4), (0x210, 1, 0x4), (0x218, 1, 0x4), (0x220, 1, 0x4), (0x1200, 1, 0x4),
      (0x1208, 1, 0x4), (0x1210, 1, 0x4), (0x1218, 1, 0x4), (0x1220, 1, 0x4)]
  | .fwd => [(0x200, 1, 0x4), (0x208, 1, 0x4), (0x210, 1, 0x4), (0x218, 1, 0x4), (0x1200, 1, 0x4), (0x1208, 1, 0x4),
      (0x1210, 1, 0x4), (0x1218, 1, 0x4)]
  | .buf => [(0x200, 1, 0x4), (0x208, 1, 0x4), (0x210, 1, 0x4), (0x1000, 304, 0x20), (0x1008, 304, 0x20),
      (0x1010, 304, 0x20), (0x1018, 304, 0x20), (0x4200, 1, 0x4), (0x4208, 1, 0x4), (0x4210, 1, 0x4),
      (0x5000, 304, 0x20), (0x5008, 304, 0x20), (0x5010, 304, 0x20), (0x5018, 304, 0x20)]
  | .tsn => [(0x48, 1, 0x4), (0x60, 1, 0x4), (0x78, 1, 0x4), (0x200, 1, 0x4), (0x208, 1, 0x4), (0x210, 1, 0x4),
      (0x400, 1, 0x4), (0x408, 1, 0x4), (0x410, 1, 0x4)]
  | .mir => [(0x200, 8, 0x8), (0x240, 1, 0x4), (0x248, 1, 0x4), (0x1200, 8, 0x8), (0x1240, 1, 0x4), (0x1248, 1, 0x4)]
  | .cpe => [(0x200, 1, 0x4), (0x208, 1, 0x4), (0x400, 1, 0x4), (0x408, 1, 0x4)]
  | .la => []
  | .key => [(0x200, 1, 0x4), (0x400, 1, 0x4)]
  | .lcs => []
  | .bench => [(0x200, 1, 0x4), (0x408, 5, 0x20), (0x410, 5, 0x20), (0x418, 5, 0x20), (0x1200, 1, 0x4)]
  | .dram => [(0x200, 1, 0x4), (0x208, 1, 0x4), (0x1200, 1, 0x4), (0x1208, 1, 0x4)]
  | .hst => [(0x48, 1, 0x4), (0x200, 1, 0x4), (0x400, 1, 0x4)]
  | .pair => [(0x8C, 1, 0x4), (0x200, 1, 0x4), (0x208, 1, 0x4), (0x210, 1, 0x4), (0x218, 1, 0x4), (0x1200, 1, 0x4),
      (0x1208, 1, 0x4), (0x1210, 1, 0x4), (0x1218, 1, 0x4)]

/-- The block, unit number and offset in the unit that a window offset names; none for an offset that no page
covers (R14). -/
def blkOf (off : Nat) : Option (BlkRow × Nat × Nat) :=
  (blkRows.find? fun r => decide (r.base ≤ off ∧ off < r.base + r.inst * r.pages * 0x1000)).map fun r =>
    (r, (off - r.base) / (r.pages * 0x1000), (off - r.base) % (r.pages * 0x1000))

/-- The row of a block's table that covers an offset in the unit. -/
def Blk.row? (b : Blk) (o : Nat) : Option RegRow :=
  b.rows.find? fun r => decide (r.off ≤ o ∧ (o - r.off) % r.stride = 0 ∧ (o - r.off) / r.stride < r.n)

/-- R17: the value of a block register after PORST_N. -/
def Blk.reset (b : Blk) (o : Nat) : Nat :=
  ((b.resets.find? fun r => decide (r.1 ≤ o ∧ (o - r.1) % r.2.2.1 = 0 ∧ (o - r.1) / r.2.2.1 < r.2.1)).map
    fun r => r.2.2.2).getD 0

/-- R60: offsets whose page has no header: the INTC's page 1 and the BUF block's pages 1 to 3 and 5 to 9. -/
def headerless (b : Blk) (o : Nat) : Bool :=
  (b == .intc && o / 0x1000 == 1) ||
  (b == .buf && (decide (1 ≤ o / 0x1000 ∧ o / 0x1000 ≤ 3) || decide (5 ≤ o / 0x1000 ∧ o / 0x1000 ≤ 9)))

/-- The word a register holds after PORST_N, by window offset: the header's PG_CTRL.EN and PG_OWNER (no owner, since
REG_INIT has written none yet) and the tables' values. (DESIGN CHOICE, log entry 9.) (DEDUCED, log entry 15.) -/
def regReset (off : Nat) : Word :=
  match blkOf off with
  | none => 0
  | some (r, _, o) =>
    if o < 0x40 ∧ headerless r.blk o = false then
      if o = 0x00C then 1 else if o = 0x024 then 0xF else 0
    else if r.blk = .eth ∧ o = 0x070 then (if off = 0x20070 then 0x1300 else 0)
    else BitVec.ofNat 32 (r.blk.reset o)

/-- The live counter whose SNAP copy an offset names, if it names one. -/
def snapLive (off : Nat) : Option Nat :=
  match blkOf off with
  | none => none
  | some (r, _, o) =>
    (r.blk.snaps.find? fun x => decide (x.1 + x.2.2 ≤ o ∧ o < x.2.1 + x.2.2)).map fun x => off - x.2.2

/-- Registers of a block that no write changes, by offset in the unit, count and stride: read-only registers and counters. -/
def Blk.fixed : Blk → List (Nat × Nat × Nat)
  | .glb => [(0x40, 5, 0x4), (0x60, 4, 0x4), (0x80, 1, 0x4), (0xA0, 1, 0x4)]
  | .turn => [(0x48, 1, 0x4), (0x50, 13, 0x4)]
  | .cmb => [(0x100, 2, 0x4), (0x140, 16, 0x4)]
  | .boot => [(0x40, 20, 0x4)]
  | .pwr => [(0x80, 1, 0x4), (0x8C, 4, 0x4), (0x200, 7, 0x4), (0x105C, 24, 0x20)]
  | .intc => [(0x48, 1, 0x4), (0x80, 8, 0x4), (0x200, 24, 0x4), (0x280, 7, 0x4)]
  | .time => [(0x40, 1, 0x4), (0x48, 4, 0x4), (0x60, 3, 0x4), (0x108, 8, 0x40), (0x10C, 8, 0x40), (0x110, 8, 0x40), (0x114, 8, 0x40),
      (0x12C, 8, 0x40), (0x130, 8, 0x40), (0x400, 8, 0x10), (0x404, 8, 0x10), (0x408, 8, 0x10), (0x40C, 8, 0x10), (0x800, 27, 0x4),
      (0x1160, 1, 0x4), (0x1170, 8, 0x4), (0x2080, 1, 0x4), (0x2090, 4, 0x4)]
  | .tru => [(0x48, 2, 0x4), (0x200, 6, 0x4), (0x1048, 32, 0x20), (0x104C, 32, 0x20), (0x1058, 32, 0x20), (0x105C, 32, 0x20)]
  | .eth => [(0x5C, 2, 0x4), (0x200, 48, 0x4)]
  | .hif => [(0x40, 2, 0x4), (0x200, 7, 0x4), (0x1050, 64, 0x20), (0x1054, 64, 0x20), (0x2050, 64, 0x20), (0x2054, 64, 0x20),
      (0x4040, 128, 0x10), (0x4044, 128, 0x10), (0x4048, 128, 0x10), (0x404C, 128, 0x10)]
  | .can => [(0x5C, 1, 0x4), (0x68, 2, 0x4), (0x88, 2, 0x4), (0x200, 23, 0x4)]
  | .lin => [(0x200, 9, 0x4)]
  | .ser => [(0x200, 10, 0x4)]
  | .tts => [(0x1058, 24, 0x40), (0x1060, 24, 0x40), (0x1064, 24, 0x40), (0x1068, 24, 0x40), (0x2040, 24, 0x40), (0x2044, 24, 0x40),
      (0x2048, 24, 0x40), (0x204C, 24, 0x40), (0x2050, 24, 0x40), (0x2054, 24, 0x40), (0x2058, 24, 0x40), (0x205C, 24, 0x40),
      (0x2060, 24, 0x40), (0x2064, 24, 0x40), (0x2068, 24, 0x40)]
  | .gwy => [(0x200, 7, 0x4)]
  | .pars => [(0x40, 1, 0x4), (0x48, 1, 0x4), (0x50, 4, 0x4), (0x200, 4, 0x8), (0x204, 4, 0x8), (0x220, 4, 0x8), (0x224, 4, 0x8),
      (0x240, 8, 0x4)]
  | .rule => [(0x40, 1, 0x4), (0x48, 1, 0x4), (0x50, 5, 0x4), (0x200, 13, 0x4)]
  | .flow => [(0x50, 5, 0x4), (0x104, 1, 0x4), (0x200, 21, 0x4)]
  | .fwd => [(0x5C, 3, 0x4), (0x6C, 2, 0x4), (0x200, 23, 0x4)]
  | .buf => [(0x4C, 5, 0x4), (0x68, 3, 0x4), (0x140, 16, 0x4), (0x200, 6, 0x4), (0x220, 14, 0x4), (0x300, 64, 0x4), (0x1000, 304, 0x20),
      (0x1004, 304, 0x20), (0x1008, 304, 0x20), (0x100C, 304, 0x20), (0x1010, 304, 0x20), (0x1014, 304, 0x20), (0x1018, 304, 0x20),
      (0x101C, 304, 0x20), (0x8004, 304, 0x10), (0x8008, 304, 0x10)]
  | .tsn => [(0x60, 10, 0x4), (0x200, 14, 0x4)]
  | .mir => [(0x48, 4, 0x4), (0x114, 8, 0x20), (0x200, 8, 0x8), (0x204, 8, 0x8), (0x240, 6, 0x4)]
  | .cpe => [(0x4C, 2, 0x4), (0x60, 1, 0x4), (0x200, 10, 0x4)]
  | .la => [(0x80, 1, 0x4), (0x88, 1, 0x4), (0xA0, 8, 0x4)]
  | .key => [(0x48, 6, 0x4), (0x200, 5, 0x4)]
  | .lcs => [(0x40, 22, 0x4)]
  | .bench => [(0x44, 1, 0x4), (0x200, 9, 0x4), (0x418, 5, 0x20), (0x41C, 5, 0x20)]
  | .dram => [(0x40, 1, 0x4), (0x48, 3, 0x4), (0x200, 9, 0x4)]
  | .hst => [(0x40, 1, 0x4), (0x48, 5, 0x4), (0x200, 5, 0x4)]
  | .pair => [(0x70, 9, 0x4), (0xA0, 8, 0x4), (0x200, 20, 0x4)]

/-- R14: registers that unit i of a block lacks: those that the register tables give to other units only. -/
def Blk.absent (b : Blk) (i o : Nat) : Bool :=
  match b with
  | .eth => (o == 0x54 && decide (i < 12 ∨ 28 ≤ i)) || (o == 0x58 && decide (i < 28)) || (decide (0x70 ≤ o ∧ o < 0x7C) && decide (4 ≤ i))
  | .tsn => (o == 0xD4 && decide (28 ≤ i)) || (o == 0xE0 && decide (36 ≤ i)) || (decide (0x180 ≤ o ∧ o < 0x1E0) && i != 0)
  | .lin => o == 0x224 || o == 0x424
  | _ => false

/-- R15: the bits of a register that its unit has: EXT_EN of TRU_PCFG on P0 to P3 only, IN_LAG of FWD_PORT on P0 to P31 only. -/
def Blk.hasBits (b : Blk) (o : Nat) : Nat :=
  if b = .tru ∧ 0x10C0 ≤ o ∧ o % 0x20 = 0 then 0x7FFFFFFF
  else if b = .fwd ∧ 0x480 ≤ o ∧ o < 0x498 then 0xFBFFFFFF
  else 0xFFFFFFFF

/-- R14, R67: where in a unit the register windows of its tables stand: the window of one block has the same layout as that of another. -/
def Blk.windows : Blk → List Nat
  | .gwy | .tts | .pars | .rule | .flow | .mir | .cpe | .key => [0x80]
  | .fwd => [0x80, 0x100]
  | .tsn => [0x100, 0x180]
  | .time => [0x3100]
  | _ => []

/-- R14: an offset holds a register of its block. -/
def assigned (off : Nat) : Bool :=
  match blkOf off with
  | none => false
  | some (r, i, o) =>
    !r.blk.absent i o &&
      ((r.blk.row? o).isSome || (decide (o % 0x1000 < 0x40) && !headerless r.blk o) || (snapLive off).isSome ||
        (r.blk.fixed.any fun x => decide (x.1 ≤ o ∧ (o - x.1) % x.2.2 = 0 ∧ (o - x.1) / x.2.2 < x.2.1)) ||
        r.blk.windows.any fun x => decide (x ≤ o ∧ o < x + 0x60 ∧ o % 4 = 0 ∧ o ≠ x + 0x0C))

/-- Whether an offset is a live counter that turn edges copy. -/
def isCounter (off : Nat) : Bool :=
  match blkOf off with
  | none => false
  | some (r, _, o) => r.blk.snaps.any fun x => decide (x.1 ≤ o ∧ o < x.2.1)

end Sys2Proof.Machine
end

