-- ==== Sys2Proof/Machine/Sparse.lean ====
section
/-! DEFINITION. Sparse maps from Nat keys: lists of (key, value) in one canonical form, keys strictly rising and no
entry equal to what an unlisted key reads as, so that equal contents are equal data. Registers, tables, memories and
per-unit engine records are held in them. -/

namespace Sys2Proof.Machine

/-- A sparse map: what it holds beside its default. -/
abbrev SMap (α : Type) := List (Nat × α)

/-- The value at a key; `d k` where the key is not listed. -/
def smGet {α : Type} (d : Nat → α) : SMap α → Nat → α
  | [], k => d k
  | (k', v) :: m, k => if k = k' then v else smGet d m k

/-- Insert or replace, keeping the keys rising. -/
def smPut {α : Type} (k : Nat) (v : α) : SMap α → SMap α
  | [] => [(k, v)]
  | (k', v') :: m =>
    if k < k' then (k, v) :: (k', v') :: m
    else if k = k' then (k, v) :: m
    else (k', v') :: smPut k v m

/-- Remove a key. -/
def smDel {α : Type} (k : Nat) : SMap α → SMap α
  | [] => []
  | (k', v) :: m => if k = k' then smDel k m else (k', v) :: smDel k m

/-- Write a value: a value equal to the default removes the entry. -/
def smSet {α : Type} [DecidableEq α] (d : Nat → α) (m : SMap α) (k : Nat) (v : α) : SMap α :=
  if v = d k then smDel k m else smPut k v m

/-- Keys strictly above a bound and rising, no entry equal to its default. -/
def smWfFrom {α : Type} [DecidableEq α] (d : Nat → α) : Nat → SMap α → Bool
  | _, [] => true
  | b, (k, v) :: m => decide (b ≤ k) && decide (v ≠ d k) && smWfFrom d (k + 1) m

/-- The canonical form of a sparse map. -/
def smWf {α : Type} [DecidableEq α] (d : Nat → α) (m : SMap α) : Bool := smWfFrom d 0 m

/-- Apply `f` to each number below `n`, in rising order. -/
def forN {σ : Type} (n : Nat) (f : Nat → σ → σ) (s : σ) : σ := (List.range n).foldl (fun s i => f i s) s

/-- Apply `f` to each member of a list in order. -/
def forL {α σ : Type} (l : List α) (f : α → σ → σ) (s : σ) : σ := l.foldl (fun s a => f a s) s

/-- Insert a value before the first that it may precede. -/
def insertBy {α : Type} (le : α → α → Bool) (x : α) : List α → List α
  | [] => [x]
  | y :: l => if le x y then x :: y :: l else y :: insertBy le x l

/-- A list in the order of `le`, equal values in the order they had. -/
def sortBy {α : Type} (le : α → α → Bool) (l : List α) : List α := l.foldr (insertBy le) []

end Sys2Proof.Machine
end

