-- ==== Sys2Proof/Machine/Types.lean ====
section
/-! DEFINITION. The records that State holds beside the register window: engines, queues, slots and what they have in hand. -/

namespace Sys2Proof.Machine

/-- What has left the package, oldest first: the model's own trace, which no command reads. -/
inductive Out where
  /-- A frame sent on the line of a port, its FCS included (R126). -/
  | eth (port : Nat) (bytes : List Byte)
  /-- What a port sent of a frame that ended without a valid FCS (R132), or a stomped frame with its inverted FCS (R316). -/
  | cut (port : Nat) (bytes : List Byte)
  /-- Received data that a port in LINE loopback returns to its line (ETH_CTRL.LOOP 0b10). -/
  | back (port : Nat) (bytes : List Byte)
  /-- A CAN, LIN or RS-485 frame or header sent by a legacy channel (R29 numbers it). -/
  | leg (chan : Nat) (id : Nat) (bytes : List Byte)
  /-- A DMA write to host memory by an endpoint. -/
  | dma (ep : Nat) (addr : Nat) (bytes : List Byte)
  /-- An MSI-X message. -/
  | msix (ep fn vec : Nat)
  /-- A command or a program operation on a serial pin set: MDIO, flash. -/
  | pins (what : String) (args : List Nat)
  deriving DecidableEq, Repr

/-- One remembered tag of a mailbox (R81): tag, CMB_CPL [15:0], results, digest. -/
structure TagRec where
  tag : Nat
  cpl : Nat
  res : List Word
  digest : List Byte
  deriving DecidableEq, Repr

/-- A mailbox beside its registers: whether the Headstock has taken the command, what an abort restores, and the tags, oldest
first. -/
structure Mbox where
  taken : Bool := false
  undo : List (Nat × Word) := []
  tags : List TagRec := []
  deriving DecidableEq, Repr

/-- A time domain (R371): its time in units of 2^-64 ns, the RATE in effect, the remaining adjustment in the same units,
and, newest first, where its slope changed or it stepped: FRC, time and slope before (R379). -/
structure TDom where
  t : Nat := 0
  rate : Int := 0
  rem : Int := 0
  past : List (Nat × Nat × Int) := []
  deriving DecidableEq, Repr

/-- A keeper (R393): sequence numbers sent, the Sync waiting for its Follow_Up (sequenceId, correctionField and ingress
domain stamp), and the FRC of its last interval, Sync or start. -/
structure Keeper where
  seqSync : Nat := 0
  seqAnn : Nat := 0
  pendSync : Option (Nat × Int × Nat) := none
  since : Nat := 0
  deriving DecidableEq, Repr

/-- The time unit beside its registers (R369 to R394): whether the time clock runs, the FRC, the domains, the egress
stamps and captures held, the FRC of each input's last capture, the FRC at which each output's pulse ends, the next pulse
instant of each output in ns plus one (0: none), the keepers, what SLEEP saved, and the frames trapped to the keeper: port, bytes,
stamp. -/
structure TimeSt where
  run : Bool := false
  frc : Nat := 0
  doms : SMap TDom := []
  tsf : List (List Nat) := []
  tcap : List (List Nat) := []
  lastCap : SMap Nat := []
  toutEnd : SMap Nat := []
  toutNext : SMap Nat := []
  keep : SMap Keeper := []
  saved : Option (Nat × SMap TDom × List Word × Nat) := none
  keepQ : List (Nat × List Byte × Nat) := []
  deriving DecidableEq, Repr

/-- A change held on a key slot in use (R487). -/
inductive HeldKey where
  | write (key : List Byte) (attr limit : Nat)
  | erase
  deriving DecidableEq, Repr

/-- A key slot (R481, R484): 32 key bytes, attribute word, counters, in-use count, held change, ERRORED mark, and
whether KEY_SPENT has been raised for it. -/
structure KeySlot where
  key : List Byte := []
  attr : Nat := 0
  use : Nat := 0
  limit : Nat := 0
  inUse : Nat := 0
  held : Option HeldKey := none
  errored : Bool := false
  spentRaised : Bool := false
  deriving DecidableEq, Repr

/-- A look-aside page (R474 to R478): waiting for a start, the operation's key, and its staged result with the status of
the completion point. -/
structure LaPage where
  waiting : Bool := false
  running : Bool := false
  key : List Byte := []
  done : Option (Nat × List Byte × List Byte) := none
  deriving DecidableEq, Repr

/-- What boot has read and chosen (R104, R105): the header and directory words of the slots, the candidates left, and
the image in the Headstock region. -/
structure BootSt where
  hdrA : List Word := []
  hdrB : List Word := []
  cand : List Nat := []
  image : List Word := []
  digest : List Byte := []
  locks : List (Nat × Word) := []
  kept : List (Nat × Word) := []
  deriving DecidableEq, Repr

/-- The Headstock beside its registers (R502): the write log of Bench words, newest first, with each old value; the turn
edges since a restart completed; whether the last edge gave turn work (R56) and when it began; whether work is carried. -/
structure HstSt where
  log : List (Nat × List Byte) := []
  sinceRestart : Option Nat := none
  workGiven : Bool := false
  workAt : Nat := 0
  doneAt : Option Nat := none
  deriving DecidableEq, Repr

/-- The interrupt controller beside its registers (chapter 19): the levels at its inputs, each target's active source
plus one (0: none), SEEN flags, lines, the hold-off timers by 4 g + t (0 IDLE, 1 RUNNING, 2 EXPIRED), for each RUNNING one the FRC at
its start and its hold-off in µs, targets whose wake
is being signalled, held MSI-X messages (endpoint, function, vector), and a wake request to the Tailstock. -/
structure IntcSt where
  high : List Nat := []
  act : SMap Nat := []
  seen : List Nat := []
  line : List Nat := []
  tmr : SMap Nat := []
  runs : SMap (Nat × Nat) := []
  waking : List Nat := []
  pba : List (Nat × Nat × Nat) := []
  mgmtWake : Option Nat := none
  deriving DecidableEq, Repr

/-- The scrubber's sweep (R518): DRAM_CORR when it began, and whether CORR_HIGH has been raised in it. -/
structure DramSt where
  sweepBase : Nat := 0
  high : Bool := false
  deriving DecidableEq, Repr

/-- The update engine (R576 to R589): STATE, the lock's holder (7 when free), events and enables, the last status,
IMAGE_LEN, the ranges written since UPD_BEGIN, the staged and verified words, and the step of the pause. -/
structure UpdSt where
  state : Nat := 0
  holder : Nat := 7
  ev : Nat := 0
  en : Nat := 0
  last : Nat := 0
  len : Nat := 0
  done : List (Nat × Nat) := []
  hdr : List Word := []
  image : List Word := []
  pause : Nat := 0
  deriving DecidableEq, Repr

/-- The time request of a frame (R385). -/
structure TReq where
  tsr : Nat := 0
  td : Nat := 0
  tag : Nat := 0
  ref : Nat := 0
  deriving DecidableEq, Repr

/-- The canonical tuple (R224): the KIND of R251, that is 0 IPv4, 2 legacy, 4 IPv6, and 1 for other Ethernet frames; the
source's and destination's address and port; whether fragmented; the TCP flags of an unfragmented TCP frame. -/
structure Tuple where
  kind : Nat := 1
  src : Nat := 0
  dst : Nat := 0
  proto : Nat := 0
  sport : Nat := 0
  dport : Nat := 0
  frag : Bool := false
  tcp : Option Nat := none
  deriving DecidableEq, Repr

/-- A frame in cells (R299, R300): its bytes without FCS, whether an FCS is stored, whether its tail is still arriving,
the arrival reference, the references its copies hold, and what travels with it (R32, R39, R211, R216, R326), with whether the reorder window found
it late or released it because the hold store was full (R319, R320), and the VLAN of its pass (R277). The ingress traffic class
(R239), the hasher's tuple of its pass (R224, R251), whether its head still waits to enter the hasher, where an R-TAG was
removed (R327), the flow entries that its passes counted in (R258), and the VLAN and FID of a learn request that waits for its copies
to leave (R281). -/
structure FrameSt where
  bytes : List Byte := []
  eth : Bool := true
  more : Bool := false
  arrival : Bool := false
  refs : Nat := 0
  inPort : Nat := 0
  stamp : Nat := 0
  rver : Nat := 0
  gver : Nat := 0
  passes : Nat := 0
  tc : Nat := 0
  hash : Nat := 0
  spin : Nat := 0
  handle : Option Nat := none
  ipv : Bool := false
  yellow : Bool := false
  charged : List (Nat × Nat) := []
  gen : Option (Nat × Nat) := none
  rcv : Option (Nat × Nat) := none
  et : Option Nat := none
  nextSet : Option Nat := none
  req : TReq := {}
  octets : Nat := 0
  late : Bool := false
  vid : Option Nat := none
  ingTc : Nat := 0
  tup : Tuple := {}
  waits : Bool := false
  cutTag : Option Nat := none
  flowAt : List Nat := []
  learn : Option (Nat × Nat) := none
  since : Nat := 0
  deriving DecidableEq, Repr

/-- A copy (R301): its frame, queue and cells, whether headroom holds it, its kind (0 forwarding, 1 to the Headstock, 2
mirror), its VLAN edit (0 as stored, 1 without outer tag, 2 with VID and DEF_PCP) with the offset of the outer tag's TCI
(0: arrived untagged), DEI marking, what P34 does with it
(0 to 35 a channel, 64 + p an encapsulation profile, 128 decapsulation), REASON or mirror header, the pass's hash, PTP
offset, first ACF message and exception, the edit, whether it cuts through, whether it takes the spill path, and
what the spill engine has written of it. -/
structure Copy where
  frame : Nat
  q : Nat
  cells : Nat
  len : Nat
  hdrm : Bool := false
  kind : Nat := 0
  tag : Nat := 0
  vid : Nat := 0
  pcp : Nat := 0
  otag : Nat := 0
  dei : Bool := false
  dest : Nat := 0
  reason : Nat := 0
  mir : List Byte := []
  snap : Nat := 0
  hash : Nat := 0
  ptp : Option Nat := none
  acf : Option Nat := none
  exc : Nat := 0
  et : Option Nat := none
  ct : Bool := false
  spill : Bool := false
  saved : Option FrameSt := none
  deriving DecidableEq, Repr

/-- A queue (R300, R308): the SRAM segment and the DRAM segment, oldest first, and QLEN_MAX. -/
structure QSt where
  sram : List Copy := []
  dram : List Copy := []
  max : Nat := 0
  deriving DecidableEq, Repr

/-- A reordering function (R319): the next expected number and the held frames' numbers and frames, oldest hold first. -/
structure ReoSt where
  e : Option Nat := none
  held : List (Nat × Nat) := []
  deriving DecidableEq, Repr

/-- A copy in transmission: the copy, the bytes on the line so far (or in all), the predicted departure, and
whether it has been preempted. -/
structure TxSt where
  copy : Copy
  bytes : List Byte
  start : Nat
  frag : Bool := false
  deriving DecidableEq, Repr

/-- The Chuck beside its registers: frames by number, the queues, held copies with their holder (0 the order of R318, f + 1
recovery function f), Spindle input queues, recirculated heads, frames whose tail arrives by port, with the bytes of
the line and the ingress stamp, the ports that do not receive the frame now on their line (R125), transmissions by port,
the reorder windows, the ATS, stream and shaper engines' working values, Burr suspects and position. -/
structure ChuckSt where
  frames : SMap FrameSt := []
  nextId : Nat := 1
  qs : SMap QSt := []
  hold : List (Copy × Nat) := []
  spn : SMap (List Nat) := []
  recirc : List Nat := []
  arriving : SMap Nat := []
  wire : SMap (List Byte × Nat) := []
  deaf : List Nat := []
  tx : SMap (Option TxSt) := []
  held : SMap (Option TxSt) := []
  reo : SMap ReoSt := []
  suspects : List Nat := []
  lost : List Nat := []
  twice : List (Nat × Nat × Bool) := []
  burr : Nat := 0
  freeMin : Nat := 62080
  deriving DecidableEq, Repr

/-- A request of a shard's insertion engine (R260, R273): a TRACK with its entry words, the frame's octets and TCP flags and the
copies that wait for the outcome; a search operation; a purge's invalidation of an entry, by its slot and words (R272); or the
copies of a later frame of a flow whose earlier copies wait (R41). -/
inductive FlowReq where
  | track (frame : Nat) (hash hash2 : Nat) (words : List Nat) (octets flags : Nat) (copies : List Copy)
  | search (op : Nat) (hash hash2 : Nat)
  | purge (slot : Nat) (words : List Nat)
  | pass (frame hash : Nat) (copies : List Copy)
  deriving DecidableEq, Repr

/-- A learn request (R281): kind is judged again when it is applied. -/
structure LearnReq where
  fid : Nat
  mac : Nat
  port : Nat
  deriving DecidableEq, Repr

/-- A purge (R272): how many buckets its sweep has left, once the sweep has started. -/
structure PurgeSt where
  left : Option Nat := none
  deriving DecidableEq, Repr

/-- The lookup engines beside their tables: insertion queues by shard, the learn queue, scanner positions, the purge,
failed rule sets with their entry, suspected mismatches of the shadow comparator, buckets and entries read uncorrectable. The
flow caches (R271), oldest fill first: an entry's head slot and its words as they stand in DRAM. The MAC scanner's first sweep after REST (R287):
whether it is due, and the buckets that it has left. -/
structure LookSt where
  ins : SMap (List FlowReq) := []
  learn : List LearnReq := []
  flowPos : Nat := 0
  macPos : Nat := 0
  rulePos : Nat := 0
  purge : PurgeSt := {}
  failed : List (Nat × Nat) := []
  suspects : List (Nat × Nat) := []
  badBuckets : List Nat := []
  badMac : List Nat := []
  check : List (Nat × Nat) := []
  restDue : Bool := false
  restLeft : Nat := 0
  zoneWait : Option Nat := none
  cache : List (Nat × List Nat) := []
  deriving DecidableEq, Repr

/-- Where the Tailstock stands (R520, R523, R526, R528, R533): `boot` until data-plane release, `ponr` from the point
of no return to SLEEP, `wake` from the wake event to legacy release. -/
inductive Phase where
  | boot | active | restEntry | rest | restExit | sleepEntry | ponr | sleep | wake
  deriving DecidableEq, Repr

/-- The Tailstock beside its registers: the phase, the step reached in a sequence, the wake event latched at or after
the point of no return, whether PWR_MIN_SLEEP has run, whether the host functions are released, the state a false wake returns to,
the tick counts (`sleepAt` at the end of the last entry sequence), whether this transition's wake event is recorded (R540), the WAKE_SRC_EN bits latched at entry,
whether the keeper serves (R392), the endpoints whose WAKE_N the host wake holds low (R538), how long VBAT_SNS has stood on the
other side of the threshold in samples (R549), whether the line die is in its safe state (R545), the FRC at the edge that started the
entry (R523) and when the false-wake window began (R544), and by channel the FRC from which its NM engine's timer runs with what it
showed when the channel entered WAKE_ARMED (R546). -/
structure PwrSt where
  phase : Phase := .boot
  step : Nat := 0
  latched : Bool := false
  minDone : Bool := false
  from_ : Nat := 0
  hostRel : Bool := false
  dieLink : Bool := false
  xtalOk : Bool := true
  supplyBad : Bool := false
  ticks : Nat := 0
  sleepAt : Nat := 0
  recorded : Bool := false
  tc10 : Nat := 0
  keeper : Bool := false
  pulse : List Nat := []
  vbatRun : Nat := 0
  lineSafe : Bool := false
  edgeAt : Nat := 0
  fwAt : Nat := 0
  nm : SMap (Nat × Nat) := []
  deriving DecidableEq, Repr

/-- The pins the block drives and the pins it samples whose level a rule reads. `porst` is the reset in effect: `porstIn` is the pin
itself, and a TAP instruction of the EXTEST class holds reset beside it (R610). -/
structure Pins where
  porst : Bool := false
  safe : Bool := false
  resetOut : Bool := false
  inh0 : Bool := true
  inh1 : Bool := true
  wakeA : Bool := false
  wakeB : Bool := false
  irq : Bool := false
  xspiHiz : Bool := false
  perstA : Bool := false
  perstB : Bool := false
  vehMoving : Bool := false
  win : Nat := 0
  porstIn : Bool := false
  tap : TapInst := .idcode
  failover : Bool := false
  deriving DecidableEq, Repr

/-- How a group of pins is driven (R593): by its function, or in one of the states of the pin list. -/
inductive Drive where
  | active | low | high | hiz | pullUp | pullDown | quiet | idle | released | standby | recessive | receiver | input | unpowered
  deriving DecidableEq, Repr

/-- The groups of output and two-way pins of R593. -/
inductive PinGroup where
  | mdiM | mdiG | mdiT | sx | pcie | wakeN | can | lin | rs485 | inh | xspiClk | xspiCs | xspiDq | xspiRst | mdc | mdio | tdo
  | resetOut | safeN | irqN | failover | tout | strapGpio | gpio
  deriving DecidableEq, Repr

/-- What an endpoint answers to a PCIe configuration request (R113, R114): nothing without a link, Configuration Request Retry
Status, PF0 alone, or all its functions. -/
inductive CfgAnswer where
  | none | retry | pf0 | all
  deriving DecidableEq, Repr

/-- An entry of a transmit pool (R153, R154): its age, its frame, whether a cancel covers it. -/
structure CanEnt where
  age : Nat := 0
  fr : LegFrame := {}
  covered : Bool := false
  deriving DecidableEq, Repr

/-- An attempt in progress: its source (0 the pool, 1 a hold buffer, 2 a reference message), its entry, the slot entry and hold
buffer, whether its slot's miss has counted, the FRC of its SOF, the loop delay that its FDF-to-res edge gives (R148), and a
reference message's count and mark and whether it carries the discontinuity bit. -/
structure CanAtt where
  src : Nat := 0
  ent : CanEnt := {}
  slot : Nat := 0
  buf : Nat := 0
  missed : Bool := false
  sof : Nat := 0
  tdcv : Option Nat := none
  count : Nat := 0
  mark : Nat := 0
  disc : Bool := false
  deriving DecidableEq, Repr

/-- A CAN channel beside its registers: the pool with the age of the next entry, the attempt, received frames with their
stamps, the copies and received frames whose key holds a change (R487), a running cancel's withdrawals, bus-offs in a row with the FRC
of the last, automatic recovery stopped, a state to resume in RECOVERING, a wake
pattern due (R548), the first NM_AWAKE after a wake from SLEEP. -/
structure CanSt where
  pool : List CanEnt := []
  next : Nat := 0
  att : Option CanAtt := none
  rx : List (LegFrame × Nat) := []
  secTx : List LegFrame := []
  secRx : List (LegFrame × Nat) := []
  cancel : Option Nat := none
  run : Nat := 0
  boffAt : Nat := 0
  stuck : Bool := false
  boff : Bool := false
  pattern : Bool := false
  fresh : Bool := false
  deriving DecidableEq, Repr

/-- A hold buffer (R174 to R177): its payload, whether it holds one, whether written since the last copy, edges since the last
write, whether it went stale. -/
structure HoldBuf where
  fr : LegFrame := {}
  full : Bool := false
  recent : Bool := false
  edges : Nat := 0
  stale : Bool := false
  deriving DecidableEq, Repr

/-- A schedule beside its registers (R170 to R189): the open window's slot entry, whether its TXEN span has closed, whether it
is resolved; the active BASE and COUNT; SOF (the FRC at the receive input) and mark of the last two reference messages; reference
messages in a row in LISTEN; a reference message due; the discontinuity bit due; next-is-gap received; S2; turn edges of the cycle;
whether the edge that begins the next cycle has come (R170) and its FRC; whether the running cycle had a moved edge or step (R188);
the FRC from which LISTEN is free of reference messages (R181); whether the shadow comparator skips its range (R190). -/
structure TtsCh where
  win : Option Nat := none
  closed : Bool := false
  resolved : Bool := false
  base : Nat := 0
  count : Nat := 0
  sof : Nat := 0
  mark : Nat := 0
  sofPrev : Nat := 0
  markPrev : Nat := 0
  refs : Nat := 0
  due : Bool := false
  disc : Bool := false
  gap : Bool := false
  s2 : Bool := false
  edges : Nat := 0
  begun : Bool := false
  cycEdge : Nat := 0
  moved : Bool := false
  since : Nat := 0
  skip : Bool := false
  deriving DecidableEq, Repr

/-- A LIN channel beside its registers (R195 to R198): response buffers by identifier, newest content first, each from the FRC
instant at which it was written or emptied; delayed headers' schedule entries; the go-to-sleep command in progress, with the FRC
of its end and whether it is cancelled; for a responder, whether a diagnostic header is in progress and its sleep cancelled; the
next schedule entry, the table in force, the subscribed header that waits for its response with its stamp, and received frames. -/
structure LinSt where
  bufs : SMap (List (Nat × Option (List Byte))) := []
  held : List Nat := []
  bye : Option (Nat × Bool) := none
  diag : Option Bool := none
  pos : Nat := 0
  tbl : Bool := false
  wait : Option (Nat × Nat) := none
  rx : List (LegFrame × Nat) := []
  deriving DecidableEq, Repr

/-- An RS-485 channel beside its registers (R200, R201): the transmit queue and received frames. -/
structure SerSt where
  queue : List LegFrame := []
  rx : List (LegFrame × Nat) := []
  deriving DecidableEq, Repr

/-- The gateway beside its registers (R163, R164): the channel served last, by profile the open 1722 frame's messages with the FRC at the
first, and the sequence numbers. -/
structure GwySt where
  last : Nat := 35
  open_ : SMap (List (List Byte)) := []
  openAt : SMap Nat := []
  seq : SMap Nat := []
  deriving DecidableEq, Repr

/-- The turn generator beside its registers (R47 to R53): the settings in force, whether the next edge takes its index as a new
base, and the FRC at the last edge or, before the first, at release. -/
structure TurnSt where
  k : Nat := 8
  phase : Nat := 0
  rebase : Bool := true
  last : Nat := 0
  deriving DecidableEq, Repr

/-- An MDIO command waiting or in progress (R122, R123): its page, whether it reads, and its address and data. -/
structure MdioCmd where
  port : Nat
  read : Bool
  addr : Nat
  data : Nat
  deriving DecidableEq, Repr

/-- A frame in hand on a ring (R420, R426): its descriptors, its data, and on an RX ring its copy, how many bytes each
descriptor takes (none where it is bad) and words 1 to 6 of its EOP record. -/
structure RingJob where
  descs : List (List Nat) := []
  data : List Byte := []
  copy : Option Copy := none
  takes : List (Option Nat) := []
  words : List Nat := []
  deriving DecidableEq, Repr

/-- A ring beside its registers (R428, R429): the TAIL that a STOP latched, and the frame in hand. -/
structure RingSt where
  latch : Nat := 0
  job : Option RingJob := none
  deriving DecidableEq, Repr

/-- A pair's moderation (R432): the count, whether the hold-off runs, which rings have written a record, and the FRC at which the hold-off
began. -/
structure ModSt where
  cnt : Nat := 0
  run : Bool := false
  rx : Bool := false
  tx : Bool := false
  since : Nat := 0
  deriving DecidableEq, Repr

/-- The host interface beside its registers: rings by number, pairs, and the TX ring served last by endpoint plus one. -/
structure HifSt where
  rings : SMap RingSt := []
  mods : SMap ModSt := []
  last : SMap Nat := []
  deriving DecidableEq, Repr

/-- A frame that waits to go to the partner (R561): port, versions, class, stamp and bytes. -/
structure PairInput where
  port : Nat
  rver : Nat
  gver : Nat
  tc : Nat
  stamp : Nat
  bytes : List Byte
  deriving DecidableEq, Repr

/-- The pair block beside its registers (chapter 24): input frames waiting; the journal of the ending turn with its size in
words and whether it overflowed; the last passing HELLO's ROLE and offered features, whether one was sent, whether the
member has paired since release; a BEAT and a JOURNAL since the last edge and BEAT, and whether a JOURNAL since pairing or the last gap; the JOURNAL SEQ in progress with the next
fragment; misses in a row and whether the partner sleeps, whether pairing completed at the last edge; the partner's last BEAT:
departure and arrival stamps, gated pins; the link delays and domain samples of the last 16 exchanges; BEATs beyond and within
tolerance in a row; a handover asked for, the YIELD of a halted member sent, a resync asked for, a takeover decided in REST,
the frames sent by type; the FRC at
which the data plane was released (R557, R571) and at which a RACC frame left (R572). -/
structure PairSt where
  inputs : List PairInput := []
  jrnl : List (List Nat) := []
  words : Nat := 0
  ovf : Bool := false
  hello : Option (Bool × List Nat) := none
  helloTx : Bool := false
  once : Bool := false
  beat : Bool := false
  jrn : Bool := false
  base : Bool := false
  frag : Option (Nat × Nat) := none
  miss : Nat := 0
  quiet : Bool := false
  fresh : Bool := false
  dep : Nat := 0
  arr : Nat := 0
  pins : Nat × Nat := (0, 0)
  delays : List Int := []
  samples : SMap (List (Nat × Nat)) := []
  overs : SMap Nat := []
  within : Nat := 0
  hand : Bool := false
  yielded : Bool := false
  resync : Bool := false
  taken : Bool := false
  seqs : SMap Nat := []
  relAt : Nat := 0
  raccAt : Nat := 0
  deriving DecidableEq, Repr

end Sys2Proof.Machine
end

