-- ==== Sys2Proof/Machine/State.lean ====
section
/-! DEFINITION. The state of the block: the queue of commands, the device, the Bench memory and the non-volatile vault,
with its value right after reset. -/

namespace Sys2Proof.Machine

/-- Why a command cannot be carried out. -/
inductive Fault where
  /-- A Bench access outside the 4 MB of the Bench (R7, chapter 22): an address the spec says does not exist. Safe. -/
  | benchAddress
  deriving DecidableEq, Repr

/-- Why the model does not answer. -/
inductive Refusal where
  /-- A command with no meaning yet, by its mnemonic. Safe. -/
  | notModelled (mnemonic : String)
  deriving DecidableEq, Repr

/-- What outlives PORST_N: the fuse bank (R486, R492, R494) and the tamper state of PD0 (R496, R110). -/
structure Vault where
  fuses : Fuses := Fuses.blank
  latch : Nat := 0
  tampRec : Word := 0
  tampTick : Word := 0
  active : Nat := 0
  deriving DecidableEq, Repr

/-- The device, all that PORST_N resets. (DESIGN CHOICE, log entry 11.) -/
structure Dev where
  regs : SMap Word := []
  snap : SMap Word := []
  held : SMap Word := []
  snapTurn : Nat := 0
  snapEx : SMap Nat := []
  tabs : SMap Word := []
  rdata : BitVec 64 := 0
  rbytes : List Byte := []
  out : List Out := []
  free : Nat := 0
  pins : Pins := {}
  boot : BootSt := {}
  pwr : PwrSt := {}
  mbox : SMap Mbox := []
  bells : List Nat := []
  time : TimeSt := {}
  keys : SMap KeySlot := []
  cache : List Nat := []
  la : SMap LaPage := []
  laLast : Nat := 15
  lcReset : Bool := false
  hst : HstSt := {}
  upd : UpdSt := {}
  dram : DramSt := {}
  once : List Nat := []
  marks : List Nat := []
  cpeBad : List Nat := []
  wipeAt : Option Nat := none
  intc : IntcSt := {}
  eps : SMap EpEnv := []
  ck : ChuckSt := {}
  lk : LookSt := {}
  can : SMap CanSt := []
  hbuf : SMap HoldBuf := []
  tts : SMap TtsCh := []
  turn : TurnSt := {}
  lin : SMap LinSt := []
  ser : SMap SerSt := []
  gwy : GwySt := {}
  mdio : List MdioCmd := []
  pair : PairSt := {}
  hif : HifSt := {}
  deriving DecidableEq, Repr

/-- The state: the waiting commands, first in first out, and the block. -/
structure State where
  pending : List Instr
  dev : Dev
  bench : SMap Byte
  vault : Vault
  deriving DecidableEq, Repr

/-- The device while PORST_N is low: every register at its Reset cell, nothing held (R17, R87). -/
def Dev.porst : Dev := {}

/-- Right after reset: PORST_N low, boot in stage POR, an empty queue. -/
def State.reset : State := { pending := [], dev := Dev.porst, bench := [], vault := {} }

end Sys2Proof.Machine
end

