-- ==== Sys2Proof/Machine/Ops.lean ====
section
/-! DEFINITION. The named operations over the register window, counters, events and tables. -/

namespace Sys2Proof.Machine

/-- Bits [hi:lo] of a value. -/
def bitsOf (v hi lo : Nat) : Nat := (v >>> lo) % 2 ^ (hi + 1 - lo)

/-- A value with its bits [hi:lo] replaced. -/
def withBits (v hi lo x : Nat) : Nat :=
  let w := hi + 1 - lo
  v - (bitsOf v hi lo) * 2 ^ lo + (x % 2 ^ w) * 2 ^ lo

/-- A value read as a two's complement number of `w` bits. -/
def sgn (w v : Nat) : Int := if v % 2 ^ w < 2 ^ (w - 1) then (v % 2 ^ w : Nat) else (v % 2 ^ w : Nat) - (2 ^ w : Nat)

/-- The two's complement bits of a number in `w` bits. -/
def unsgn (w : Nat) (i : Int) : Nat := (i % (2 ^ w : Nat)).toNat

/-- The smaller absolute value: an integer held between bounds. -/
def clampInt (lo hi i : Int) : Int := if i < lo then lo else if hi < i then hi else i

/-- A register's word. -/
def Dev.reg (s : Dev) (o : Nat) : Word := smGet regReset s.regs o

/-- A register's word as a number. -/
def Dev.rd (s : Dev) (o : Nat) : Nat := (s.reg o).toNat

/-- Store a register's word. -/
def Dev.setReg (o : Nat) (w : Word) (s : Dev) : Dev := { s with regs := smSet regReset s.regs o w }

/-- Store a register's word from a number, low 32 bits. -/
def Dev.wr (o v : Nat) (s : Dev) : Dev := s.setReg o (BitVec.ofNat 32 v)

/-- Bits [hi:lo] of a register. -/
def Dev.fld (s : Dev) (o hi lo : Nat) : Nat := bitsOf (s.rd o) hi lo

/-- Replace bits [hi:lo] of a register. -/
def Dev.setFld (o hi lo v : Nat) (s : Dev) : Dev := s.wr o (withBits (s.rd o) hi lo v)

/-- One bit of a register. -/
def Dev.bit (s : Dev) (o i : Nat) : Bool := (s.rd o).testBit i

/-- Set or clear one bit of a register. -/
def Dev.setBit (o i : Nat) (b : Bool) (s : Dev) : Dev := s.setFld o i i (if b then 1 else 0)

/-- A 64-bit quantity in two registers (R13). -/
def Dev.rd64 (s : Dev) (o : Nat) : Nat := s.rd o + 2 ^ 32 * s.rd (o + 4)

/-- Store a 64-bit quantity, modulo 2^64. -/
def Dev.wr64 (o v : Nat) (s : Dev) : Dev := (s.wr o v).wr (o + 4) (v / 2 ^ 32)

/-- The first page of the unit that an offset lies in (R60). -/
def unitBase (off : Nat) : Nat :=
  match blkOf off with
  | none => off
  | some (_, _, o) => off - o

/-- R62: an event sets its bit of EV_RAW. -/
def Dev.raise (page ev : Nat) (s : Dev) : Dev := s.wr (page + 0x14) (s.rd (page + 0x14) ||| 2 ^ ev)

/-- PG_CTRL.FREEZE of the unit: its counters stop (R60, R368). -/
def Dev.frozen (s : Dev) (page : Nat) : Bool := s.bit (page + 0x0C) 2

/-- R364: add to a 64-bit counter, wrapping. -/
def Dev.add64 (o n : Nat) (s : Dev) : Dev :=
  if s.frozen (unitBase o) then s else s.wr64 o (s.rd64 o + n)

/-- R365: add to a saturating counter; at all ones the SAT bit sets and COUNTER_SAT is raised once. -/
def Dev.incBy (c : Cnt) (n : Nat) (s : Dev) : Dev :=
  if n = 0 ∨ s.frozen c.page = true ∨ s.rd c.at_ = 0xFFFFFFFF then s
  else if s.rd c.at_ + n < 0xFFFFFFFF then s.wr c.at_ (s.rd c.at_ + n)
  else
    let s1 := s.wr c.at_ 0xFFFFFFFF
    if s1.bit c.sat c.bit then s1 else (s1.setBit c.sat c.bit true).raise c.page c.ev

/-- R365: count one. -/
def Dev.inc (c : Cnt) (s : Dev) : Dev := s.incBy c 1

/-- The key of a word of a table entry: table number, index and word. -/
def tabKey (t i w : Nat) : Nat := (t * 2 ^ 32 + i) * 64 + w

/-- A word of a table entry; entries never written read zero. (DESIGN CHOICE, log entry 10.) -/
def Dev.tab (s : Dev) (t i w : Nat) : Nat := (smGet (fun _ => (0 : Word)) s.tabs (tabKey t i w)).toNat

/-- Bits [hi:lo] of a word of a table entry. -/
def Dev.tfld (s : Dev) (t i w hi lo : Nat) : Nat := bitsOf (s.tab t i w) hi lo

/-- Write a word of a table entry. -/
def Dev.setTab (t i w v : Nat) (s : Dev) : Dev :=
  { s with tabs := smSet (fun _ => (0 : Word)) s.tabs (tabKey t i w) (BitVec.ofNat 32 v) }

/-- Replace bits [hi:lo] of a word of a table entry. -/
def Dev.setTfld (t i w hi lo v : Nat) (s : Dev) : Dev := s.setTab t i w (withBits (s.tab t i w) hi lo v)

/-- All `n` words of an entry. -/
def Dev.entry (s : Dev) (t i n : Nat) : List Nat := (List.range n).map fun w => s.tab t i w

/-- Write an entry's words from word 0 on. -/
def Dev.setEntry (t i : Nat) (ws : List Nat) (s : Dev) : Dev :=
  ws.zipIdx.foldl (fun s p => s.setTab t i p.2 p.1) s

/-- Append to the trace of what leaves the package. -/
def Dev.emit (o : Out) (s : Dev) : Dev := { s with out := s.out ++ [o] }

/-- Draw a free value (entropy or an undefined result). -/
def Dev.draw (s : Dev) : Word × Dev := (Config.freeWord s.free, { s with free := s.free + 1 })

/-- Apply a change when a condition holds. -/
def Dev.when (c : Bool) (f : Dev → Dev) (s : Dev) : Dev := if c then f s else s

/-- A command that changes only the device. -/
def onDev (f : Dev → Dev) (s : State) : Host.Outcome State Fault Refusal := .next { s with dev := f s.dev }

/-- A byte of the Bench; a byte nothing has written reads zero (R514; DESIGN CHOICE, log entry 6). -/
def benchByte (b : SMap Byte) (a : Nat) : Byte := smGet (fun _ => (0 : Byte)) b a

/-- `n` bytes of the Bench from an address. -/
def benchBytes (b : SMap Byte) (a n : Nat) : List Byte := (List.range n).map fun i => benchByte b (a + i)

/-- Write one byte of the Bench. -/
def benchSetByte (a : Nat) (v : Byte) (b : SMap Byte) : SMap Byte := smSet (fun _ => (0 : Byte)) b a v

/-- Write bytes to the Bench from an address. -/
def benchSet : Nat → List Byte → SMap Byte → SMap Byte
  | _, [], b => b
  | a, v :: vs, b => benchSet (a + 1) vs (benchSetByte a v b)

/-- The Bench's canonical form (R505): addresses strictly rising, no byte listed that reads zero. -/
abbrev Memory.wf (b : SMap Byte) : Bool := smWf (fun _ => (0 : Byte)) b

/-- Clear the Bench bytes from an address on (a bank wipe). -/
def benchWipe (lo hi : Nat) (b : SMap Byte) : SMap Byte := b.filter fun e => !(decide (lo ≤ e.1 ∧ e.1 < hi))

end Sys2Proof.Machine
end

