-- ==== Sys2Proof/Machine/PairBase.lean ====
section
/-! DEFINITION. What other blocks need of the pair block (chapter 24): the configuration set, the journal, and the return to
ALONE. -/

namespace Sys2Proof.Machine

/-- The pair record replaced. -/
def Dev.setPair (p : PairSt) (s : Dev) : Dev := { s with pair := p }

/-- PAIR_STAT.STATE (R555): 0 ALONE, 1 ACTIVE_MEMBER, 2 STANDBY, 3 DIVERGED, 4 RESYNC. -/
def Dev.pairState (s : Dev) : Nat := s.fld R.PAIR_STAT 31 28

/-- The member enters a state; ELIGIBLE follows it (R564). -/
def Dev.pairGoto (st : Nat) (s : Dev) : Dev :=
  (s.setFld R.PAIR_STAT 31 28 st).setBit R.PAIR_STAT 24 (st == 2 || (st == 3 && s.bit R.PAIR_CTRL 0))

/-- The member enters ALONE: its mailbox closes (R556) and what it kept of its partner is forgotten. (DEDUCED, log entry 23.) -/
def Dev.pairAlone (s : Dev) : Dev :=
  let p := s.pair
  (((s.setPair { once := p.once, seqs := p.seqs, pins := p.pins, taken := p.taken, relAt := p.relAt, raccAt := p.raccAt }).pairGoto 0).setBit R.PAIR_STAT 26 false).setBit
    (R.CMB_STAT 2) 1 false

/-- R567: the partner said that it sleeps, and its link falls or its BEATs stop. -/
def Dev.pairQuietEnd (s : Dev) : Dev := if s.pair.quiet = true ∧ s.pairState ≠ 0 then s.pairAlone else s

/-- R563: a register of the configuration set: a RW or RWL block register outside the pages and ranges that the rule leaves
out. The header registers and the table windows are not configuration (DEDUCED, log entry 60). -/
def isCfgReg (off : Nat) : Bool :=
  match blkOf off with
  | none => false
  | some (r, _, o) =>
    !(r.blk == .glb || r.blk == .cmb || r.blk == .boot || r.blk == .key || r.blk == .lcs || r.blk == .pair) &&
    !(r.blk == .time && decide (0x100 ≤ o ∧ o < 0x300)) &&
    match r.blk.row? o with
    | some row => row.rw != 0
    | none => false

/-- R564: the member is strapped to a pair and is not active. -/
def Dev.notActive (s : Dev) : Bool := s.bit R.BOOT_STRAP 2 && !s.bit R.PAIR_STAT 27

/-- R564: the requesters whose writes to the configuration set a member that is not active refuses. -/
def hostLike : Req → Bool
  | .hosta | .hostb | .debug => true
  | _ => false

/-- R560: the words that the journal of one turn holds at most, 512 KB. -/
def jrnlMax : Nat := 131072

/-- R559, R560: the active member records a change; the record that does not fit ends the journal. -/
def Dev.jrn (kind : Nat) (ws : List Nat) (s : Dev) : Dev :=
  if s.pairState ≠ 1 ∨ s.pair.ovf = true ∨ (5 ≤ kind ∧ kind < 0xF ∧ s.fld R.PAIR_CFG 31 30 ≠ 2) then s
  else
    let n := ws.length
    let p := s.pair
    if jrnlMax < p.words + n + 2 then
      ((s.setPair { p with jrnl := p.jrnl ++ [[0xF * 2 ^ 27]], words := p.words + 1, ovf := true }).inc C.PAIR_JRNL_OVF)
    else s.setPair { p with jrnl := p.jrnl ++ [(kind * 2 ^ 27 + n * 2 ^ 16) :: ws], words := p.words + n + 1 }

/-- A REG record of a register as it now stands. -/
def Dev.jrnReg (off : Nat) (s : Dev) : Dev := if isCfgReg off then s.jrn 1 [off % 2 ^ 24, s.rd off] else s

/-- A TABLE record. -/
def Dev.jrnTable (code inst sel idx : Nat) (ws : List Nat) (s : Dev) : Dev :=
  s.jrn 2 ((code * 2 ^ 20 + inst * 2 ^ 12 + sel) :: idx :: ws)

/-- A COMMIT record. -/
def Dev.jrnCommit (code inst ver : Nat) (s : Dev) : Dev := s.jrn 3 [code * 2 ^ 20 + inst * 2 ^ 12 + ver % 256]

/-- The words of a byte string, little endian, zero padded. -/
def bytesWords : List Byte → List Nat
  | a :: b :: c :: d :: bs => (a.toNat + b.toNat * 2 ^ 8 + c.toNat * 2 ^ 16 + d.toNat * 2 ^ 24) :: bytesWords bs
  | [] => []
  | [a] => [a.toNat]
  | [a, b] => [a.toNat + b.toNat * 2 ^ 8]
  | [a, b, c] => [a.toNat + b.toNat * 2 ^ 8 + c.toNat * 2 ^ 16]

/-- A TAG record of a completion that mailbox m remembers (R82). -/
def Dev.jrnTag (m : Nat) (t : TagRec) (s : Dev) : Dev :=
  if 3 ≤ m then s
  else s.jrn 4 ((m * 2 ^ 30 + t.tag % 65536) :: (t.tag * 2 ^ 16 + t.cpl) ::
    (bytesWords t.digest ++ (List.range 16).map fun k => ((t.res[k]?).getD 0).toNat))

/-- Record what changed in a MAC entry since it read `old`: the entry, or its AGE alone. -/
def Dev.jrnMac (t i : Nat) (old : List Nat) (s : Dev) : Dev :=
  let new := s.entry t i 4
  if new = old then s
  else if new.tail = old.tail ∧ new.headD 0 / 65536 = old.headD 0 / 65536 then s.jrn 7 [0, i, new.headD 0 % 65536]
  else s.jrn 5 (i :: new)

/-- A write to a register by a requester under R564, recorded under R559. -/
def Dev.cfgWrite (r : Req) (off : Nat) (f : Dev → Dev) (s : Dev) : Dev :=
  if isCfgReg off then
    (if hostLike r = true ∧ s.notActive = true then s.inc C.PAIR_CFG_WR_REFUSED else (f s).jrnReg off)
  else f s

end Sys2Proof.Machine
end

