-- ==== Sys2Proof/Machine/Access.lean ====
section
/-! DEFINITION. How an access reaches a register: which paths answer (R12, R113, R114, R610), ownership (R63 to R66),
the header of R60, events (R62), plain stores under the access types (R16) and the saturation bits (R366). -/

namespace Sys2Proof.Machine

/-- BOOT_STAT.STAGE (R111). -/
def Dev.stage (s : Dev) : Nat := s.fld R.BOOT_STAT 3 0

/-- Stages HELD, TAMPER_HOLD and HALT: failure release (R114). -/
def Dev.failed (s : Dev) : Bool := s.stage == 0xB || s.stage == 0xE || s.stage == 0xF

/-- The life-cycle state that the FUSE stage loaded (R492). -/
def Dev.lc (s : Dev) : Nat := s.fld R.LCS_STATE 3 0

/-- R610: the life-cycle states that allow JTAG debug accesses. -/
def lcDebug (lc : Nat) : Bool := lc == 0 || lc == 1 || lc == 2 || lc == 4

/-- The register fabric is powered and out of reset. -/
def Dev.fabricOn (s : Dev) : Bool := s.pins.porst && s.pwr.phase != .sleep

/-- Whether an access by a requester reaches an offset: hosts after host release, or GLB and BOOT pages in failure
release (R113, R114); HST while its cores run (R501), or the
boot ROM in its place before host release (R100, R533); DEBUG in the states of R610; DMA and CPE make no register accesses. (DEDUCED, log entry 12.) -/
def Dev.reach (s : Dev) (r : Req) (off : Nat) : Bool :=
  s.fabricOn &&
  match r with
  | .hst => s.fld R.HST_STAT 31 28 == 0 || (s.fld R.HST_STAT 31 28 == 3 && !s.pwr.hostRel)
  | .pair => true
  | .hosta | .hostb =>
    if s.failed then decide (off < 0x1000 ∨ (0x8000 ≤ off ∧ off < 0xA000))
    else s.pwr.hostRel
  | .debug => lcDebug s.lc
  | .cpe | .dma => false

/-- PG_OWNER.OWNER of the unit that an offset lies in. -/
def Dev.ownerOf (s : Dev) (off : Nat) : Nat := s.fld (unitBase off + 0x24) 3 0

/-- R63: who may write the block registers of a unit. -/
def Dev.mayWrite (s : Dev) (r : Req) (off : Nat) : Bool :=
  s.ownerOf off == 0xF || s.ownerOf off == r.id || r == .hst

/-- R63: a refused write sets OWN_VIOL of the unit addressed and counts GLB_OWN_VIOL; at an offset without a register it has no
effect (R14). -/
def Dev.viol (off : Nat) (s : Dev) : Dev := if assigned off = false then s else (s.setBit (unitBase off + 0x10) 4 true).inc C.GLB_OWN_VIOL

/-- The blocks whose domain is off or only retained in REST (R46). -/
def Blk.offInRest : Blk → Bool
  | .pars | .rule | .flow | .fwd | .hst | .bench | .dram => true
  | _ => false

/-- PG_STAT.READY of the unit that an offset lies in (R60, R46, R571). (DEDUCED, log entry 13.) -/
def Dev.ready (s : Dev) (off : Nat) : Bool :=
  match blkOf off with
  | none => false
  | some (r, _, _) => !(s.pwr.phase == .rest && (r.blk.offInRest || (r.blk == .pair && !s.bit (R.ETH_CTRL 3) 1)))

/-- A write to a block register: it must reach the page, pass R63, and find READY set (R61). -/
def Dev.guarded (r : Req) (off : Nat) (f : Dev → Dev) (s : Dev) : Dev :=
  if s.reach r off = false then s
  else if s.mayWrite r off = false then s.viol off
  else if s.ready off = false then s
  else s.cfgWrite r off f

/-- A write that only HST may make, whatever the owner; any other counts (R56, R417, R474). -/
def Dev.hstOnly (r : Req) (off : Nat) (f : Dev → Dev) (s : Dev) : Dev :=
  if s.reach r off = false then s
  else if r = .hst then (if s.ready off then s.cfgWrite r off f else s)
  else s.viol off

/-- The header register that an offset names (R60): the unit's base, the header offset, whether on the first page. -/
def hdrOf (off : Nat) : Option (Nat × Nat × Bool) :=
  match blkOf off with
  | none => none
  | some (r, _, o) =>
    if o % 0x1000 < 0x40 ∧ headerless r.blk o = false then some (off - o, o % 0x1000, decide (o < 0x1000)) else none

/-- PG_IDENT and PG_SPAN of a page (R60). -/
def pgIdent (off : Nat) : Nat :=
  match blkOf off with
  | none => 0
  | some (r, i, o) => r.code * 2 ^ 20 + (r.inst0 + i) * 2 ^ 12 + (o / 0x1000) * 2 ^ 8 + 0x10

/-- PG_SPAN: instances (17 for the cipher engine) and pages of one instance. -/
def pgSpan (off : Nat) : Nat :=
  match blkOf off with
  | none => 0
  | some (r, _, _) => (if r.code = 0x60 then 17 else r.inst) * 2 ^ 8 + r.pages

/-- The turn whose edge latched a unit's snapshots: the newest, or the one that a HOLD has kept. -/
def Dev.snapTurnOf (s : Dev) (page : Nat) : Nat :=
  smGet (fun _ => s.snapTurn) s.snapEx page

/-- R141: PG_FEAT of an ETH page, by the kind of its port. -/
def ethFeat (n : Nat) : Nat := if n < 4 then 0x007 else if n < 12 then 0x12F else if n < 28 then 0x23F else 0x320

/-- Registers of a block whose bit 31 is the BUSY bit of an operation, by offset in the unit. -/
def Blk.busyAt : Blk → List Nat
  | .gwy | .tts | .pars | .rule | .mir | .cpe | .key => [0x88]
  | .flow => [0x88, 0x100]
  | .fwd => [0x88, 0x108]
  | .tsn => [0x108, 0x188]
  | .time => [0x3108]
  | .eth => [0x74]
  | .la => [0x84]
  | .bench => [0x404, 0x424, 0x444, 0x464, 0x484]
  | .pair => [0xC8]
  | _ => []

/-- PG_STAT.BUSY of a unit: one of its registers shows an operation in progress. (DESIGN CHOICE, log entry 113.) -/
def Dev.unitBusy (s : Dev) (base : Nat) : Bool :=
  match blkOf base with
  | none => false
  | some (r, _, _) => (r.blk.busyAt.any fun o => s.bit (base + o) 31) || (r.blk == .cmb && s.bit (base + 0x108) 0)

/-- A read of a header register (R60, R62, R141). -/
def Dev.readHdr (s : Dev) (off base ho : Nat) (first : Bool) : Nat :=
  if ho = 0x00 then pgIdent off
  else if ho = 0x04 then pgSpan off
  else if ho = 0x08 ∧ 0x20000 ≤ base ∧ base < 0x40000 then ethFeat (base / 0x1000 - 0x20)
  else if ho = 0x10 then
    (if s.ready base then 1 else 0) + (if s.unitBusy base then 2 else 0) + (if s.frozen base then 8 else 0) + (if s.bit (base + 0x10) 4 then 16 else 0)
  else if ho = 0x14 then (if first then s.rd (base + 0x14) else 0)
  else if ho = 0x18 then (if first then s.rd (base + 0x14) &&& s.rd (base + 0x1C) else 0)
  else if ho = 0x20 then 0
  else if ho = 0x30 then s.snapTurnOf base % 2 ^ 32
  else if ho = 0x34 then s.snapTurnOf base / 2 ^ 32
  else if ho = 0x38 then s.rd off
  else s.rd (base + ho)

/-- R62: the page holds its INTC source while an enabled event is raised. -/
def Dev.evPend (s : Dev) (page : Nat) : Bool := (s.rd (page + 0x14) &&& s.rd (page + 0x1C)) != 0

/-- R366: a write of 1 to a SAT bit clears it and zeroes its counter. -/
def Dev.satClear (off v : Nat) (s : Dev) : Dev :=
  match blkOf off with
  | none => s
  | some (r, _, o) =>
    let base := off - o
    forL (r.blk.sats.filter fun x => decide (x.1 = o))
      (fun x s => forN x.2.2.1 (fun k s =>
        if v.testBit (x.2.1 + k) then
          (s.setBit off (x.2.1 + k) false).wr (base + x.2.2.2.1 + k * x.2.2.2.2) 0 else s) s) s

/-- The registers whose W1C bits are SAT bits of counters. -/
def isSatReg (off : Nat) : Bool :=
  match blkOf off with
  | none => false
  | some (r, _, o) => r.blk.sats.any fun x => decide (x.1 = o)

/-- A plain store under R16: RW bits take the value, RWL bits unless LOCK is set, W1C bits clear where 1 is written. -/
def Dev.plainWrite (off v : Nat) (s : Dev) : Dev :=
  match blkOf off with
  | none => s
  | some (r, i, o) =>
    match if r.blk.absent i o then none else r.blk.row? o with
    | none => s
    | some row =>
      let w := BitVec.ofNat 32 v
      let m := BitVec.ofNat 32 (if row.lock = true ∧ s.bit (off - o + 0x28) 0 = true then 0 else row.rw &&& r.blk.hasBits o)
      let c := BitVec.ofNat 32 row.w1c
      s.setReg off (((s.reg off &&& ~~~m) ||| (w &&& m)) &&& ~~~(w &&& c))

/-- R62: a write to EV_FORCE. EV_EN, EV_FORCE and EV_RAW take all 32 bits, those of no event too. (DESIGN CHOICE, log entry 113.) -/
def Dev.evForce (off v : Nat) (s : Dev) : Dev :=
  match hdrOf off with
  | some (base, 0x20, true) => s.wr (base + 0x14) (s.rd (base + 0x14) ||| (v % 2 ^ 32))
  | _ => s

/-- R25: an owner value from 7 to 15 reads back as 0xF. -/
def ownVal (v : Nat) : Nat := if v % 16 < 7 then v % 16 else 0xF

/-- R64, R66: a write to PG_OWNER. -/
def Dev.pgOwnerWrite (r : Req) (off v : Nat) (s : Dev) : Dev :=
  match hdrOf off with
  | some (base, 0x24, true) =>
    let o := s.ownerOf off
    if r = .hst ∨ (o = 0xF ∧ v % 16 = r.id) ∨ (o = r.id ∧ v % 16 = 0xF) then
      if s.bit (base + 0x28) 1 then s else s.setFld (base + 0x24) 3 0 (ownVal v)
    else s.viol off
  | _ => s

/-- R66: a write to PG_LOCK by the owner or HST sets bits; any other has no effect. -/
def Dev.pgLockWrite (r : Req) (off v : Nat) (s : Dev) : Dev :=
  match hdrOf off with
  | some (base, 0x28, true) =>
    if r = .hst ∨ s.ownerOf off = r.id then s.wr (base + 0x28) (s.rd (base + 0x28) ||| (v % 4)) else s
  | _ => s

/-- A write to a header register other than EV_FORCE, PG_OWNER, PG_LOCK and the SOFT_RST bit (R60 to R63). -/
def Dev.hdrWrite (r : Req) (off v : Nat) (s : Dev) : Dev :=
  match hdrOf off with
  | none => s
  | some (base, ho, first) =>
    if ho = 0x38 then (if s.mayWrite r off then s.wr off v else s.viol off)
    else if first = false then s
    else if ho = 0x0C then (s.setBit (base + 0x0C) 2 (v.testBit 2)).setBit (base + 0x0C) 0 (v.testBit 0)
    else if ho = 0x10 then (if v.testBit 4 then s.setBit (base + 0x10) 4 false else s)
    else if ho = 0x14 then s.setReg (base + 0x14) (s.reg (base + 0x14) &&& ~~~BitVec.ofNat 32 v)
    else if ho = 0x1C then s.wr (base + 0x1C) v
    else if ho = 0x2C then
      let s := if v.testBit 0 then
        { s.setFld (base + 0x2C) 15 8 0 with snapEx := smPut base (s.snapTurnOf base) s.snapEx } else s
      s.setBit (base + 0x2C) 0 (v.testBit 0)
    else s

/-- Set a safety condition's bit in INTC_SAFE_RAW (R439). -/
def Dev.safety (bit : Nat) (s : Dev) : Dev := s.setBit R.INTC_SAFE_RAW bit true

/-- A read leaves its value in `rdata`. -/
def Dev.answer (v : Nat) (s : Dev) : Dev := { s with rdata := BitVec.ofNat 64 v }

/-- A snapshot register's word, by its live offset. -/
def Dev.snapWord (s : Dev) (live : Nat) : Nat := (smGet (fun _ => (0 : Word)) s.snap live).toNat

end Sys2Proof.Machine
end

