-- ==== Sys2Proof/Machine/Clock.lean ====
section
/-! DEFINITION. The free-running counter, the time domains and stamps (R369 to R379, R387), as every block uses them. -/

namespace Sys2Proof.Machine

/-- One time-clock cycle in FRC units, 2.5 ns (R369). -/
def cycleU : Nat := 0x28000

/-- A domain. -/
def Dev.dom (s : Dev) (k : Nat) : TDom := smGet (fun _ => ({} : TDom)) s.time.doms k

/-- Store a domain. -/
def Dev.setDom (k : Nat) (d : TDom) (s : Dev) : Dev :=
  { s with time := { s.time with doms := smSet (fun _ => ({} : TDom)) s.time.doms k d } }

/-- The domain is enabled (R375). -/
def Dev.domOn (s : Dev) (k : Nat) : Bool := s.bit (R.TD_CTRL k) 31

/-- SLEW of a domain in units of RATE (R371). -/
def Dev.slew (s : Dev) (k : Nat) : Int :=
  let m := min 1000 (max 1 (s.fld (R.TD_CTRL k) 9 0))
  let v : Int := ((m * 2 ^ 48 + 500000) / 1000000 : Nat)
  if 0 < (s.dom k).rem then v else if (s.dom k).rem < 0 then -v else 0

/-- The advance of a domain per FRC unit, in 2^-64 ns (R371). -/
def Dev.slope (s : Dev) (k : Nat) : Int := if s.domOn k then 2 ^ 48 + (s.dom k).rate + s.slew k else 0

/-- Remember the slope in force up to now, before a change (R379). -/
def Dev.mark (k : Nat) (s : Dev) : Dev :=
  let d := s.dom k
  s.setDom k { d with past := (s.time.frc, d.t, s.slope k) :: d.past }

/-- A domain's range: seconds are 64 bits (R371). -/
def domMod : Nat := 2 ^ 64 * 10 ^ 9 * 2 ^ 64

/-- Add to a domain time, wrapping. -/
def domAdd (t : Nat) (d : Int) : Nat := (((t : Int) + d) % (domMod : Int)).toNat

/-- The SLEWING bit and TD_ADJ_REM follow the remainder (R374). -/
def Dev.showRem (k : Nat) (s : Dev) : Dev :=
  let r := (s.dom k).rem
  (s.wr (R.TD_ADJ_REM k) (unsgn 32 (r / 2 ^ 64))).setBit (R.TD_STAT k) 1 (r != 0)

/-- R371, R374: one cycle of a domain. -/
def Dev.domTick (k : Nat) (s : Dev) : Dev :=
  let d := s.dom k
  if s.domOn k = false then s
  else
    let base : Int := cycleU * (2 ^ 48 + d.rate)
    let part : Int := cycleU * s.slew k
    if d.rem = 0 then s.setDom k { d with t := domAdd d.t base }
    else if (d.rem.natAbs : Int) ≤ part.natAbs then
      let s := s.mark k
      let d := s.dom k
      ((s.setDom k { d with t := domAdd d.t (base + d.rem), rem := 0 }).showRem k).raise 0x10000 2
    else (s.setDom k { d with t := domAdd d.t (base + part), rem := d.rem - part }).showRem k

/-- R369: one time-clock cycle. -/
def Dev.timeTick (s : Dev) : Dev :=
  let s := forN 8 Dev.domTick s
  { s with time := { s.time with frc := (s.time.frc + cycleU) % 2 ^ 96 } }

/-- Turn period in ns (R47). -/
def Dev.turnNs (s : Dev) : Nat := s.turn.k * 31250

/-- R51: half a period of the settings in force, in FRC units. -/
def Dev.halfTurn (s : Dev) : Nat := s.turnNs * 2 ^ 15

/-- R48, R53: the source of the turn in the present FRC cycle: its value, its value a cycle on, and the units of one nanosecond. -/
def Dev.turnSpan (s : Dev) : Nat × Nat × Nat :=
  if s.domOn 0 then ((s.dom 0).t, ((s.domTick 0).dom 0).t, 2 ^ 64) else (s.time.frc, s.time.frc + cycleU, 2 ^ 16)

/-- R48: the turn index of the first aligned instant, PHASE + index × PERIOD in whole nanoseconds, that is not before this cycle. -/
def Dev.turnAim (s : Dev) : Nat :=
  let (a, _, u) := s.turnSpan
  ((a + (u - 1)) / u + (s.turnNs - 1 - s.turn.phase)) / s.turnNs

/-- An interval of `ns` nanoseconds has passed since an FRC instant. -/
def Dev.passed (s : Dev) (frc ns : Nat) : Bool := decide (ns * 2 ^ 16 ≤ (s.time.frc + 2 ^ 96 - frc % 2 ^ 96) % 2 ^ 96)

/-- R379: a domain's time, in 2^-64 ns, at an FRC instant. -/
def Dev.domAt (s : Dev) (k f : Nat) : Nat :=
  let d := s.dom k
  let now := s.time.frc
  if now ≤ f then domAdd d.t ((f - now : Nat) * s.slope k)
  else
    match d.past.reverse.find? fun p => decide (f < p.1) with
    | some p => domAdd p.2.1 (-((p.1 - f : Nat) * p.2.2))
    | none => domAdd d.t (-((now - f : Nat) * s.slope k))

/-- Whole nanoseconds of a domain time. -/
def domNs (t : Nat) : Nat := t / 2 ^ 64

/-- A domain's nanoseconds now. -/
def Dev.domNow (s : Dev) (k : Nat) : Nat := domNs (s.dom k).t

/-- The four words of a domain time (R378): nanoseconds, seconds, fraction. -/
def domWords (t : Nat) : List Nat :=
  let ns := domNs t
  [ns % 10 ^ 9, ns / 10 ^ 9 % 2 ^ 32, ns / 10 ^ 9 / 2 ^ 32 % 2 ^ 32, t / 2 ^ 48 % 65536]

/-- FRC integer nanoseconds now. -/
def Dev.frcNow (s : Dev) : Nat := s.time.frc / 2 ^ 16

/-- R370: the stamp of an instant `sub` FRC units into the present cycle, with bits [11:0] zero. -/
def Dev.stampAt (s : Dev) (sub : Nat) : Nat :=
  let f := s.time.frc + min sub (cycleU - 1)
  f - f % 4096

/-- Fields of the FRC in raw stamps and mirror headers (R357, R378): FRC [79:16]. -/
def frcNs (t : Nat) : Nat := t / 2 ^ 16 % 2 ^ 64
/-- FRC [15:12]. -/
def frcFrac (t : Nat) : Nat := t / 2 ^ 12 % 16

/-- The three words of a raw stamp (R378). -/
def rawWords (t : Nat) : List Nat := [frcNs t % 2 ^ 32, frcNs t / 2 ^ 32, frcFrac t]

/-- R387: an entry for the stamp FIFO; one that finds it full is lost. TSF_READY is a level (R387, R62). -/
def Dev.tsfPush (dropped : Bool) (port tag stamp : Nat) (s : Dev) : Dev :=
  if 256 ≤ s.time.tsf.length then s.inc C.TIME_TSF_OVF
  else
    let w0 := 2 ^ 31 + (if dropped then 2 ^ 30 else 0) + port % 64 * 2 ^ 24 + tag % 65536
    let ws := w0 :: (if dropped then [0, 0, 0] else rawWords stamp)
    let s := { s with time := { s.time with tsf := s.time.tsf ++ [ws] } }
    (s.wr R.TSF_STAT s.time.tsf.length).raise 0x10000 3

end Sys2Proof.Machine
end

