-- ==== Sys2Proof/Machine/Boot.lean ====
section
/-! DEFINITION. From power to the loaded image (chapter 04): PORST_N, straps, the stages up to VERIFY, header checks,
slot choice, fallback and the failure stages. -/

namespace Sys2Proof.Machine

/-- Enter a stage (R111). -/
def Dev.setStage (n : Nat) (s : Dev) : Dev := s.setFld R.BOOT_STAT 3 0 n

/-- Boot ends in HELD, TAMPER_HOLD or HALT with a code (R111, R114); FAILED is set in the last two. -/
def Dev.bootStop (stage code : Nat) (s : Dev) : Dev :=
  ((s.setFld R.BOOT_STAT 31 24 code).setBit R.BOOT_STAT 14 (stage != 0xB)).setStage stage

/-- A byte string in 32-bit little-endian words (R10). -/
def wordsBytes (ws : List Word) : List Byte := ws.flatMap fun w => leBytes 4 w.toNat

/-- The word at an index, zero past the end. -/
def wordAt (ws : List Word) (k : Nat) : Nat := ((ws[k]?).getD 0).toNat

/-- The bytes from a byte offset that is a multiple of 4. -/
def wordSlice (ws : List Word) (off len : Nat) : List Byte := (wordsBytes ((ws.drop (off / 4)).take (len / 4))).take len

/-- PORST_N falls (R87, R88): everything at its Reset cell but the false-wake registers of PD0; SAFE_N and RESET_OUT_N
low, INH at the enable level. The trace, the free-value counter and the levels of input pins are the model's own. -/
def Dev.assertPorst (s : Dev) : Dev :=
  let p : Pins :=
    { vehMoving := s.pins.vehMoving, win := s.pins.win, perstA := s.pins.perstA, perstB := s.pins.perstB,
      porstIn := s.pins.porstIn, tap := s.pins.tap }
  let d : Dev := { out := s.out, free := s.free, pins := p }
  ((d.wr R.PWR_FW_RUN (s.rd R.PWR_FW_RUN)).wr R.PWR_FW_BLOCK0 (s.rd R.PWR_FW_BLOCK0)).wr
    R.PWR_FW_BLOCK1 (s.rd R.PWR_FW_BLOCK1)

/-- R87, R593: the state of a group of pins while PORST_N is low. -/
def PinGroup.reset : PinGroup → Drive
  | .mdiM | .mdiG => .quiet
  | .mdiT | .tdo => .hiz
  | .sx | .pcie => .idle
  | .wakeN | .irqN => .released
  | .can => .standby
  | .lin => .recessive
  | .rs485 => .receiver
  | .inh => .high
  | .xspiClk | .xspiRst | .mdc | .resetOut | .safeN | .failover => .low
  | .xspiCs => .high
  | .xspiDq | .tout | .gpio => .pullDown
  | .mdio => .pullUp
  | .strapGpio => .input

/-- R593: the state of a group of pins in SLEEP, where its bank is on. -/
def PinGroup.asleep : PinGroup → Drive
  | .mdiM | .mdiT | .sx | .pcie => .unpowered
  | .mdiG => .quiet
  | .wakeN | .irqN => .released
  | .can => .standby
  | .lin | .rs485 => .receiver
  | .inh | .failover => .active
  | .xspiClk | .xspiCs | .xspiDq | .xspiRst | .mdc | .mdio | .tdo | .tout | .strapGpio | .gpio => .hiz
  | .resetOut => .low
  | .safeN => .high

/-- R87, R92, R593: how a group of pins is driven now. -/
def Dev.pinDrive (s : Dev) (g : PinGroup) : Drive :=
  if s.pins.porst = false then g.reset
  else if s.pwr.phase = .sleep then g.asleep
  else
    match g with
    | .xspiClk | .xspiCs | .xspiDq | .xspiRst => if s.pins.xspiHiz then .hiz else .active
    | _ => .active

/-- PORST_ASSERT (R88). -/
def execPorstAssert (s : State) : Host.Outcome State Fault Refusal :=
  onDev (fun s => { s.assertPorst with pins := { s.assertPorst.pins with porstIn := false } }) s

/-- The first byte of a Bench bank (R505). -/
def bankBase (b : Nat) : Nat := b * 0x10000

/-- R109: boot stops in TAMPER_HOLD; banks 60 to 63, the key cache and the filled slots are wiped. -/
def State.tamperHold (s : State) : State :=
  { s with
    dev := { (((s.dev.bootStop 0xE 0x10).safety 2).setBit R.KEY_STAT 1 true).raise 0x108000 3 with keys := [], cache := [] }
    bench := benchWipe (bankBase 60) (bankBase 64) s.bench }

/-- The tamper state of PD0 shown by the LCS registers (R496). -/
def Dev.showTamper (v : Vault) (s : Dev) : Dev :=
  ((s.wr R.LCS_TAMP_STAT (v.latch * 2 ^ 16 + v.active)).setReg R.LCS_TAMP_REC v.tampRec).setReg R.LCS_TAMP_TICK
    v.tampTick

/-- R610: the instructions during which the block acts as if PORST_N were low. -/
def tapHolds : TapInst → Bool
  | .extest | .extestPulse | .extestTrain | .clamp => true
  | .bypass | .idcode | .sample | .debug => false

/-- R91, R551, R45, R109: reset ends; the straps are sampled and boot starts in POR; a latched or active tamper leads to
TAMPER_HOLD. -/
def State.startBoot (st : Straps) (s : State) : State :=
  let d := { s.dev with pins := { s.dev.pins with porst := true } }
  let d := (d.wr R.BOOT_STRAP (st.sel % 4 + if st.pairEn then 4 else 0)).setBit R.PAIR_STAT 22 st.rank
  let d := if st.clk32k then d else (d.setBit R.PWR_STAT 8 true).raise 0xA000 6
  let t : State := { s with dev := d.showTamper s.vault }
  if s.vault.latch ≠ 0 ∨ s.vault.active ≠ 0 then t.tamperHold else t

/-- PORST_RELEASE (R91): PORST_N rises. -/
def execPorstRelease (st : Straps) (s : State) : Host.Outcome State Fault Refusal :=
  let t : State := { s with dev := { s.dev with pins := { s.dev.pins with porstIn := true } } }
  if s.dev.pins.porst = true ∨ tapHolds s.dev.pins.tap = true then .next t else .next (t.startBoot st)

/-- The current TAP instruction that loading `i` gives in a life-cycle state (R610). (PRESUMED, log entry 87.) -/
def tapGives (lc : Nat) (i : TapInst) : TapInst :=
  if lc = 0 ∨ lc = 1 then i
  else
    match i with
    | .bypass => .bypass
    | .idcode => .idcode
    | .sample => if lc = 2 ∨ lc = 4 then .sample else .bypass
    | .debug => if lc = 2 ∨ lc = 4 then .debug else .bypass
    | .extest | .extestPulse | .extestTrain | .clamp => .bypass

/-- JTAG_INSTRUCTION (R610): a TAP instruction is loaded. Entering one of the EXTEST class acts as PORST_N low; leaving it restarts
boot with the straps sampled again, when PORST_N itself is high. -/
def execJtagInstruction (i : TapInst) (st : Straps) (s : State) : Host.Outcome State Fault Refusal :=
  let n := tapGives s.vault.fuses.lc i
  let t : State := { s with dev := { s.dev with pins := { s.dev.pins with tap := n } } }
  if tapHolds n = true then .next { t with dev := t.dev.assertPorst }
  else if tapHolds s.dev.pins.tap = true ∧ s.dev.pins.porstIn = true then .next (t.startBoot st)
  else .next t

/-- PLL_LOCK (R111, R369): in POR with PORST_N high the FRC starts at zero and boot enters FUSE. (DEDUCED, log entry 91.) -/
def execPllLock (s : State) : Host.Outcome State Fault Refusal :=
  onDev (fun d => if d.pins.porst ∧ d.stage = 0 then
    { d.setStage 1 with time := { d.time with frc := 0, run := true } } else d) s

/-- The registers that show fuses (R72, R492, R494, R587), and CMB[3]'s OPEN: the debug path has no handshake (R75).
(DESIGN CHOICE, log entry 95.) (DEDUCED, log entry 12.) -/
def Dev.showFuses (f : Fuses) (s : Dev) : Dev :=
  let s := ((s.wr R.GLB_SIREV (f.sirev % 256)).setReg R.GLB_UID_LO f.uidLo).setReg R.GLB_UID_HI f.uidHi
  let s := (s.wr (R.DEV_FEAT 0) (f.devFeat % 2 ^ 16)).wr R.BOOT_FLOOR (f.floor % 128)
  let s := s.wr R.LCS_STATE (f.lc % 16 + if lcDebug f.lc then 0x100 else 0)
  let s := s.setBit (R.CMB_STAT 3) 1 (lcDebug f.lc)
  let s := s.wr R.LCS_OWNER ((if f.prog0 then 1 else 0) + (if f.prog1 then 2 else 0) + (if f.rev0 then 0x10 else 0) +
    (if f.rev1 then 0x20 else 0))
  let s := s.wr R.LCS_TAMP_CFG (f.tampCfg % 64)
  let s := forL (f.kh0.zipIdx.take 8) (fun p s => s.setReg (R.LCS_OWNER_KH0 p.2) p.1) s
  let s := forL (f.kh1.zipIdx.take 8) (fun p s => s.setReg (R.LCS_OWNER_KH1 p.2) p.1) s
  forL f.pgFeat (fun p s => s.wr (unitBase p.1 + 0x8) p.2) s

/-- FUSE_STAGE_DONE (R111, R89, R103): the fuses are loaded, or a word is uncorrectable. `prog` is what the factory
programs into a bank that is still BLANK (DESIGN CHOICE, log entry 5). The stage ends on BLANK and SCRAPPED, so RESET_OUT_N goes
high there, and not on FUSE_ERR (DESIGN CHOICE, log entry 114). -/
def execFuseStageDone (ok : Bool) (prog : Option Fuses) (s : State) : Host.Outcome State Fault Refusal :=
  if s.dev.pins.porst = false ∨ s.dev.stage ≠ 1 then .next s
  else if ok = false then .next { s with dev := s.dev.bootStop 0xF 0x0F }
  else
    let f := match prog with
      | some f => if s.vault.fuses.lc = 0 then f else s.vault.fuses
      | none => s.vault.fuses
    let d := s.dev.showFuses f
    let d := { d with pins := { d.pins with resetOut := true } }
    let d := if f.lc = 0 then d.bootStop 0xF 0x11 else if f.lc = 5 then d.bootStop 0xF 0x12 else d.setStage 2
    .next { s with dev := d, vault := { s.vault with fuses := f } }

/-- R111, R114: whether a boot stage is the current one and PORST_N is high. -/
def Dev.atStage (s : Dev) (n : Nat) : Bool := s.pins.porst && s.stage == n

/-- A reserved field of the header that must be zero (R95): word, high bit, low bit. -/
def hdrReserved : List (Nat × Nat × Nat) :=
  [(1, 23, 16), (3, 31, 16), (5, 15, 7), (8, 31, 16), (12, 31, 4)] ++ (List.range 15).map fun k => (17 + k, 31, 0)

/-- One directory entry (R96). -/
structure DirEnt where
  type : Nat
  inst : Nat
  off : Nat
  len : Nat
  opt : Bool
  deriving DecidableEq, Repr

/-- The directory of an image or of the header words read in HEADER (R96). -/
def dirOf (ws : List Word) : List DirEnt :=
  (List.range (bitsOf (wordAt ws 8) 15 0)).map fun k =>
    let b := 32 + 4 * k
    { type := bitsOf (wordAt ws b) 31 16, inst := bitsOf (wordAt ws b) 15 0, off := wordAt ws (b + 1),
      len := wordAt ws (b + 2), opt := (wordAt ws (b + 3)).testBit 0 }

/-- No two ranges of a list overlap. -/
def noOverlap : List DirEnt → Bool
  | [] => true
  | e :: es => es.all (fun f => decide (e.len = 0 ∨ f.len = 0 ∨ e.off + e.len ≤ f.off ∨ f.off + f.len ≤ e.off)) &&
      noOverlap es

/-- The layout constraints of R96, with those of R95 and R94 on offsets and lengths. -/
def layoutOk (ws : List Word) : Bool :=
  let n := bitsOf (wordAt ws 8) 15 0
  let pk := wordAt ws 10
  let es := dirOf ws
  decide (1 ≤ n ∧ n ≤ 1024 ∧ wordAt ws 9 = 0x80 ∧ pk % 4 = 0 ∧ 0x80 + 16 * n ≤ pk ∧ wordAt ws 11 = pk + 1312 ∧
    wordAt ws 4 = wordAt ws 11 + 2420 ∧ wordAt ws 4 ≤ 25165824) &&
  es.all (fun e => decide (e.off % 4 = 0 ∧ e.len % 4 = 0 ∧ 0x80 + 16 * n ≤ e.off ∧ e.off + e.len ≤ pk)) && noOverlap es

/-- The features on offer: DEV_FEAT, or PAIR_FEAT while the member is paired (R555, R74, R581). -/
def Dev.offered (s : Dev) (k : Nat) : Nat :=
  if s.fld R.PAIR_STAT 31 28 = 0 then s.rd (R.DEV_FEAT k) else s.rd (R.PAIR_FEAT k)

/-- R104: the code of the first header check that fails, 0 when all pass. -/
def hdrCode (d : Dev) (h : Option (List Word)) : Nat :=
  match h with
  | none => 0x02
  | some ws =>
    let lc := d.lc
    if wordAt ws 0 ≠ 0x314E514D then 0x02
    else if bitsOf (wordAt ws 1) 31 24 ≠ 0x20 ∨ bitsOf (wordAt ws 1) 15 8 ≠ 1 then 0x03
    else if hdrReserved.any (fun r => bitsOf (wordAt ws r.1) r.2.1 r.2.2 != 0) then 0x03
    else if wordAt ws 2 ≠ d.rd R.GLB_PART then 0x04
    else if d.rd R.GLB_SIREV % 256 < bitsOf (wordAt ws 3) 7 0 ∨ bitsOf (wordAt ws 3) 15 8 < d.rd R.GLB_SIREV % 256 then 0x05
    else if lc = 0 ∨ 4 < lc ∨ (wordAt ws 12).testBit (lc - 1) = false then 0x06
    else if bitsOf (wordAt ws 5) 6 0 < d.rd R.BOOT_FLOOR then 0x07
    else if (List.range 4).any (fun k => (wordAt ws (13 + k) &&& d.offered k) != wordAt ws (13 + k)) then 0x08
    else if layoutOk ws then 0 else 0x03

/-- The slot's registers after HEADER (BOOT_SLOT, BOOT_SEQ). -/
def Dev.showSlot (b : Bool) (code : Nat) (h : Option (List Word)) (s : Dev) : Dev :=
  let ws := h.getD []
  (s.wr (if b then R.BOOT_SLOT_B else R.BOOT_SLOT_A) (code * 2 ^ 24 + bitsOf (wordAt ws 5) 6 0)).wr
    (if b then R.BOOT_SEQ_B else R.BOOT_SEQ_A) (wordAt ws 6)

/-- The header words of a slot as read in HEADER. -/
def Dev.slotHdr (s : Dev) (slot : Nat) : List Word := if slot = 0 then s.boot.hdrA else s.boot.hdrB

/-- R105: the candidates in order; slot A is 0, slot B is 1. -/
def candidates (sel : Nat) (okA okB : Bool) (seqA seqB : Nat) : List Nat :=
  if sel = 1 then (if okA then [0] else [])
  else if sel = 2 then (if okB then [1] else [])
  else if okA && okB then (if seqA < seqB then [1, 0] else [0, 1])
  else if okA then [0] else if okB then [1] else []

/-- Carry the next candidate into IMAGE (R105). -/
def Dev.tryCand (slot : Nat) (rest : List Nat) (s : Dev) : Dev :=
  { (s.setFld R.BOOT_STAT 7 6 slot).setStage 4 with boot := { s.boot with cand := rest, image := [] } }

/-- HEADER from the words of the two slots: the codes, the order of the candidates, and IMAGE or HALT (R104, R105). Where NORMAL
finds no candidate, HALT shows the code of slot B (DESIGN CHOICE, log entry 114). -/
def Dev.judgeHeaders (a b : Option (List Word)) (s : Dev) : Dev :=
  let ca := hdrCode s a
  let cb := hdrCode s b
  let s := (s.showSlot false ca a).showSlot true cb b
  let s := { s with boot := { s.boot with hdrA := a.getD [], hdrB := b.getD [] } }
  let sel := s.fld R.BOOT_STRAP 1 0
  match candidates sel (ca == 0) (cb == 0) (s.rd R.BOOT_SEQ_A) (s.rd R.BOOT_SEQ_B) with
  | [] => s.bootStop 0xF (if sel = 1 then ca else cb)
  | slot :: rest => s.tryCand slot rest

/-- R93: an octal DDR read of the flash on XSPI_CS0_N (slot A, 0) or XSPI_CS1_N (slot B, 1), `n` bytes from device address 0. -/
def Dev.flashRead (slot n : Nat) (s : Dev) : Dev := s.emit (.pins "XSPI_READ" [slot, 0, n])

/-- HEADER_STAGE_DONE (R93, R104, R105): after a reset pulse on XSPI_RST_N both slots are read; `a` and `b` are the header and
directory words that they give, none where the flash does not answer. -/
def execHeaderStageDone (a b : Option (List Word)) (s : State) : Host.Outcome State Fault Refusal :=
  onDev (fun d =>
    if d.atStage 3 then
      (((d.emit (.pins "XSPI_RST_N" [0, 1])).flashRead 0 (4 * (a.getD []).length)).flashRead 1 (4 * (b.getD []).length)).judgeHeaders a b
    else d) s

/-- Pages that no record of an image writes (R100), and the units whose read-only bits show what has happened to the device itself. -/
def keptUnit (b : Blk) : Bool × Bool :=
  match b with
  | .glb | .cmb | .boot | .lcs => (true, true)
  | .pwr | .intc | .dram | .key | .pair | .hst => (false, true)
  | _ => (false, false)

/-- What a failed candidate leaves of a register: all of it, its read-only and W1C bits, or its Reset cell (DEDUCED, log entry 64). PG_FEAT
shows fuses, HIF_EPSTAT the outside world, and EV_RAW and PG_STAT what has happened. -/
def keptWord (off : Nat) (w : Word) : Word :=
  match blkOf off with
  | none => regReset off
  | some (r, _, o) =>
    let k := keptUnit r.blk
    if k.1 = true ∨ o = 0x008 ∨ o = 0x010 ∨ o = 0x014 ∨ off = R.HIF_EPSTAT_A ∨ off = R.HIF_EPSTAT_B then w
    else if k.2 = true ∧ 0x40 ≤ o then
      match r.blk.row? o with
      | some row => (w &&& ~~~BitVec.ofNat 32 row.rw) ||| (regReset off &&& BitVec.ofNat 32 row.rw)
      | none => w
    else regReset off

/-- R105: discard all loaded state. The PG_LOCK values from before a SLEEP wait to be set again (R66). -/
def Dev.discard (s : Dev) : Dev :=
  let regs := s.regs.foldl (fun m e => smSet regReset m e.1 (keptWord e.1 e.2)) []
  let d : Dev :=
    { regs := regs, rdata := s.rdata, out := s.out, free := s.free, pins := s.pins, boot := { s.boot with locks := s.boot.kept },
      pwr := s.pwr, time := { run := s.time.run, frc := s.time.frc }, mbox := s.mbox, bells := s.bells, lcReset := s.lcReset,
      hst := s.hst, dram := s.dram, intc := s.intc, eps := s.eps }
  d.setBit R.KEY_STAT 0 false

/-- R105: the candidate fails with a code; the next one is carried, with FALLBACK, or boot enters HALT. -/
def Dev.candFail (code : Nat) (s : Dev) : Dev :=
  let slot := s.fld R.BOOT_STAT 7 6
  let s := s.discard.setFld (if slot = 1 then R.BOOT_SLOT_B else R.BOOT_SLOT_A) 31 24 code
  match s.boot.cand with
  | [] => s.bootStop 0xF code
  | n :: rest => (s.setBit R.BOOT_STAT 13 true).tryCand n rest

/-- IMAGE_STAGE_DONE (R94): the image in the Headstock region, none on a read error or DQS timeout. -/
def execImageStageDone (img : Option (List Word)) (s : State) : Host.Outcome State Fault Refusal :=
  onDev (fun d =>
    if d.atStage 4 then
      let d := d.flashRead (d.fld R.BOOT_STAT 7 6) (4 * (img.getD []).length)
      match img with
      | none => d.candFail 0x0D
      | some ws => { d.setStage 5 with boot := { d.boot with image := ws } }
    else d) s

/-- The digest of a fused owner key. -/
def khBytes (ws : List Word) : List Byte := wordsBytes (ws.take 8)

/-- R103: whether a key digest equals an owner digest that is programmed and not revoked. -/
def keyOwned (f : Fuses) (dig : List Byte) : Bool :=
  (f.prog0 && !f.rev0 && khBytes f.kh0 == dig) || (f.prog1 && !f.rev1 && khBytes f.kh1 == dig)

/-- The first section of a type. -/
def findSec (ws : List Word) (ty : Nat) : Option DirEnt := (dirOf ws).find? fun e => decide (e.type = ty)

/-- R99: the signature of an HST_FW section under the Lergus key of the life-cycle state. -/
def fwSigOk (lc : Nat) (sec : List Byte) : Bool :=
  Config.mldsaVerify (Config.lergusKey (lc == 3)) (sha3_256 (sec.drop 2420)) (sec.take 2420)

/-- R107: the code of the first check of an image that fails, its digest, and whether its key is unowned in TEST. (DEDUCED, log entry 25.) -/
def verifyImage (f : Fuses) (ws : List Word) : Nat × List Byte × Bool :=
  let sig := wordAt ws 11
  let pk := wordSlice ws (wordAt ws 10) 1312
  let dig := sha3_256 (wordSlice ws 0 sig)
  let owned := keyOwned f (sha3_256 pk)
  if f.lc ≠ 1 ∧ owned = false then (0x09, dig, false)
  else if Config.mldsaVerify pk dig (wordSlice ws sig 2420) = false then (0x0A, dig, false)
  else
    match findSec ws 1 with
    | none => (0x0B, dig, false)
    | some e => if fwSigOk f.lc (wordSlice ws e.off e.len) then (0, dig, !owned) else (0x0B, dig, false)

/-- VERIFY_STAGE_DONE (R107). -/
def execVerifyStageDone (s : State) : Host.Outcome State Fault Refusal :=
  if s.dev.atStage 5 = false then .next s
  else
    match verifyImage s.vault.fuses s.dev.boot.image with
    | (0, dig, un) =>
      .next { s with dev := { (s.dev.setBit R.BOOT_STAT 12 un).setStage 6 with
        boot := { s.dev.boot with digest := dig } } }
    | (c, _, _) => .next { s with dev := s.dev.candFail c }

/-- BOOT_TIMEOUT (R112): 500 ms after PORST_N rises without DP_RELEASE. -/
def execBootTimeout (s : State) : Host.Outcome State Fault Refusal :=
  onDev (fun d => if d.pins.porst = true ∧ d.stage < 8 then d.bootStop 0xF 0x13 else d) s

end Sys2Proof.Machine
end

