-- ==== Sys2Proof/Machine/Mailbox.lean ====
section
/-! DEFINITION. The command mailbox (R78 to R85): judgement, tags, completion, and the four opcodes of chapter 03. -/

namespace Sys2Proof.Machine

/-- The Headstock executes firmware and serves mailboxes (R501, R111, R584). -/
def Dev.hstServes (s : Dev) : Bool :=
  s.pins.porst && s.stage == 0xA && s.fld R.HST_STAT 31 28 == 0 && decide (s.upd.pause < 2)

/-- HALTED (R503). -/
def Dev.hstHalted (s : Dev) : Bool := s.fld R.HST_STAT 31 28 == 2

/-- A mailbox. -/
def Dev.mb (s : Dev) (m : Nat) : Mbox := smGet (fun _ => ({} : Mbox)) s.mbox m

/-- Store a mailbox. -/
def Dev.setMb (m : Nat) (b : Mbox) (s : Dev) : Dev := { s with mbox := smSet (fun _ => ({} : Mbox)) s.mbox m b }

/-- The requester ID that writes mailbox m (R78). -/
def mbReq (m : Nat) : Nat := m + 1

/-- R78: only the mailbox's own requester may write its registers; PG_OWNER is judged as well (R63). -/
def Dev.cmbGuard (r : Req) (m : Nat) (f : Dev → Dev) (s : Dev) : Dev :=
  if s.reach r (R.CMB_HDR m) = false ∨ s.failed = true then s
  else if r.id ≠ mbReq m ∨ s.mayWrite r (R.CMB_HDR m) = false then s.viol (R.CMB_HDR m)
  else f s

/-- The opcode, tag and COUNT of CMB_HDR. -/
def Dev.cmbOp (s : Dev) (m : Nat) : Nat := s.fld (R.CMB_HDR m) 31 24
/-- The tag of the outstanding command. -/
def Dev.cmbTag (s : Dev) (m : Nat) : Nat := s.fld (R.CMB_HDR m) 23 8
/-- COUNT. -/
def Dev.cmbCount (s : Dev) (m : Nat) : Nat := s.fld (R.CMB_HDR m) 7 0
/-- CMB_STAT.BUSY. -/
def Dev.cmbBusy (s : Dev) (m : Nat) : Bool := s.bit (R.CMB_STAT m) 0
/-- CMB_STAT.OPEN. -/
def Dev.cmbOpen (s : Dev) (m : Nat) : Bool := s.bit (R.CMB_STAT m) 1

/-- An argument; those at COUNT and beyond are zero (R80). -/
def Dev.arg (s : Dev) (m k : Nat) : Nat := if k < s.cmbCount m ∧ k < 32 then s.rd (R.CMB_ARG m k) else 0

/-- The defined bits of the arguments of an opcode, from ARG0 on; none for an opcode that no chapter defines (R85). (DEDUCED, log entry 22.) -/
def opMasks (op a0 : Nat) : Option (List Nat) :=
  let full := 0xFFFFFFFF
  if op ≤ 3 then some []
  else if op = 0x20 then some (0x8000001F :: List.replicate (a0 % 32) 0x7F003F)
  else if op = 0x30 then
    some ([0x800003FF, 0x3E00FFFF, full, 0xFFFF] ++ List.replicate (if a0.testBit 31 then 15 else 8) full)
  else if op = 0x31 then some [0x3FF]
  else if op = 0x32 then some ([0x03FF03FF, 0x3E00FFFF, full, 0xFFFF] ++ List.replicate 8 full)
  else if op = 0x33 then some (1 :: List.replicate 9 full)
  else if op = 0x34 then some [0xF, full]
  else if op = 0x35 then some (0x101 :: List.replicate 9 full)
  else if op = 0x40 then some [full]
  else if op = 0x41 then some [full, full, full]
  else if op = 0x42 then some (List.replicate 8 full)
  else if op = 0x43 ∨ op = 0x46 then some []
  else if op = 0x44 then some [0x7F]
  else if op = 0x45 then some [0x7, 0x80000007]
  else none

/-- The bits of an argument that are neither defined nor maintained by the B960: those that RSVD_NONZERO reports. The
attribute word of KEY_INSTALL and KEY_DERIVE has maintained fields beside its reserved ones (R484). -/
def opReserved (op a0 k : Nat) : Nat :=
  let m := (((opMasks op a0).getD [])[k]?).getD 0
  if (op = 0x30 ∨ op = 0x32) ∧ k = 1 then 0x01F00000 else 0xFFFFFFFF - m

/-- The digest of R81: the opcode and the defined fields of its arguments. -/
def Dev.cmbDigest (s : Dev) (m : Nat) : List Byte :=
  let op := s.cmbOp m
  let ms := (opMasks op (s.arg m 0)).getD []
  sha3_256 (BitVec.ofNat 8 op :: (ms.zipIdx.flatMap fun p => leBytes 4 (s.arg m p.2 &&& p.1)))

/-- RSVD_NONZERO of R81. -/
def Dev.cmbRsvd (s : Dev) (m : Nat) : Bool :=
  (List.range 32).any fun k => (s.arg m k &&& opReserved (s.cmbOp m) (s.arg m 0) k) != 0

/-- Remember a completion, forgetting the oldest of 64 (R82). -/
def remember (t : TagRec) (ts : List TagRec) : List TagRec := (if 64 ≤ ts.length then ts.tail else ts) ++ [t]

/-- R80: write CMB_CPL and CMB_RES, clear BUSY, raise CPL_READY. -/
def Dev.cmbWrite (m tag cpl : Nat) (res : List Word) (s : Dev) : Dev :=
  let s := s.wr (R.CMB_CPL m) (tag * 2 ^ 16 + cpl)
  let s := forN 16 (fun k s => s.setReg (R.CMB_RES m k) ((res[k]?).getD 0)) s
  let s := s.setBit (R.CMB_STAT m) 0 false
  let b := s.mb m
  (({ s with bells := s.bells.filter (· != m) }).setMb m { tags := b.tags }).raise (0x2000 + 0x1000 * m) 0

/-- The 16 result words of a completion: those that the opcode gives, and free values in the others, which R80 and R85 leave open
(DESIGN CHOICE, log entry 98). -/
def Dev.cmbResults (s : Dev) (res : List Nat) : List Word :=
  res.map (BitVec.ofNat 32) ++ (List.range 16).map fun k => Config.freeWord (s.free + k)

/-- Past the free values that a completion draws. -/
def Dev.drawn16 (s : Dev) : Dev := { s with free := s.free + 16 }

/-- Complete the outstanding command with its own status, remembered unless it is BUSY (R82). -/
def Dev.cmbFinish (m status : Nat) (res : List Nat) (s : Dev) : Dev :=
  let cpl := status + (if s.cmbRsvd m then 0x200 else 0)
  let ws := (s.cmbResults (if status = 0 then res else [])).take 16
  let t : TagRec := { tag := s.cmbTag m, cpl := cpl, res := ws, digest := s.cmbDigest m }
  let s := s.drawn16.cmbWrite m (s.cmbTag m) cpl ws
  if status = 1 then s else (s.setMb m { tags := remember t (s.mb m).tags }).jrnTag m t

/-- Complete without remembering (R82, R504). -/
def Dev.cmbAnswer (m status : Nat) (s : Dev) : Dev :=
  s.drawn16.cmbWrite m (s.cmbTag m) (status + if s.cmbRsvd m then 0x200 else 0) (s.cmbResults [])

/-- What R81 and the COUNT rule of R80 say of the outstanding command: a completion, or none when it is to execute. -/
def Dev.cmbJudge (m : Nat) (s : Dev) : Option (Dev → Dev) :=
  if s.cmbOpen m = false ∧ 3 < s.cmbOp m then some (Dev.cmbAnswer m 6)
  else
    match (s.mb m).tags.find? fun t => t.tag == s.cmbTag m with
    | some t =>
      if t.digest = s.cmbDigest m then
        some (Dev.cmbWrite m (s.cmbTag m) ((t.cpl ||| 0x100 ||| if s.cmbRsvd m then 0x200 else 0) % 2 ^ 16) t.res)
      else some (Dev.cmbAnswer m 4)
    | none => if 32 < s.cmbCount m then some (Dev.cmbFinish m 3 []) else none

/-- The Headstock takes mailbox m's command: it completes by judgement, or its opcode's command follows (R81, R85). (DEDUCED, log entry 21.) -/
def Dev.cmbTake (m : Nat) (s : Dev) : Dev :=
  match s.cmbJudge m with
  | some f => f s
  | none =>
    match opMasks (s.cmbOp m) (s.arg m 0) with
    | none => s.cmbFinish m 3 []
    | some _ => { s.setMb m { s.mb m with taken := true } with bells := s.bells.filter (· != m) }

/-- CMB_TAKE (R80, R81, R504): the next outstanding command in the order of the doorbells. -/
def Dev.takeNext (s : Dev) : Dev :=
  match s.bells with
  | [] => s
  | m :: _ => if s.hstHalted then s.cmbAnswer m 2 else if s.hstServes then s.cmbTake m else s

/-- CMB_TAKE. -/
def execCmbTake (s : State) : Host.Outcome State Fault Refusal := onDev Dev.takeNext s

/-- R80: a doorbell of mailbox m that reaches it. -/
def Dev.cmbGo (m : Nat) (s : Dev) : Dev :=
  if s.cmbBusy m then s.setBit (R.CMB_STAT m) 2 true
  else
    let s := s.setBit (R.CMB_STAT m) 0 true
    if s.hstHalted then s.cmbAnswer m 2 else { s with bells := s.bells ++ [m] }

/-- CMB_GO (R80): BUSY sets and the command is outstanding, or GO_LOST sets; in HALTED it completes REFUSED (R504). -/
def execCmbGo (r : Req) (m : Nat) (s : State) : Host.Outcome State Fault Refusal :=
  onDev (fun s => if m < 4 then s.cmbGuard r m (Dev.cmbGo m) else s) s

/-- Whether mailbox m holds a taken command of an opcode that the Headstock can now carry out. -/
def Dev.cmbRuns (s : Dev) (m op : Nat) : Bool :=
  s.hstServes && s.cmbBusy m && (s.mb m).taken && s.cmbOp m == op

/-- Carry out a taken command on the device: status, results and effect. -/
def Dev.runCmd (m op : Nat) (f : Dev → Nat × List Nat × Dev) (s : Dev) : Dev :=
  if s.cmbRuns m op then
    match f s with
    | (st, res, s') => s'.cmbFinish m st res
  else s

/-- Carry out a taken command on the whole block: status, results and effect. -/
def State.runCmd (m op : Nat) (f : State → Nat × List Nat × State) (s : State) : State :=
  if s.dev.cmbRuns m op then
    match f s with
    | (st, res, s') => { s' with dev := s'.dev.cmbFinish m st res }
  else s

/-- NOP (R85). -/
def execNop (m : Nat) (s : State) : Host.Outcome State Fault Refusal := onDev (Dev.runCmd m 0 fun s => (0, [], s)) s

/-- IDENTIFY (R85). -/
def execIdentify (m : Nat) (s : State) : Host.Outcome State Fault Refusal :=
  onDev (Dev.runCmd m 1 fun s =>
    (0, [s.rd R.GLB_PART, s.rd R.GLB_SIREV, s.rd R.GLB_UID_LO, s.rd R.GLB_UID_HI, s.rd (R.DEV_FEAT 0),
      s.rd (R.DEV_FEAT 1), s.rd (R.DEV_FEAT 2), s.rd (R.DEV_FEAT 3)], s)) s

/-- FEAT_QUERY (R85): zero on the mailboxes without a handshake. -/
def execFeatQuery (m : Nat) (s : State) : Host.Outcome State Fault Refusal :=
  onDev (Dev.runCmd m 2 fun s =>
    (0, (if m = 0 then (List.range 4).map (fun k => s.rd (R.DRV_FEAT_A k)) ++ [s.rd R.FEAT_CTRL_A]
      else if m = 1 then (List.range 4).map (fun k => s.rd (R.DRV_FEAT_B k)) ++ [s.rd R.FEAT_CTRL_B]
      else [0, 0, 0, 0, 0]), s)) s

/-- TAG_FLUSH (R85): forgets all tags of the mailbox, then remembers its own. -/
def execTagFlush (m : Nat) (s : State) : Host.Outcome State Fault Refusal :=
  onDev (Dev.runCmd m 3 fun s => (0, [], s.setMb m { s.mb m with tags := [] })) s

end Sys2Proof.Machine
end

