-- ==== Sys2Proof/Machine/Intc.lean ====
section
/-! DEFINITION. The interrupt controller (chapter 19): sources, hold-off, lines, claim and completion, sleeping targets
and MSI-X. A wake of the MGMT target is left in `IntcSt.mgmtWake` for the Tailstock. -/

namespace Sys2Proof.Machine

/-- The pages whose events hold a source high (R438). -/
def pagesOf (src : Nat) : List Nat :=
  (blkRows.flatMap fun b => (List.range b.inst).filterMap fun i =>
    if b.blk.source i = some src then some (b.blk.page i) else none)

/-- The endpoint's environment. -/
def Dev.ep (s : Dev) (e : Nat) : EpEnv := smGet (fun _ => ({} : EpEnv)) s.eps e

/-- R437 to R439, R433, R589: whether a source's origin holds it high. -/
def Dev.originHigh (s : Dev) (src : Nat) : Bool :=
  if src < 16 then s.bit R.INTC_SAFE_RAW src && s.bit R.INTC_SAFE_EN src
  else if src = 180 then (s.upd.ev &&& s.upd.en) != 0
  else if 192 ≤ src then (s.rd (R.RP_IRQ (src - 192)) &&& s.rd (R.RP_CFG (src - 192)) &&& 3) != 0
  else (pagesOf src).any s.evPend

/-- INTC_SRC_CFG of a source. -/
def Dev.srcCfg (s : Dev) (src : Nat) : Nat := s.rd (R.INTC_SRC_CFG src)
/-- SRC_TARGET. -/
def Dev.srcTgt (s : Dev) (src : Nat) : Nat := s.srcCfg src % 4

/-- The active source of a target, plus one; 0 when it has none. -/
def Dev.actOf (s : Dev) (t : Nat) : Nat := smGet (fun _ => 0) s.intc.act t

/-- Whether a source is active for some target. -/
def Dev.srcActive (s : Dev) (src : Nat) : Bool := (List.range 4).any fun t => s.actOf t == src + 1

/-- R440: pending for its current target. -/
def Dev.srcPending (s : Dev) (src : Nat) : Bool :=
  s.intc.high.contains src && (s.srcCfg src).testBit 31 && !s.srcActive src

/-- A group's timer for a target (R441). -/
def Dev.timer (s : Dev) (g t : Nat) : Nat := smGet (fun _ => 0) s.intc.tmr (4 * g + t)

/-- Set a group's timer. -/
def Dev.setTimer (g t v : Nat) (s : Dev) : Dev :=
  { s with intc := { s.intc with tmr := smSet (fun _ => 0) s.intc.tmr (4 * g + t) v } }

/-- R441: a source of group g is pending for t. -/
def Dev.groupPending (s : Dev) (g t : Nat) : Bool :=
  s.intc.high.any fun x => x / 16 == g && s.srcTgt x == t && s.srcPending x

/-- R441: deliverable. -/
def Dev.srcDeliverable (s : Dev) (src : Nat) : Bool :=
  s.srcPending src && s.timer (src / 16) (s.srcTgt src) == 2

/-- The lowest of a list of numbers that satisfies a test. -/
def lowestOf (l : List Nat) (p : Nat → Bool) : Option Nat :=
  l.foldl (fun m x => if p x then (match m with | none => some x | some y => some (min x y)) else m) none

/-- The lowest deliverable source of a target. -/
def Dev.nextSource (s : Dev) (t : Nat) : Option Nat :=
  lowestOf s.intc.high fun x => s.srcTgt x == t && s.srcDeliverable x

/-- R449: a target is asleep. (DEDUCED, log entry 89.) -/
def Dev.tgtAsleep (s : Dev) (t : Nat) : Bool :=
  if t = 0 then s.fld R.HST_STAT 31 28 == 3
  else if t = 3 then false
  else
    let l := s.fld (if t = 1 then R.HIF_EPSTAT_A else R.HIF_EPSTAT_B) 31 28
    l == 0 || l == 1 || l == 6 || l == 7 || s.bit R.INTC_TGT_SLEEP t

/-- R442: a target's line. -/
def Dev.tgtLine (s : Dev) (t : Nat) : Bool :=
  s.actOf t == 0 && !s.tgtAsleep t && (s.nextSource t).isSome &&
    !(t == 0 && (s.fld R.HST_STAT 31 28 == 1 || s.fld R.HST_STAT 31 28 == 2))

/-- R443: the function and vector that a source is signalled on. -/
def Dev.srcVector (s : Dev) (t src : Nat) : Nat × Nat :=
  if 192 ≤ src ∧ (s.fld (R.RP_CFG (src - 192)) 30 30) + 1 = t then (1, s.fld (R.RP_CFG (src - 192)) 21 16)
  else (0, bitsOf (s.srcCfg src) 21 16)

/-- R443: an endpoint's function may send a vector now. -/
def epMaySend (e : EpEnv) (fn vec : Nat) : Bool :=
  if fn = 1 then e.msixEn1 && e.bme1 && !e.d3hot1 && !e.fmask1 && !e.masks1.testBit vec
  else e.msixEn0 && e.bme0 && !e.d3hot0 && !e.fmask0 && !e.masks0.testBit vec

/-- R443: send or hold an MSI-X message. -/
def Dev.sendMsix (e fn vec : Nat) (s : Dev) : Dev :=
  if epMaySend (s.ep e) fn vec then s.emit (.msix e fn vec)
  else { s with intc := { s.intc with pba := s.intc.pba ++ [(e, fn, vec)] } }

/-- R441: start a group's timer with a hold-off of `h` µs: RUNNING from this instant, or EXPIRED at once. -/
def Dev.startTimer (g t h : Nat) (s : Dev) : Dev :=
  if h = 0 then s.setTimer g t 2
  else Dev.setTimer g t 1 { s with intc :=
    { s.intc with runs := smSet (fun _ => (0, 0)) s.intc.runs (4 * g + t) (s.time.frc, h) } }

/-- R441: h µs have passed since a RUNNING timer started; a later write of INTC_HOLD does not change h. -/
def Dev.timerUp (s : Dev) (g t : Nat) : Bool :=
  let r := smGet (fun _ => (0, 0)) s.intc.runs (4 * g + t)
  s.passed r.1 (r.2 * 1000)

/-- R441: one timer follows its group. -/
def Dev.stepTimer (g t : Nat) (s : Dev) : Dev :=
  let p := s.groupPending g t
  let v := s.timer g t
  if v = 0 ∧ p = true then s.startTimer g t (s.fld (R.INTC_HOLD (16 * t + g)) 15 0)
  else if v = 2 ∧ p = false then s.setTimer g t 0 else s

/-- The groups and targets whose timers can move: those with a source high, or a timer not IDLE. -/
def Dev.liveTimers (s : Dev) : List Nat :=
  (s.intc.high.map fun x => 4 * (x / 16) + s.srcTgt x) ++ s.intc.tmr.map (·.1)

/-- A host target whose endpoint's PERST_N is low: no wake reaches it (R450, R611; DEDUCED, log entry 103). -/
def Dev.perstHeld (s : Dev) (t : Nat) : Bool := (t == 1 && !s.pins.perstA) || (t == 2 && !s.pins.perstB)

/-- R450: wake a sleeping target with a deliverable SRC_WAKE source. -/
def Dev.wakeTarget (t : Nat) (s : Dev) : Dev :=
  let src := lowestOf s.intc.high fun x => s.srcTgt x == t && s.srcDeliverable x && (s.srcCfg x).testBit 30
  match src with
  | none => s
  | some x =>
    if s.tgtAsleep t = false ∨ s.intc.waking.contains t = true ∨ s.perstHeld t = true then s
    else if t = 0 then
      if s.pwr.phase = .rest then
        ({ s with intc := { s.intc with mgmtWake := some x, waking := t :: s.intc.waking } }).inc (C.INTC_WAKE_CNT t)
      else s
    else
      let s := (s.setBit R.INTC_TGT_SLEEP t false).inc (C.INTC_WAKE_CNT t)
      let l := s.fld (if t = 1 then R.HIF_EPSTAT_A else R.HIF_EPSTAT_B) 31 28
      let s := if l = 7 ∨ l = 0 ∨ l = 1 then
        { s with pins := if t = 1 then { s.pins with wakeA := true } else { s.pins with wakeB := true } } else s
      if s.tgtAsleep t then { s with intc := { s.intc with waking := t :: s.intc.waking } } else s

/-- R442, R443: one line follows its target. -/
def Dev.stepLine (t : Nat) (s : Dev) : Dev :=
  let new := s.tgtLine t
  let old := s.intc.line.contains t
  if new = true ∧ old = false then
    let s := { s with intc := { s.intc with line := t :: s.intc.line, seen := t :: s.intc.seen.filter (· != t) } }
    if t = 3 then { s with pins := { s.pins with irq := true } }
    else if t = 0 then s
    else
      match s.nextSource t with
      | none => s
      | some x => s.sendMsix (t - 1) (s.srcVector t x).1 (s.srcVector t x).2
  else if new = false ∧ old = true then
    let s := { s with intc := { s.intc with line := s.intc.line.filter (· != t) } }
    if t = 3 then { s with pins := { s.pins with irq := false } }
    else { s with intc := { s.intc with pba := s.intc.pba.filter fun m => m.1 + 1 != t } }
  else s

/-- Timers, wakes and lines follow the sources (R441, R442, R450). -/
def Dev.intcSettle (s : Dev) : Dev :=
  let s := forL s.liveTimers (fun k s => s.stepTimer (k / 4) (k % 4)) s
  let s := { s with intc := { s.intc with waking := s.intc.waking.filter s.tgtAsleep } }
  let s := forN 3 Dev.wakeTarget s
  forN 4 Dev.stepLine s

/-- A source's input follows its origin (R442). -/
def Dev.sample (src : Nat) (s : Dev) : Dev :=
  let l := s.intc.high.filter (· != src)
  { s with intc := { s.intc with high := if s.originHigh src then src :: l else l } }

/-- INTC_SOURCE_CHANGE's effect (R437, R442): the input of a source follows its origin. -/
def Dev.sourceChange (src : Nat) (s : Dev) : Dev := if src < 256 then (s.sample src).intcSettle else s

/-- INTC_HOLDOFF_EXPIRY's effect (R441). -/
def Dev.holdoffExpiry (g t : Nat) (s : Dev) : Dev :=
  if g < 16 ∧ t < 4 ∧ s.timer g t = 1 ∧ s.timerUp g t = true then
    (Dev.setTimer g t 2 { s with intc :=
      { s.intc with runs := smSet (fun _ => (0, 0)) s.intc.runs (4 * g + t) (0, 0) } }).intcSettle
  else s

/-- R444: the requester of a target; any requester for PIN. -/
def tgtReq (t : Nat) (r : Req) : Bool := t == 3 || r.id == t

/-- R444: the value that a claim read returns. -/
def Dev.claimValue (s : Dev) (t : Nat) : Nat :=
  if s.actOf t ≠ 0 then s.actOf t - 1
  else
    match s.nextSource t with
    | some x => x
    | none => if s.intc.seen.contains t then 0x3FF else 0x3FE

/-- R444: a read of INTC_CLAIMt. -/
def Dev.claim (r : Req) (t : Nat) (s : Dev) : Dev :=
  let v := s.claimValue t
  if tgtReq t r = false then s.answer v
  else
    let seen := s.intc.seen.contains t
    let s' := { s with intc := { s.intc with seen := s.intc.seen.filter (· != t) } }
    if s.actOf t ≠ 0 then s'.answer v
    else
      match s.nextSource t with
      | some x => ({ s' with intc := { s'.intc with act := smSet (fun _ => 0) s'.intc.act t (x + 1) } }).intcSettle.answer v
      | none => (if seen then s'.inc (C.INTC_SPUR_CNT t) else s').answer v

/-- INTC_CLAIM (R444). -/
def execIntcClaim (r : Req) (t : Nat) (s : State) : Host.Outcome State Fault Refusal :=
  onDev (fun s => if t < 4 ∧ s.reach r (R.INTC_CLAIM t) = true then s.claim r t else s.answer 0) s

/-- R445, R448: a target's active source leaves its slot and is judged again. -/
def Dev.intcRelease (t : Nat) (s : Dev) : Dev :=
  match s.actOf t with
  | 0 => s
  | x + 1 => (Dev.sample x { s with intc := { s.intc with act := smSet (fun _ => 0) s.intc.act t 0 } }).intcSettle

/-- R445, R446: a write to INTC_DONEt. -/
def Dev.intcDone (r : Req) (t v : Nat) (s : Dev) : Dev :=
  if tgtReq t r = true ∧ s.actOf t = v % 1024 + 1 then s.intcRelease t
  else (s.setBit (R.INTC_TGT_STAT t) 24 true).raise 0xC000 1

/-- INTC_DONE (R445). -/
def execIntcDone (r : Req) (t v : Nat) (s : State) : Host.Outcome State Fault Refusal :=
  onDev (fun s => if t < 4 then Dev.guarded r (R.INTC_DONE t) (Dev.intcDone r t v) s else s) s

/-- R417: HST or the owning endpoint's requester writes a ring pair's registers. -/
def Dev.pairOwner (s : Dev) (n : Nat) (r : Req) : Bool :=
  r == .hst || r.id == s.fld (R.RP_CFG n) 30 30 + 1

/-- R452, R440: a write to INTC_SRC_CFG, acting at once. -/
def Dev.srcCfgWrite (src v : Nat) (s : Dev) : Dev :=
  (s.setReg (R.INTC_SRC_CFG src) (BitVec.ofNat 32 v &&& 0xC03F0003)).intcSettle

/-- INTC_SRC_CFG_WRITE (R440, R452). -/
def execIntcSrcCfgWrite (r : Req) (src v : Nat) (s : State) : Host.Outcome State Fault Refusal :=
  onDev (fun s =>
    let o := R.INTC_SRC_CFG src
    if 256 ≤ src then s
    else if 192 ≤ src then
      (if s.reach r o = false then s
       else if s.pairOwner (src - 192) r then s.cfgWrite r o (Dev.srcCfgWrite src v) else s.viol o)
    else Dev.guarded r o (Dev.srcCfgWrite src v) s) s

/-- R450: a write would change a bit of INTC_TGT_SLEEP that is not target t's. -/
def Dev.otherSleep (s : Dev) (t v : Nat) : Bool := s.bit R.INTC_TGT_SLEEP (3 - t) != v.testBit (3 - t)

/-- R450: each host writes its own bit of INTC_TGT_SLEEP, HST both; a change that a host asks of the other's bit counts. -/
def Dev.tgtSleepWrite (r : Req) (v : Nat) (s : Dev) : Dev :=
  let s := match r with
    | .hosta => if s.otherSleep 1 v then s.viol R.INTC_TGT_SLEEP else s
    | .hostb => if s.otherSleep 2 v then s.viol R.INTC_TGT_SLEEP else s
    | _ => s
  match r with
  | .hst => ((s.setBit R.INTC_TGT_SLEEP 1 (v.testBit 1)).setBit R.INTC_TGT_SLEEP 2 (v.testBit 2)).intcSettle
  | .hosta => (s.setBit R.INTC_TGT_SLEEP 1 (v.testBit 1)).intcSettle
  | .hostb => (s.setBit R.INTC_TGT_SLEEP 2 (v.testBit 2)).intcSettle
  | _ => s.viol R.INTC_TGT_SLEEP

/-- INTC_TGT_SLEEP_WRITE (R449, R450). -/
def execIntcTgtSleepWrite (r : Req) (v : Nat) (s : State) : Host.Outcome State Fault Refusal :=
  onDev (Dev.guarded r R.INTC_TGT_SLEEP (Dev.tgtSleepWrite r v)) s

/-- MSIX_PENDING_SEND (R443): the held messages that an endpoint may now send. -/
def execMsixPendingSend (e : Nat) (s : State) : Host.Outcome State Fault Refusal :=
  onDev (fun s =>
    let go (m : Nat × Nat × Nat) : Bool := m.1 == e && epMaySend (s.ep e) m.2.1 m.2.2
    let out := s.intc.pba.filter go
    let s' := { s with intc := { s.intc with pba := s.intc.pba.filter fun m => !go m } }
    forL out (fun m s => s.emit (.msix m.1 m.2.1 m.2.2)) s') s

/-- SAFETY_CONDITION (R439): a condition of sources 0 to 5 occurs. -/
def execSafetyCondition (c : Nat) (s : State) : Host.Outcome State Fault Refusal :=
  onDev (fun s => if c < 6 then s.safety c else s) s

/-- INTC_SAFE_FORCE (R439). -/
def Dev.safeForce (v : Nat) (s : Dev) : Dev := s.wr R.INTC_SAFE_RAW (s.rd R.INTC_SAFE_RAW ||| (v % 2 ^ 16))

/-- INTC_SAFE_FORCE. -/
def execIntcSafeForce (r : Req) (v : Nat) (s : State) : Host.Outcome State Fault Refusal :=
  onDev (Dev.guarded r R.INTC_SAFE_FORCE (Dev.safeForce v)) s

/-- R439: the conditions that persist set their bits again after a clear: a tamper latch, a supply low or a link lost, and
SAFE_N low after data-plane release. -/
def Dev.safePersist (s : Dev) : Dev :=
  let s := if s.fld R.LCS_TAMP_STAT 20 16 ≠ 0 then s.safety 2 else s
  let s := if s.bit R.PWR_STAT 9 = true ∨ (s.stage = 0xA ∧ s.pwr.dieLink = false) ∨ s.pwr.supplyBad = true then s.safety 3
    else s
  if s.stage = 0xA ∧ s.pins.safe = false then s.safety 4 else s

/-- A word of INTC_LEVEL, INTC_PEND or INTC_ACTV: bit i of word k says a fact of source 32 k + i. -/
def maskOf (k : Nat) (p : Nat → Bool) : Nat :=
  (List.range 32).foldl (fun m i => if p (32 * k + i) then m + 2 ^ i else m) 0

/-- A read of a computed INTC register, by its offset in the block (R444, chapter 19); none for a stored one. -/
def Dev.intcPeek (s : Dev) (o : Nat) : Option Nat :=
  if 0x80 ≤ o ∧ o < 0x90 then some (s.claimValue ((o - 0x80) / 4))
  else if 0xA0 ≤ o ∧ o < 0xB0 then
    let t := (o - 0xA0) / 4
    some ((if s.intc.line.contains t then 2 ^ 31 else 0) + (if s.tgtAsleep t then 2 ^ 30 else 0) +
      (if s.intc.waking.contains t then 2 ^ 29 else 0) + (if s.intc.seen.contains t then 2 ^ 28 else 0) +
      (if s.bit (R.INTC_TGT_STAT t) 24 then 2 ^ 24 else 0) +
      (if s.actOf t ≠ 0 then 2 ^ 16 + (s.actOf t - 1) else 0))
  else if 0x200 ≤ o ∧ o < 0x220 then some (maskOf ((o - 0x200) / 4) fun x => s.intc.high.contains x)
  else if 0x220 ≤ o ∧ o < 0x240 then some (maskOf ((o - 0x220) / 4) s.srcPending)
  else if 0x240 ≤ o ∧ o < 0x260 then some (maskOf ((o - 0x240) / 4) s.srcActive)
  else none

end Sys2Proof.Machine
end

