-- ==== Sys2Proof/Machine/Keys.lean ====
section
/-! DEFINITION. The key store, the device keys, the key opcodes, life-cycle and owner keys, entropy and the tamper wipe
(chapter 21). -/

namespace Sys2Proof.Machine

/-- Table numbers in `Dev.tabs`: the block code of R58 times 16 plus the table number of its window. -/
def T.keyId : Nat := 0x610
/-- The attestation public key. -/
def T.keyAtt : Nat := 0x611

/-- A key slot. -/
def Dev.slot (s : Dev) (n : Nat) : KeySlot := smGet (fun _ => ({} : KeySlot)) s.keys n

/-- Store a key slot. -/
def Dev.setSlot (n : Nat) (k : KeySlot) (s : Dev) : Dev :=
  { s with keys := smSet (fun _ => ({} : KeySlot)) s.keys n k }

/-- Attribute bits of R484. -/
def KA.valid : Nat := 31
/-- Device slot. -/
def KA.device : Nat := 30
/-- MACSEC. -/
def KA.macsec : Nat := 29
/-- CAN. -/
def KA.can : Nat := 28
/-- LA. -/
def KA.la : Nat := 27
/-- DERIVE. -/
def KA.derive_ : Nat := 26
/-- WRAP. -/
def KA.wrap : Nat := 25

/-- R483: the key cache, most recently used first, at most 64 slots. -/
def Dev.cacheUse (n : Nat) (s : Dev) : Dev := { s with cache := (n :: s.cache.filter (· != n)).take 64 }

/-- R483: remove a slot's cache entries. -/
def Dev.cacheDrop (n : Nat) (s : Dev) : Dev := { s with cache := s.cache.filter (· != n) }

/-- The outcome of a use: 0 counted, 1 the limit refuses it, 2 the attributes refuse it (R459, R482, R484). -/
def Dev.useKey (n purpose : Nat) (s : Dev) : Nat × Dev :=
  let k := s.slot n
  if k.attr.testBit KA.valid = false ∨ k.attr.testBit purpose = false ∨ k.errored = true then (2, s)
  else if k.limit < k.use + 1 then
    (1, if k.spentRaised then s else (s.setSlot n { k with spentRaised := true }).raise 0xF0000 2)
  else (0, (s.setSlot n { k with use := k.use + 1 }).cacheUse n)

/-- R487: apply an install. -/
def Dev.applyInstall (n : Nat) (key : List Byte) (attr limit : Nat) (s : Dev) : Dev :=
  ((s.setSlot n { key := key, attr := attr, use := 0, limit := limit }).cacheDrop n).add64 C.KEY_INSTALLS 1

/-- R487: apply an erase. -/
def Dev.applyErase (n : Nat) (s : Dev) : Dev := (s.setSlot n {}).cacheDrop n

/-- R487: a use ends; a held change applies when the count reaches zero, and SLOT_APPLIED is raised. -/
def Dev.endUse (n : Nat) (s : Dev) : Dev :=
  let k := s.slot n
  let s := s.setSlot n { k with inUse := k.inUse - 1 }
  if k.inUse ≤ 1 then
    match k.held with
    | none => s
    | some (.write key attr limit) => (s.applyInstall n key attr limit).raise 0x108000 0
    | some .erase => (s.applyErase n).raise 0x108000 0
  else s

/-- R487: record a change of a slot: applied at once, held, or BUSY when one is already held. -/
def Dev.changeSlot (n : Nat) (h : HeldKey) (s : Dev) : Nat × Dev :=
  let k := s.slot n
  if k.held.isSome then (1, s)
  else if k.inUse = 0 then
    (0, match h with
      | .write key attr limit => s.applyInstall n key attr limit
      | .erase => s.applyErase n)
  else (0, (s.setSlot n { k with held := some h }).inc C.KEY_HELD_CHANGES)

/-- KEY_SLOT_STAT of a slot. -/
def Dev.slotStat (s : Dev) (n : Nat) : Nat :=
  let k := s.slot n
  (if k.attr.testBit KA.valid then 2 ^ 31 else 0) +
  (match k.held with | some (.write _ _ _) => 2 ^ 30 | _ => 0) +
  (match k.held with | some .erase => 2 ^ 29 | _ => 0) +
  (if k.errored then 2 ^ 28 else 0) + (if n < 8 then 2 ^ 27 else 0) +
  (if k.attr.testBit KA.valid ∧ k.use = k.limit then 2 ^ 26 else 0) + (k.inUse % 256) * 2 ^ 16 + n

/-- UID of R485: GLB_UID_HI then GLB_UID_LO, most significant byte first. -/
def Dev.uid (s : Dev) : List Byte := beBytes 4 (s.rd R.GLB_UID_HI) ++ beBytes 4 (s.rd R.GLB_UID_LO)

/-- R486: the root that the life-cycle state selects; the TEST root is the bytes 0 to 31. -/
def rootOf (f : Fuses) : List Byte :=
  if f.lc = 1 then (List.range 32).map (BitVec.ofNat 8) else takePad 32 ((f.roots[f.lc - 1]?).getD [])

/-- R485: a device key. -/
def deviceKey (f : Fuses) (x : List Byte) : List Byte := kmac256 (rootOf f) x (ascii "FLIHOLT")

/-- The attestation label's input (R485). -/
def Dev.attestX (s : Dev) (dig : List Byte) (secVer : Nat) : List Byte :=
  ascii "ATTEST" ++ s.uid ++ dig ++ [BitVec.ofNat 8 secVer]

/-- A device slot's record: VALID, DEVICE and its purpose, no limit of its own (DESIGN CHOICE, log entry 8). -/
def deviceSlot (key : List Byte) (purpose : Nat) : KeySlot :=
  { key := key, attr := 2 ^ 31 + 2 ^ 30 + purpose, limit := 2 ^ 48 - 1 }

/-- Store a public key of 1,312 bytes as 17 rows of 20 words (KEY window). -/
def Dev.setPublic (t : Nat) (pk : List Byte) (s : Dev) : Dev :=
  forN 17 (fun i s => forN 20 (fun w s =>
    s.setTab t i w (leNat (takePad 4 ((takePad 1312 pk).drop (80 * i + 4 * w))))) s) s

/-- The public keys of slots 1 and 2 (R485, R490). -/
def Dev.makePublic (s : Dev) : Dev :=
  (s.setPublic T.keyId (Config.mldsaPublic (s.slot 1).key)).setPublic T.keyAtt (Config.mldsaPublic (s.slot 2).key)

/-- R485: derive the device slots for an image digest and security version. -/
def Dev.deriveKeys (f : Fuses) (dig : List Byte) (secVer : Nat) (s : Dev) : Dev :=
  let s := s.setSlot 0 (deviceSlot (deviceKey f (ascii "KEK" ++ s.uid)) (2 ^ KA.wrap))
  let s := s.setSlot 1 (deviceSlot (deviceKey f (ascii "IDENTITY" ++ s.uid)) 0)
  let s := s.setSlot 2 (deviceSlot (deviceKey f (s.attestX dig secVer)) 0)
  let s := forN 5 (fun i s => s.setSlot (3 + i) (deviceSlot (List.replicate 32 0) 0)) s
  s.makePublic

/-- SEC_VER of the header of the chosen slot. -/
def Dev.runSecVer (s : Dev) : Nat := bitsOf (wordAt (s.slotHdr (s.fld R.BOOT_STAT 7 6)) 5) 6 0

/-- KEYS_STAGE_DONE (R108, R485, R491). -/
def execKeysStageDone (s : State) : Host.Outcome State Fault Refusal :=
  onDev (fun d => if d.atStage 6 then
    ((d.deriveKeys s.vault.fuses d.boot.digest d.runSecVer).setBit R.KEY_STAT 0 true).setStage 7 else d) s

/-- R488: the mailboxes that accept the key and update opcodes. -/
def Dev.cmbKeys (s : Dev) (m : Nat) : Bool := decide (m < 3) || (m == 3 && (s.lc == 1 || s.lc == 2))

/-- The checks common to the key opcodes: mailbox, then tamper latch (R488). -/
def State.keyCmd (m : Nat) (f : State → Nat × List Nat × State) (s : State) : Nat × List Nat × State :=
  if s.dev.cmbKeys m = false then (6, [], s) else if s.vault.latch ≠ 0 then (8, [], s) else f s

/-- Argument words as bytes, byte 0 in bits [31:24] (R488). -/
def Dev.argBytes (s : Dev) (m k n : Nat) : List Byte := (List.range n).flatMap fun i => beBytes 4 (s.arg m (k + i))

/-- The attribute word of an install: purposes and LA_PAGES of ARG1, VALID and the mailbox's requester (R484, R489). -/
def instAttr (a1 req : Nat) : Nat := 2 ^ 31 + (a1 &&& 0x3E00FFFF) + req * 2 ^ 16

/-- R489: an occupied slot of another requester. -/
def Dev.slotForeign (s : Dev) (n req : Nat) : Bool :=
  (s.slot n).attr.testBit KA.valid && bitsOf (s.slot n).attr 19 16 != req && req != 0

/-- The completion of an install or derive: held or applied, with KEY_SLOT_STAT (R487). -/
def State.installKey (m n : Nat) (key : List Byte) (s : State) : Nat × List Nat × State :=
  let d := s.dev
  let lim := d.arg m 2 + 2 ^ 32 * bitsOf (d.arg m 3) 15 0
  match d.changeSlot n (.write key (instAttr (d.arg m 1) (mbReq m)) lim) with
  | (st, d') => (st, [d'.slotStat n], { s with dev := d' })

/-- The refusals of R489 that KEY_INSTALL and KEY_DERIVE share, for the slot written. -/
def Dev.installRefused (m n : Nat) (s : Dev) : Nat :=
  if n < 8 then 6
  else if s.arg m 2 + 2 ^ 32 * bitsOf (s.arg m 3) 15 0 = 0 ∨ bitsOf (s.arg m 1) 24 20 ≠ 0 then 3
  else if s.slotForeign n (mbReq m) then 6 else 0

/-- KEY_INSTALL's effect (R487, R489). -/
def State.keyInstall (m : Nat) (s : State) : Nat × List Nat × State :=
  let d := s.dev
  let n := bitsOf (d.arg m 0) 9 0
  let wrapped := (d.arg m 0).testBit 31
  if wrapped = false ∧ (d.lc = 3 ∨ d.lc = 4) then (6, [], s)
  else if d.installRefused m n ≠ 0 then (d.installRefused m n, [], s)
  else if (d.slot n).held.isSome then (1, [], s)
  else if wrapped = false then s.installKey m n (d.argBytes m 4 8)
  else
    match d.useKey 0 KA.wrap with
    | (0, d') =>
      let kek := (d.slot 0).key
      let ct := d.argBytes m 7 8
      let s := { s with dev := d' }
      if gcmTag kek (d.argBytes m 4 3) (d.argBytes m 0 4) ct = d.argBytes m 15 4 then
        s.installKey m n (gcmText kek (d.argBytes m 4 3) ct)
      else (0xA, [], s)
    | (1, d') => (9, [], { s with dev := d' })
    | (_, d') => (6, [], { s with dev := d' })

/-- KEY_INSTALL (R489). -/
def execKeyInstall (m : Nat) (s : State) : Host.Outcome State Fault Refusal :=
  .next (s.runCmd m 0x30 (State.keyCmd m (State.keyInstall m)))

/-- KEY_ERASE's effect (R487, R489). -/
def State.keyErase (m : Nat) (s : State) : Nat × List Nat × State :=
  let n := bitsOf (s.dev.arg m 0) 9 0
  if n < 8 ∨ s.dev.slotForeign n (mbReq m) = true then (6, [], s)
  else
    match s.dev.changeSlot n .erase with
    | (st, d) => (st, [d.slotStat n], { s with dev := d })

/-- KEY_ERASE (R487). -/
def execKeyErase (m : Nat) (s : State) : Host.Outcome State Fault Refusal :=
  .next (s.runCmd m 0x31 (State.keyCmd m (State.keyErase m)))

/-- KEY_DERIVE's effect (R489). -/
def State.keyDerive (m : Nat) (s : State) : Nat × List Nat × State :=
  let d := s.dev
  let dst := bitsOf (d.arg m 0) 25 16
  let src := bitsOf (d.arg m 0) 9 0
  if d.installRefused m dst ≠ 0 then (d.installRefused m dst, [], s)
  else if (d.slot dst).held.isSome then (1, [], s)
  else
    match d.useKey src KA.derive_ with
    | (0, d') =>
      State.installKey m dst (kmac256 (d.slot src).key (d.argBytes m 4 8) (ascii "FLIHOLT DERIVE")) { s with dev := d' }
    | (1, d') => (9, [], { s with dev := d' })
    | (_, d') => (6, [], { s with dev := d' })

/-- KEY_DERIVE (R489). -/
def execKeyDerive (m : Nat) (s : State) : Host.Outcome State Fault Refusal :=
  .next (s.runCmd m 0x32 (State.keyCmd m (State.keyDerive m)))

/-- The attestation record of R490, in words. -/
def Dev.attestRecord (m : Nat) (s : Dev) : List Nat :=
  [0x54414846, s.rd R.GLB_PART, s.rd R.GLB_SIREV, s.rd R.GLB_UID_LO, s.rd R.GLB_UID_HI,
    (s.arg m 0 % 2) * 2 ^ 24 + s.lc * 2 ^ 16 + s.rd R.BOOT_FLOOR % 128 * 2 ^ 8 + s.runSecVer,
    s.rd R.BOOT_EPOCH % 2 ^ 16 * 2 ^ 16, 0] ++
  (List.range 8).map (fun k => s.rd (R.BOOT_DIGEST k)) ++ (List.range 8).map (fun k => s.arg m (2 + k)) ++
  [s.rd R.TURN_CNT_LO, s.rd R.TURN_CNT_HI, 0, 0, 0, 0, 0, 0]

/-- ATTEST's effect (R490). -/
def State.attest (m : Nat) (s : State) : Nat × List Nat × State :=
  let d := s.dev
  let a := d.arg m 1
  if a % 8 ≠ 0 ∨ bankBase 60 < a + 2548 then (3, [], s)
  else if d.pwr.hostRel = false then (1, [], s)
  else
    let rec_ := (d.attestRecord m).flatMap (leBytes 4)
    let sig := takePad 2420 (Config.mldsaSign (d.slot (1 + d.arg m 0 % 2)).key rec_)
    (0, [2548], { s with bench := benchSet a (rec_ ++ sig) s.bench })

/-- ATTEST (R490). -/
def execAttest (m : Nat) (s : State) : Host.Outcome State Fault Refusal :=
  .next (s.runCmd m 0x33 (State.keyCmd m (State.attest m)))

/-- R495: whether an authorisation in the Bench holds for the defined arguments, with the owner indices that stay
unrevoked. -/
def State.authOk (a : Nat) (op : Nat) (args : List Nat) (ok0 ok1 : Bool) (s : State) : Bool :=
  let pk := benchBytes s.bench a 1312
  let sig := benchBytes s.bench (a + 1312) 2420
  let f := s.vault.fuses
  let kd := sha3_256 pk
  let msg := sha3_256 (ascii "FHAU" ++ s.dev.uid ++ [BitVec.ofNat 8 op] ++ args.flatMap (leBytes 4))
  ((ok0 && f.prog0 && !f.rev0 && khBytes f.kh0 == kd) || (ok1 && f.prog1 && !f.rev1 && khBytes f.kh1 == kd)) &&
    Config.mldsaVerify pk msg sig

/-- R492: the transitions that the state table allows. -/
def lcAllowed (old new : Nat) : Bool :=
  (old == 1 && (new == 2 || new == 3 || new == 5)) || (old == 2 && (new == 3 || new == 5)) ||
  (old == 3 && (new == 4 || new == 5)) || (old == 4 && new == 5)

/-- R497, R514: wipe all slots, the key cache and banks 60 to 63, which takes 1 µs. -/
def State.wipeKeys (s : State) : State :=
  { s with
    dev := { s.dev with keys := [], cache := [], wipeAt := some s.dev.time.frc }
    bench := benchWipe (bankBase 60) (bankBase 64) s.bench }

/-- LC_TRANSITION's effect (R493); `burnOk` is whether the fuses read back. -/
def State.lcTransition (m : Nat) (burnOk : Bool) (s : State) : Nat × List Nat × State :=
  let f := s.vault.fuses
  let t := bitsOf (s.dev.arg m 0) 3 0
  let a := s.dev.arg m 1
  if lcAllowed f.lc t = false then (3, [], s)
  else if s.dev.pins.vehMoving then (2, [], s)
  else if (t = 2 ∨ t = 3) ∧ (f.prog0 && !f.rev0 || f.prog1 && !f.rev1) = false then (2, [], s)
  else if (t = 4 ∨ (t = 5 ∧ f.lc = 3)) ∧ s.authOk a 0x34 [t] true true = false then (0xA, [], s)
  else if burnOk = false then (7, [], s)
  else
    let s := s.wipeKeys
    let f' := { f with lc := t }
    let d := s.dev.wr R.LCS_STATE (t + if lcDebug t then 0x100 else 0)
    (0, [d.rd R.LCS_STATE], { s with dev := { d with lcReset := true }, vault := { s.vault with fuses := f' } })

/-- LC_TRANSITION (R493). -/
def execLcTransition (m : Nat) (burnOk : Bool) (s : State) : Host.Outcome State Fault Refusal :=
  .next (s.runCmd m 0x34 (State.keyCmd m (State.lcTransition m burnOk)))

/-- LC_RESET (R493): 10 ms after a successful LC_TRANSITION the B960 resets itself as if PORST_N had been asserted. -/
def execLcReset (s : State) : Host.Outcome State Fault Refusal :=
  onDev (fun d => if d.lcReset then d.assertPorst else d) s

/-- OWNER_KEY's effect (R494). -/
def State.ownerKey (m : Nat) (burnOk : Bool) (s : State) : Nat × List Nat × State :=
  let d := s.dev
  let f := s.vault.fuses
  let revoke := (d.arg m 0).testBit 8
  let one := (d.arg m 0).testBit 0
  let dig := (List.range 8).map fun k => d.arg m (1 + k)
  let free := (if one then f.prog1 else f.prog0) = false
  let otherOk := if one then f.prog0 && !f.rev0 else f.prog1 && !f.rev1
  if revoke = false ∧ ¬ free then (2, [], s)
  else if revoke = true ∧ otherOk = false then (2, [], s)
  else if (f.lc = 3 ∨ f.lc = 4) ∧ s.authOk (d.arg m 9) 0x35 ((d.arg m 0 &&& 0x101) :: dig) (!(revoke && !one))
      (!(revoke && one)) = false then (0xA, [], s)
  else if burnOk = false then (7, [], s)
  else
    let ws := dig.map (BitVec.ofNat 32)
    let f' :=
      if revoke then (if one then { f with rev1 := true } else { f with rev0 := true })
      else if one then { f with kh1 := ws, prog1 := true } else { f with kh0 := ws, prog0 := true }
    let d' := d.showFuses f'
    (0, [d'.rd R.LCS_OWNER], { s with dev := d', vault := { s.vault with fuses := f' } })

/-- OWNER_KEY (R494). -/
def execOwnerKey (m : Nat) (burnOk : Bool) (s : State) : Host.Outcome State Fault Refusal :=
  .next (s.runCmd m 0x35 (State.keyCmd m (State.ownerKey m burnOk)))

/-- ENT_FAIL (R491): a health failure of the entropy source. -/
def execEntFail (s : State) : Host.Outcome State Fault Refusal :=
  onDev (fun d => ((d.inc C.KEY_ENT_FAIL).setBit R.KEY_STAT 2 true).raise 0x108000 2) s

/-- SLOT_UNCORR (R482): an uncorrectable error in a slot marks it. -/
def Dev.slotUncorr (n : Nat) (s : Dev) : Dev :=
  ((s.setSlot n { s.slot n with errored := true }).inc C.KEY_SLOT_UNCORR).raise 0x108000 1

end Sys2Proof.Machine
end

