-- ==== Sys2Proof/Machine/Headstock.lean ====
section
/-! DEFINITION. Headstock states, checkpoint and restart, the Bench and its atomic units, and the DRAM's error handling,
scrubber and clear (chapter 22). -/

namespace Sys2Proof.Machine

/-- TURN_CNT. -/
def Dev.turnCnt (s : Dev) : Nat := s.rd64 R.TURN_CNT_LO

/-- R502: a checkpoint writes TURN_CNT and empties the write log. -/
def Dev.checkpoint (s : Dev) : Dev :=
  let s := (s.wr64 R.HST_CKPT_TURN_LO s.turnCnt).add64 C.HST_CKPT_COUNT 1
  ({ s with hst := { s.hst with log := [] } }).wr R.HST_LOG_USED 0

/-- R502: a store that finds the log full forces a checkpoint first. -/
def Dev.checkpointExtra (s : Dev) : Dev :=
  let s := (s.wr64 R.HST_CKPT_TURN_LO s.turnCnt).inc C.HST_CKPT_EXTRA
  (({ s with hst := { s.hst with log := [] } }).wr R.HST_LOG_USED 0).raise 0x120000 1

/-- CKPT_EXTRA (R502): a store of the Headstock finds the write log full. -/
def execCkptExtra (s : State) : Host.Outcome State Fault Refusal :=
  onDev (fun s => if 65536 ≤ s.hst.log.length then s.checkpointExtra else s) s

/-- R502: record the old value of a Bench word that the Headstock stores to. -/
def Dev.logStore (word : Nat) (old : List Byte) (s : Dev) : Dev :=
  let s := if 65536 ≤ s.hst.log.length then s.checkpointExtra else s
  ({ s with hst := { s.hst with log := (word, old) :: s.hst.log } }).wr R.HST_LOG_USED (s.hst.log.length + 1)

/-- RULE table 5: the staged zone map. -/
def T.zoneStaged : Nat := 0x415

/-- R246: a ZONE_SET of mailbox m is taken back: its entries are restored and the check that it waits for stops. -/
def Dev.zoneUndo (m : Nat) (s : Dev) : Dev :=
  let s := forL (s.mb m).undo (fun u s => (s.setTab T.zoneStaged u.1 0 u.2.toNat).jrnTable 0x41 0 5 u.1 [u.2.toNat]) s
  if s.lk.zoneWait = some m then { s.setBit R.RULE_STAT 2 false with lk := { s.lk with zoneWait := none } } else s

/-- A mailbox command that is executing, and so short of its completion point, runs again from its start (R502); a ZONE_SET is
first taken back, as an abort takes it back. (DESIGN CHOICE, log entry 121.) -/
def Dev.requeueTaken (s : Dev) : Dev :=
  let ms := (List.range 4).filter fun m => (s.mb m).taken
  let s := forL (ms.filter fun m => s.cmbOp m == 0x20) Dev.zoneUndo s
  let s := forL ms (fun m s => s.setMb m { s.mb m with taken := false, undo := [] }) s
  { s with bells := ms ++ s.bells.filter fun m => !ms.contains m }

/-- R503, R569: HALTED, SAFE_N low, SAFE_ENTRY; a halted standby enters DIVERGED. -/
def Dev.haltHst (s : Dev) : Dev :=
  let s := if s.pairState = 2 then s.pairGoto 3 else s
  let s := (((s.requeueTaken).setFld R.HST_STAT 31 28 2).safety 4).stepLine 0
  { s with pins := { s.pins with safe := false } }

/-- R503: the turn edges since a restart completed are within ESC_TURNS. -/
def Dev.inEscWindow (s : Dev) : Bool :=
  match s.hst.sinceRestart with
  | none => false
  | some n => decide (n < max 1 (s.fld R.HST_CTRL 15 8))

/-- LOCKSTEP_MISMATCH (R500, R501, R503): the comparator fails on a unit while the cores run; the MGMT line goes low. -/
def execLockstepMismatch (unit : Nat) (s : State) : Host.Outcome State Fault Refusal :=
  onDev (fun s =>
    if s.fld R.HST_STAT 31 28 = 0 ∧ s.stage = 0xA then
      let esc := s.inEscWindow
      let s := ((s.safety 0).inc C.HST_LOCKSTEP_CNT).wr R.HST_MISMATCH (2 ^ 31 + unit % 16)
      if esc then s.haltHst else (s.requeueTaken.setFld R.HST_STAT 31 28 1).stepLine 0
    else s) s

/-- Undo the write log, newest entry first (R502). -/
def undoLog : List (Nat × List Byte) → SMap Byte → SMap Byte
  | [], b => b
  | (a, old) :: l, b => undoLog l (benchSet a old b)

/-- HST_RESTARTED (R502, R503, R448): the restart ends after `us` microseconds and the MGMT target's active source is released
(DEDUCED, log entry 124), or its self-test or a read fails. -/
def execHstRestarted (ok : Bool) (us : Nat) (s : State) : Host.Outcome State Fault Refusal :=
  if s.dev.fld R.HST_STAT 31 28 ≠ 1 then .next s
  else if ok = false then .next { s with dev := s.dev.haltHst }
  else
    let d := s.dev
    let d' := ((d.setFld R.HST_STAT 31 28 0).inc C.HST_RESTART_CNT).raise 0x120000 0
    let d' := (d'.wr R.HST_RESTART_US (us % 2 ^ 16)).wr R.HST_LOG_USED 0
    .next { s with
      dev := Dev.intcRelease 0 { d' with hst := { d.hst with log := [], sinceRestart := some 0 } }
      bench := undoLog d.hst.log s.bench }

/-- The Bench's bank of an address (R505). -/
def bankOf (a : Nat) : Nat := a / 0x10000

/-- The bank port of a requester (chapter 22, Bench): HST, CPE, PCIe bridge, DMA. -/
def portOf : Req → Nat
  | .hst => 0 | .cpe => 1 | .dma => 3 | _ => 2

/-- R506, R508: who may write an address of the Bench. -/
def Dev.benchMayWrite (s : Dev) (r : Req) (a : Nat) : Bool :=
  if 60 ≤ bankOf a then r == .hst || r == .cpe
  else r == .hst || r == .cpe || r == .dma || s.fld (R.BENCH_OWN (bankOf a)) 3 0 == r.id

/-- R508: who may read an address of the Bench. -/
def benchMayRead (r : Req) (a : Nat) : Bool := decide (bankOf a < 60) || r == .hst || r == .cpe

/-- The path of a Bench access is open: the bridge after host release, the others while PD2 is on (R46, R114). -/
def Dev.benchReach (s : Dev) (r : Req) : Bool :=
  s.pins.porst && s.stage == 0xA && (s.pwr.phase == .active || s.pwr.phase == .restEntry || s.pwr.phase == .sleepEntry) &&
  (match r with
   | .hosta | .hostb => s.pwr.hostRel
   | .debug => lcDebug s.lc
   | .hst => s.fld R.HST_STAT 31 28 == 0
   | _ => true)

/-- R511: the busy line of a port drives its debug pin for each BUSY, where BENCH_DBG enables it. -/
def Dev.busyPin (port n : Nat) (s : Dev) : Dev :=
  if s.bit R.BENCH_DBG 31 = true ∧ 0 < n then s.emit (.pins "GPIO" [28 + port, n]) else s

/-- R510: an access that received BUSY `n` times: each counts, and the seventeenth fails. -/
def Dev.benchBusy (port n : Nat) (s : Dev) : Bool × Dev :=
  let s := (s.add64 C.BENCH_BUSY_CNT (min n 17)).busyPin port (min n 17)
  if n < 17 then (true, s)
  else
    let c := if port = 0 then C.BENCH_RETRY_FAIL_HST else if port = 1 then C.BENCH_RETRY_FAIL_CPE
      else if port = 2 then C.BENCH_RETRY_FAIL_BRIDGE else C.BENCH_RETRY_FAIL_DMA
    (false, (s.inc c).raise 0x110000 0)

/-- R513: an uncorrectable Bench word, fatal in banks 60 to 63. -/
def Dev.benchUncorr (a : Nat) (s : Dev) : Dev :=
  let s := (s.inc C.BENCH_UNCORR).raise 0x110000 1
  let s := s.wr R.BENCH_ERR_INFO (2 ^ 31 + a / 8 * 8)
  if 60 ≤ bankOf a then (s.safety 1).haltHst else s

/-- The bytes of a Bench read by a requester: a secure bank's read zero to whom R508 bars (R505, R508). -/
def benchSeen (r : Req) (b : SMap Byte) (a n : Nat) : List Byte :=
  (List.range n).map fun i => if benchMayRead r (a + i) then benchByte b (a + i) else 0

/-- A Bench read leaves all its bytes in `rbytes` and the first eight in `rdata`. -/
def Dev.answerBytes (bs : List Byte) (s : Dev) : Dev := { s.answer (leNat (bs.take 8)) with rbytes := bs }

/-- n free bytes as an answer (R509, R513). -/
def Dev.answerFree (n : Nat) (s : Dev) : Dev :=
  Dev.answerBytes ((List.range n).map fun i => (Config.freeWord (s.free + i)).setWidth 8) { s with free := s.free + n }

/-- BENCH_READ (R505, R508, R509, R510, R513): `n` bytes from an address of the Bench by a requester, after `busy` BUSY
results, the word found whole (0), corrected (1) or uncorrectable (2). The answer of a failed retry through the bridge is
all ones; a poisoned answer and a bus error are drawn free. (DESIGN CHOICE, log entry 28.) (DESIGN CHOICE, log entry 96.) -/
def execBenchRead (r : Req) (addr : BitVec 22) (n busy ecc : Nat) (s : State) : Host.Outcome State Fault Refusal :=
  let a := addr.toNat
  if 0x400000 < a + n then .fault .benchAddress
  else if s.dev.benchReach r = false ∨ benchMayRead r a = false then
    .next { s with dev := s.dev.answerBytes (List.replicate n 0) }
  else
    match s.dev.benchBusy (portOf r) busy with
    | (false, d) =>
      .next { s with dev := if portOf r = 2 then d.answerBytes (List.replicate n 0xFF) else d.answerFree n }
    | (true, d) =>
      if ecc = 2 then .next { s with dev := (d.benchUncorr a).answerFree n }
      else
        let d := if ecc = 1 then d.inc C.BENCH_CORR else d
        .next { s with dev := d.answerBytes (benchSeen r s.bench a n) }

/-- The words that an access of n bytes touches, in ascending order (R505). -/
def benchWords (a n : Nat) : List Nat :=
  if n = 0 then [] else (List.range ((a + n - 1) / 8 - a / 8 + 1)).map fun i => a / 8 + i

/-- R514: banks 60 to 63 are being wiped: 1 µs has not passed since the wipe began. -/
def Dev.wiping (s : Dev) : Bool :=
  match s.wipeAt with
  | none => false
  | some f => !s.passed f 1000

/-- A Bench write by words, in ascending order; the Headstock's words are logged, and what falls in a bank being wiped has no
effect (R502, R505, R514). -/
def State.benchStore (r : Req) (a : Nat) (bs : List Byte) (s : State) : State :=
  let bs := if s.dev.wiping then bs.take (bankBase 60 - a) else bs
  let d := if r = .hst then
    forL (benchWords a bs.length) (fun w d => d.logStore (8 * w) (benchBytes s.bench (8 * w) 8)) s.dev else s.dev
  { s with dev := d, bench := benchSet a bs s.bench }

/-- The bytes of a write at `a` that fall into word w, with their address (R505). -/
def wordPart (a : Nat) (bs : List Byte) (w : Nat) : Nat × List Byte :=
  (max a (8 * w), (bs.take (8 * w + 8 - a)).drop (8 * w - a))

/-- BENCH_WRITE (R505 to R510, R514): each word that its writer may not write counts OWN_REFUSED; a write that fails its retries is
discarded. -/
def execBenchWrite (r : Req) (addr : BitVec 22) (bytes : List Byte) (busy : Nat) (s : State) :
    Host.Outcome State Fault Refusal :=
  let a := addr.toNat
  let ws := benchWords a bytes.length
  if 0x400000 < a + bytes.length then .fault .benchAddress
  else if s.dev.benchReach r = false then .next s
  else
    let no := ws.filter fun w => !s.dev.benchMayWrite r (8 * w)
    let d := forL no (fun _ d => d.inc C.BENCH_OWN_REFUSED) s.dev
    if no.length = ws.length then .next { s with dev := d }
    else
      match d.benchBusy (portOf r) busy with
      | (false, d) => .next { s with dev := d }
      | (true, d) =>
        if no = [] then .next (State.benchStore r a bytes { s with dev := d })
        else .next (forL (ws.filter fun w => s.dev.benchMayWrite r (8 * w))
          (fun w t => State.benchStore r (wordPart a bytes w).1 (wordPart a bytes w).2 t) { s with dev := d })

/-- R507: a write to BENCH_OWNn. -/
def Dev.benchOwnWrite (r : Req) (n v : Nat) (s : Dev) : Dev :=
  if 60 ≤ n then s
  else
    let o := R.BENCH_OWN n
    if s.bit o 31 = false ∧ (r = .hst ∨ s.fld o 3 0 = r.id) then s.wr o (2 ^ 31 + ownVal v)
    else s.inc C.BENCH_OWN_REFUSED

/-- BENCH_OWN_WRITE (R507). The write passes R63 first, and the bank's owner or HST alone hands the bank over. -/
def execBenchOwnWrite (r : Req) (n v : Nat) (s : State) : Host.Outcome State Fault Refusal :=
  onDev (fun s => if n < 64 then s.guarded r (R.BENCH_OWN n) (Dev.benchOwnWrite r n v) else s) s

/-- HANDOVER_DONE (R507): the old owner's accepted writes have reached bank n. -/
def execHandoverDone (n : Nat) (s : State) : Host.Outcome State Fault Refusal :=
  onDev (fun s => if n < 60 ∧ s.bit (R.BENCH_OWN n) 31 = true then
    (s.setBit (R.BENCH_OWN n) 31 false).raise 0x110000 2 else s) s

/-- R512: one atomic operation of unit r, with `busy` BUSY results before it is performed. -/
def State.atomic (r : Req) (op busy : Nat) (s : State) : State :=
  let i := r.id
  let d := s.dev
  let a := d.fld (R.ATOM_ADDR i) 21 3 * 8
  let opnd := d.rd64 (R.ATOM_OPND_LO i)
  if d.benchMayWrite r a = false then
    { s with dev := (d.inc C.BENCH_OWN_REFUSED).wr (R.ATOM_CMD i) (0x060000 + op) }
  else
    match d.benchBusy (portOf r) busy with
    | (false, d) => { s with dev := d.wr (R.ATOM_CMD i) (0x010000 + op) }
    | (true, d) =>
      let old := leNat (benchBytes s.bench a 8)
      let hit := op == 3 && old == d.rd64 (R.ATOM_CMP_LO i)
      let new := if op = 1 then (old + opnd) % 2 ^ 64 else if op = 2 ∨ hit = true then opnd else old
      let d := (d.wr64 (R.ATOM_OLD_LO i) old).wr (R.ATOM_CMD i) ((if hit then 2 ^ 30 else 0) + op)
      if op = 3 ∧ hit = false then { s with dev := d }
      else State.benchStore r a (leBytes 8 new) { s with dev := d }

/-- R512: an OP write by the unit's own requester starts the operation, which completes within the write. -/
def State.atomicWrite (r : Req) (op busy : Nat) (s : State) : State :=
  if 5 ≤ r.id ∨ s.dev.reach r (R.ATOM_CMD r.id) = false ∨ s.dev.benchReach r = false then s
  else if s.dev.mayWrite r (R.ATOM_CMD r.id) = false then { s with dev := s.dev.viol (R.ATOM_CMD r.id) }
  else if hostLike r = true ∧ s.dev.notActive = true then { s with dev := s.dev.inc C.PAIR_CFG_WR_REFUSED }
  else s.atomic r op busy

/-- ADD (R512). -/
def execAdd (r : Req) (busy : Nat) (s : State) : Host.Outcome State Fault Refusal := .next (s.atomicWrite r 1 busy)
/-- SWAP (R512). -/
def execSwap (r : Req) (busy : Nat) (s : State) : Host.Outcome State Fault Refusal := .next (s.atomicWrite r 2 busy)
/-- CAS (R512). -/
def execCas (r : Req) (busy : Nat) (s : State) : Host.Outcome State Fault Refusal := .next (s.atomicWrite r 3 busy)

/-- R517: a corrected DRAM read. -/
def Dev.dramCorr (region word : Nat) (s : Dev) : Dev :=
  let s := s.add64 C.DRAM_CORR 1
  if s.bit R.DRAM_CORR_INFO 31 then s else s.wr R.DRAM_CORR_INFO (2 ^ 31 + region % 8 * 2 ^ 28 + word % 2 ^ 24)

/-- R517: an uncorrectable DRAM read of a region; in the HST region it is fatal (R513). -/
def Dev.dramUncorr (region word : Nat) (s : Dev) : Dev :=
  let c := if region = 0 then C.DRAM_UNCORR_FLOW else if region = 1 then C.DRAM_UNCORR_DEEP
    else if region = 2 then C.DRAM_UNCORR_CAPTURE else if region = 3 then C.DRAM_UNCORR_SHADOW else C.DRAM_UNCORR_HST
  let s := (s.inc c).raise 0x118000 0
  let s := if s.bit R.DRAM_UNCORR_INFO 31 then s
    else s.wr R.DRAM_UNCORR_INFO (2 ^ 31 + region % 8 * 2 ^ 28 + word % 2 ^ 24)
  if region = 4 then (s.safety 1).haltHst else s

/-- A codeword of the SHADOW region: its layout is not stated, so which one holds an entry is a free value. (DESIGN CHOICE, log
entry 120.) -/
def Dev.shadowWord (s : Dev) : Nat × Dev := (0xE00000 + s.draw.1.toNat % 2 ^ 20, s.draw.2)

/-- The region of a codeword (R515, R516). -/
def dramRegion (cw : Nat) : Nat :=
  let a := 32 * cw
  if a < 0x10000000 then 0 else if a < 0x18000000 then 1 else if a < 0x1C000000 then 2
  else if a < 0x1E000000 then 3 else 4

/-- DRAM_SCRUB (R518): the scrubber reads the next codeword, found whole (0), corrected (1) or uncorrectable (2). -/
def execDramScrub (ecc : Nat) (s : State) : Host.Outcome State Fault Refusal :=
  onDev (fun s =>
    if s.bit R.DRAM_SCRUB_CFG 31 = true ∧ s.bit R.DRAM_STAT 0 = true ∧ s.bit R.DRAM_STAT 1 = false then
      let cw := s.rd R.DRAM_SCRUB_POS
      let g := dramRegion cw
      let s := if ecc = 1 then s.dramCorr g cw else if ecc = 2 then s.dramUncorr g cw else s
      let s := if s.rd R.DRAM_CORR_THRESH < (s.rd64 C.DRAM_CORR + 2 ^ 64 - s.dram.sweepBase) % 2 ^ 64 ∧
          s.dram.high = false then
        ({ s with dram := { s.dram with high := true } }).raise 0x118000 1 else s
      if cw + 1 < 2 ^ 24 then s.wr R.DRAM_SCRUB_POS (cw + 1)
      else
        let s := (s.wr R.DRAM_SCRUB_POS 0).add64 C.SCRUB_SWEEPS 1
        { s with dram := { sweepBase := s.rd64 C.DRAM_CORR, high := false } }
    else s) s

/-- DRAM_CLEARED (R519): the background clear ends. -/
def execDramCleared (s : State) : Host.Outcome State Fault Refusal :=
  onDev (fun s => if s.bit R.DRAM_STAT 2 then (s.setBit R.DRAM_STAT 2 false).raise 0x118000 2 else s) s

/-- MEMORY_STAGE_DONE (R111, R514, R519, R92): DRAM trained and its clear begun, all banks wiped; a link failure sets
LINE_WARN; FLASH_HOLD leads to HELD with the xSPI pins floating. -/
def execMemoryStageDone (dramOk linkOk : Bool) (s : State) : Host.Outcome State Fault Refusal :=
  if s.dev.atStage 2 = false then .next s
  else if dramOk = false then .next { s with dev := s.dev.bootStop 0xF 0x0E }
  else
    let d := (s.dev.setBit R.DRAM_STAT 0 true).setBit R.DRAM_STAT 2 true
    let d := if linkOk then d else d.setBit R.BOOT_STAT 11 true
    let d := { d with pwr := { d.pwr with dieLink := linkOk } }
    let d := if d.fld R.BOOT_STRAP 1 0 = 3 then
      { d.bootStop 0xB 0x01 with pins := { d.pins with xspiHiz := true } } else d.setStage 3
    .next { s with dev := d, bench := [] }

end Sys2Proof.Machine
end

