-- ==== Sys2Proof/Machine/Cipher.lean ====
section
/-! DEFINITION. The cipher engine (chapter 20): inline MACsec, CAN protection and the look-aside pages. -/

namespace Sys2Proof.Machine

/-- Table numbers of the CPE window: SecY, receive SCs, transmit SAs, receive SAs, CAN protection, port counters. -/
def T.secy : Nat := 0x600
/-- Receive SCs. -/
def T.rxSc : Nat := 0x601
/-- Transmit SAs. -/
def T.txSa : Nat := 0x602
/-- Receive SAs. -/
def T.rxSa : Nat := 0x603
/-- CAN protection list. -/
def T.canSec : Nat := 0x604
/-- Port MACsec counters. -/
def T.secCnt : Nat := 0x605

/-- The key of an entry of a CPE table in `Dev.marks` and `Dev.cpeBad`. -/
def cpeKey (t i : Nat) : Nat := t * 2 ^ 16 + i

/-- Set the mark of an entry, until it is written again: answers whether it was new (R464, R470). -/
def Dev.markOnce (t i : Nat) (s : Dev) : Bool × Dev :=
  if s.marks.contains (cpeKey t i) then (false, s) else (true, { s with marks := cpeKey t i :: s.marks })

/-- A write of an entry of a CPE table: its marks and an uncorrectable word go with the old contents. -/
def Dev.cpeFresh (t i : Nat) (s : Dev) : Dev :=
  { s with marks := s.marks.filter (· != cpeKey t i), cpeBad := s.cpeBad.filter (· != cpeKey t i) }

/-- Chapter 20: an entry known uncorrectable acts as not VALID. (DESIGN CHOICE, log entry 120.) -/
def Dev.cpeValid (s : Dev) (t i : Nat) : Bool := s.tfld t i 0 31 31 == 1 && !s.cpeBad.contains (cpeKey t i)

/-- Chapter 20: an entry is read: an uncorrectable one counts and raises CPE_UNCORR. -/
def Dev.cpeRead (t i : Nat) (s : Dev) : Dev :=
  if s.cpeBad.contains (cpeKey t i) then (s.inc C.CPE_UNCORR).raise 0xF0000 6 else s

/-- NO_RNG (R458). -/
def Dev.noRng (s : Dev) : Bool := s.bit R.CPE_STAT 2

/-- R479: add one to a saturating counter of a port; its SAT bit and COUNTER_SAT at all ones. -/
def Dev.secInc (n w : Nat) (s : Dev) : Dev :=
  let v := s.tab T.secCnt n w
  if v = 0xFFFFFFFF ∨ s.frozen 0xF0000 = true then s
  else
    let s := s.setTab T.secCnt n w (v + 1)
    if v + 1 = 0xFFFFFFFF ∧ s.tfld T.secCnt n 11 (w - 4) (w - 4) = 0 then
      (s.setTfld T.secCnt n 11 (w - 4) (w - 4) 1).raise 0xF0000 8 else s

/-- R479: add one to a 64-bit counter of a port. -/
def Dev.secInc64 (n w : Nat) (s : Dev) : Dev :=
  if s.frozen 0xF0000 then s
  else
    let v := s.tab T.secCnt n w + 2 ^ 32 * s.tab T.secCnt n (w + 1) + 1
    (s.setTab T.secCnt n w v).setTab T.secCnt n (w + 1) (v / 2 ^ 32)

/-- The EtherType at offset 12. -/
def etype12 (bs : List Byte) : Nat := beNat ((bs.drop 12).take 2)

/-- R463, R465: the bypass EtherTypes of a port's SecY. -/
def Dev.secBypass (s : Dev) (n : Nat) (bs : List Byte) : Bool :=
  let e := etype12 bs
  e == 0x888E || (e != 0 && (e == s.tfld T.secy n 4 15 0 || e == s.tfld T.secy n 4 31 16))

/-- A cipher suite key out of its slot (R456). -/
def suiteKey (suite : Nat) (key : List Byte) : List Byte := if suite % 2 = 1 then key else key.drop 16

/-- The GCM IV of a frame (802.1AE): SCI and PN, or SSCI and PN under the salt for the XPN suites. -/
def secIv (suite : Nat) (sci : List Byte) (ssci : Nat) (salt : List Byte) (pn : Nat) : List Byte :=
  if suite < 2 then sci ++ beBytes 4 pn else xorBytes salt (beBytes 4 ssci ++ beBytes 8 pn)

/-- The confidentiality offset in bytes (R460). -/
def confOff (c : Nat) : Nat := if c = 1 then 30 else if c = 2 then 50 else 0

/-- NEXT_PN of an SA entry. -/
def Dev.saPn (s : Dev) (t i : Nat) : Nat := s.tab t i 1 * 2 ^ 32 + s.tab t i 2

/-- Store NEXT_PN. -/
def Dev.setSaPn (t i pn : Nat) (s : Dev) : Dev := (s.setTab t i 1 (pn / 2 ^ 32)).setTab t i 2 pn

/-- The salt of an SA entry, most significant word first. -/
def Dev.saSalt (s : Dev) (t i : Nat) : List Byte :=
  beBytes 4 (s.tab t i 4) ++ beBytes 4 (s.tab t i 5) ++ beBytes 4 (s.tab t i 6)

/-- The PN limit of a suite (R464). -/
def pnLimit (suite : Nat) : Nat := if suite < 2 then 2 ^ 32 - 1 else 2 ^ 64 - 1

/-- The parts a protected frame is made of: AAD and text under the confidentiality offset. -/
def secSplit (conf : Bool) (off : Nat) (hdr body : List Byte) : List Byte × List Byte :=
  if conf then (hdr ++ body.take off, body.drop off) else (hdr ++ body, [])

/-- How many bytes MACsec adds to a copy of a port (R463, R346). -/
def Dev.secOverhead (s : Dev) (n : Nat) : Nat :=
  if n < 28 ∧ s.tfld T.secy n 0 31 31 = 1 then 24 + (if s.tfld T.secy n 0 20 20 = 1 then 8 else 0) else 0

/-- R463, R464: the egress engine of a port on a copy without FCS; none when the copy is dropped. (DEDUCED, log entry 30.) -/
def Dev.secProtect (n : Nat) (bs : List Byte) (s : Dev) : Option (List Byte) × Dev :=
  if 28 ≤ n ∨ s.tfld T.secy n 0 31 31 = 0 ∨ s.secBypass n bs = true then (some bs, s)
  else if s.noRng then (none, s.inc C.CPE_NO_RNG)
  else
    let suite := s.tfld T.secy n 0 23 22
    let an := s.tfld T.secy n 0 17 16
    let i := 4 * n + an
    let conf := s.tfld T.secy n 0 27 27 == 1
    let sc := s.tfld T.secy n 0 20 20 == 1
    let s := s.cpeRead T.txSa i
    if s.cpeValid T.txSa i = false then (none, s.secInc n 4)
    else if s.rd (R.ETH_MAX_FRAME n) < bs.length + 4 + s.secOverhead n then (none, s.inc C.CPE_TX_TOO_LONG)
    else if pnLimit suite < s.saPn T.txSa i then
      let s := s.secInc n 5
      (none, if (s.markOnce T.txSa i).1 then (s.markOnce T.txSa i).2.raise 0xF0000 1 else s)
    else if (s.slot (s.tfld T.txSa i 0 9 0)).held.isSome then (none, s.inc C.CPE_KEY_REFUSED)
    else
      match s.useKey (s.tfld T.txSa i 0 9 0) KA.macsec with
      | (1, s) => (none, s.inc C.CPE_KEY_SPENT_DROP)
      | (2, s) => (none, s.inc C.CPE_KEY_REFUSED)
      | (_, s) =>
        let pn := s.saPn T.txSa i
        let s := s.setSaPn T.txSa i (pn + 1)
        let s := if pnLimit suite ≤ pn + s.rd R.CPE_PN_MARGIN + 1 ∧ s.tfld T.txSa i 0 30 30 = 0 then
          (s.setTfld T.txSa i 0 30 30 1).raise 0xF0000 0 else s
        let sci := beBytes 4 (s.tab T.secy n 1) ++ beBytes 4 (s.tab T.secy n 2)
        let body := bs.drop 12
        let tci := (if sc then 0x20 else 0) + (if conf then 0x0C else 0) + an
        let sl := if body.length < 48 then body.length else 0
        let tag := [0x88, 0xE5, BitVec.ofNat 8 tci, BitVec.ofNat 8 sl] ++ beBytes 4 pn ++ (if sc then sci else [])
        let key := suiteKey suite (s.slot (s.tfld T.txSa i 0 9 0)).key
        let iv := secIv suite sci (s.tab T.txSa i 3) (s.saSalt T.txSa i) pn
        let p := secSplit conf (confOff (s.tfld T.secy n 0 26 25)) (bs.take 12 ++ tag) body
        let ct := gcmText key iv p.2
        (some (p.1 ++ ct ++ gcmTag key iv p.1 ct), s.secInc64 n 0)

/-- A SecTAG as 802.1AE lays it out. -/
structure SecTag where
  e : Bool
  c : Bool
  sc : Bool
  es : Bool
  scb : Bool
  an : Nat
  sl : Nat
  pn : Nat
  sci : List Byte
  len : Nat
  deriving DecidableEq, Repr

/-- The SecTAG of a frame without FCS; none when it is malformed. -/
def parseSecTag (xpn : Bool) (bs : List Byte) : Option SecTag :=
  let tci := ((bs.getD 14 0)).toNat
  let sc := tci.testBit 5
  let len := if sc then 16 else 8
  let sl := ((bs.getD 15 0)).toNat
  let pn := beNat ((bs.drop 16).take 4)
  let body := bs.length - (12 + len + 16)
  if bs.length < 12 + len + 16 ∨ tci.testBit 7 = true ∨ (sc = true ∧ (tci.testBit 6 = true ∨ tci.testBit 4 = true)) ∨
      48 ≤ sl ∨ (sl ≠ 0 ∧ body < sl) ∨ (sl = 0 ∧ body < 48) ∨ (pn = 0 ∧ xpn = false) then none
  else some { e := tci.testBit 3, c := tci.testBit 2, sc := sc, es := tci.testBit 6, scb := tci.testBit 4, an := tci % 4,
              sl := sl, pn := pn, sci := (bs.drop 20).take 8, len := len }

/-- The valid receive SCs of a port, lowest index first. -/
def Dev.rxScs (s : Dev) (n : Nat) : List Nat := (List.range 16).filter fun i => s.cpeValid T.rxSc (16 * n + i)

/-- R461: the receive SC of a frame. -/
def Dev.findSc (s : Dev) (n : Nat) (t : SecTag) (sa : List Byte) : Option Nat :=
  let scs := s.rxScs n
  let bySci (x : List Byte) := scs.find? fun i =>
    beBytes 4 (s.tab T.rxSc (16 * n + i) 1) ++ beBytes 4 (s.tab T.rxSc (16 * n + i) 2) == x
  if t.sc then bySci t.sci
  else if t.es then bySci (sa ++ (if t.scb then [0, 0] else [0, 1]))
  else scs.head?

/-- R466: the 64-bit PN of an XPN frame from its low 32 bits. -/
def recoverPn (next low : Nat) : Nat :=
  let hi := next / 2 ^ 32
  if 2 ^ 31 ≤ next % 2 ^ 32 ∧ low < 2 ^ 31 then (hi + 1) * 2 ^ 32 + low else hi * 2 ^ 32 + low

/-- A frame with SecTAG and ICV removed and not decrypted. -/
def secStrip (t : SecTag) (bs : List Byte) : List Byte :=
  let body := (bs.drop (12 + t.len)).take (bs.length - (12 + t.len + 16))
  bs.take 12 ++ (if t.sl = 0 then body else body.take t.sl)

/-- R465 to R467: the ingress engine of a port on a frame without FCS; none when the frame is dropped. -/
def Dev.secVerify (n : Nat) (bs : List Byte) (s : Dev) : Option (List Byte) × Dev :=
  let check := s.tfld T.secy n 0 29 28 == 1
  if 28 ≤ n ∨ s.tfld T.secy n 0 30 30 = 0 then (some bs, s)
  else if etype12 bs ≠ 0x88E5 then
    if s.secBypass n bs then (some bs, s)
    else (if check then some bs else none, s.secInc n 10)
  else if s.noRng then (none, s.inc C.CPE_NO_RNG)
  else
    let suite := s.tfld T.secy n 0 23 22
    match parseSecTag (decide (2 ≤ suite)) bs with
    | none => (none, s.secInc n 10)
    | some t =>
      let s := forN 16 (fun i s => s.cpeRead T.rxSc (16 * n + i)) s
      let lax : Option (List Byte) := if check && !t.e then some (secStrip t bs) else none
      match s.findSc n t ((bs.drop 6).take 6) with
      | none => (lax, s.secInc n 7)
      | some sc =>
        let i := 4 * (16 * n + sc) + t.an
        let s := s.cpeRead T.rxSa i
        if s.cpeValid T.rxSa i = false then (lax, s.secInc n 8)
        else
          let next := s.saPn T.rxSa i
          let pn := if suite < 2 then t.pn else recoverPn next t.pn
          if s.tfld T.secy n 0 19 19 = 1 ∧ pn < next - s.tab T.secy n 3 then (none, s.secInc n 9)
          else if (s.slot (s.tfld T.rxSa i 0 9 0)).held.isSome then (none, s.inc C.CPE_KEY_REFUSED)
          else
            match s.useKey (s.tfld T.rxSa i 0 9 0) KA.macsec with
            | (1, s) => (none, s.inc C.CPE_KEY_SPENT_DROP)
            | (2, s) => (none, s.inc C.CPE_KEY_REFUSED)
            | (_, s) =>
              let sci := beBytes 4 (s.tab T.rxSc (16 * n + sc) 1) ++ beBytes 4 (s.tab T.rxSc (16 * n + sc) 2)
              let key := suiteKey suite (s.slot (s.tfld T.rxSa i 0 9 0)).key
              let iv := secIv suite sci (s.tab T.rxSa i 3) (s.saSalt T.rxSa i) pn
              let hdr := bs.take (12 + t.len)
              let full := (bs.drop (12 + t.len)).take (bs.length - (12 + t.len + 16))
              let body := if t.sl = 0 then full else full.take t.sl
              let icv := (bs.drop (bs.length - 16)).take 16
              let off := confOff (s.tfld T.secy n 0 26 25)
              let p := secSplit t.e off hdr body
              if gcmTag key iv p.1 p.2 ≠ icv then (lax, s.secInc n 6)
              else
                let s := if next < pn + 1 then s.setSaPn T.rxSa i (pn + 1) else s
                let plain := if t.e then body.take off ++ gcmText key iv p.2 else body
                (some (bs.take 12 ++ plain), s.secInc64 n 2)

/-- R469: the protection entry that a frame of a channel selects; `kind` 0 by IDE and identifier, 1 by VCID. -/
def Dev.canSecEntry (s : Dev) (chan kind ide id : Nat) : Option Nat :=
  (List.range 1024).find? fun i =>
    s.cpeValid T.canSec i && s.tfld T.canSec i 0 29 24 == chan && s.tfld T.canSec i 0 30 30 == kind &&
    (if kind = 0 then s.tfld T.canSec i 1 31 31 == ide && s.tfld T.canSec i 1 28 0 == id
     else s.tfld T.canSec i 1 7 0 == id)

/-- R487: the slot of the entry that a frame selects holds a change, and the frame's use of it waits. -/
def Dev.canSecWaits (s : Dev) (chan kind ide id : Nat) : Bool :=
  match s.canSecEntry chan kind ide id with
  | none => false
  | some i => (s.slot (s.tfld T.canSec i 0 9 0)).held.isSome

/-- Chapter 20: the entries of a channel that are known uncorrectable, met by a lookup. -/
def Dev.canSecRead (chan : Nat) (s : Dev) : Dev :=
  if s.cpeBad = [] then s
  else forL ((List.range 1024).filter fun i => s.tfld T.canSec i 0 29 24 == chan) (fun i s => s.cpeRead T.canSec i) s

/-- MAC_LEN and the freshness length of an entry (R469). -/
def Dev.canMacLen (s : Dev) (i : Nat) : Nat :=
  let m := s.tfld T.canSec i 0 23 20
  if m = 0 then 16 else if m < 4 then 4 else m
/-- f of R470. -/
def Dev.canFvLen (s : Dev) (i : Nat) : Nat := if s.tfld T.canSec i 0 16 16 = 1 then 4 else s.tfld T.canSec i 0 18 17

/-- The AES key that the CAN protection and the look-aside engine take from a slot (R456, DESIGN CHOICE, log entry 7). -/
def wholeSlotKey (key : List Byte) : List Byte := if Config.wholeKey then key else key.drop 16

/-- The CMAC input of R470. -/
def canMacInput (ide id : Nat) (data : List Byte) (fv : Nat) : List Byte :=
  beBytes 4 (ide * 2 ^ 31 + id) ++ data ++ beBytes 4 fv

/-- Zero bytes up to the next valid payload length of the format (R470). -/
def padCan (fd : Bool) (p : List Byte) : List Byte :=
  if fd then
    match [8, 12, 16, 20, 24, 32, 48, 64].find? fun n => p.length ≤ n with
    | some n => if p.length ≤ 8 then p else takePad n p
    | none => p
  else p

/-- R470, R473: protect a copy for a channel; none when it is dropped (counted by the caller). `xl` frames with SEC use
the KIND 1 entry of their VCID. A copy that is dropped leaves TX_FV. (DEDUCED, log entry 125.) -/
def Dev.canProtect (chan : Nat) (fd xl : Bool) (ide id vcid : Nat) (data : List Byte) (s : Dev) :
    Option (List Byte) × Dev :=
  let s := s.canSecRead chan
  match s.canSecEntry chan (if xl then 1 else 0) ide (if xl then vcid else id) with
  | none => (if xl then none else some data, s)
  | some i =>
    let fv := s.tab T.canSec i 2
    let n := s.tfld T.canSec i 0 9 0
    if s.noRng then (none, s)
    else if xl = false ∧ data.length ≠ s.tfld T.canSec i 0 15 10 then (none, s)
    else if fv = 0xFFFFFFFF then
      (none, if (s.markOnce T.canSec i).1 then (s.markOnce T.canSec i).2.raise 0xF0000 5 else s)
    else if xl = false ∧ (if fd then 64 else 8) < data.length + s.canFvLen i + s.canMacLen i then (none, s)
    else
      match s.useKey n KA.can with
      | (0, s) =>
        let s := (s.setTab T.canSec i 2 (fv + 1)).add64 C.CPE_CAN_SEC_OK 1
        let key := (s.slot n).key
        if xl then (some (Config.cansecSeal key (s.tfld T.canSec i 0 19 19 == 1) vcid (fv + 1) data), s)
        else
          let mac := aesCmac (wholeSlotKey key) (canMacInput ide id data (fv + 1))
          (some (padCan fd (data ++ (beBytes 4 (fv + 1)).drop (4 - s.canFvLen i) ++ mac.take (s.canMacLen i))), s)
      | (_, s) => (none, s)

/-- R472: record a failure and count it. -/
def Dev.canSecFail (chan reason ide id : Nat) (s : Dev) : Dev :=
  let s := s.inc C.CPE_CAN_SEC_FAIL
  if s.bit R.CPE_CAN_FAIL 31 then s
  else (s.wr R.CPE_CAN_FAIL (2 ^ 31 + reason * 2 ^ 28 + chan)).wr R.CPE_CAN_FAIL_ID (ide * 2 ^ 31 + id)

/-- R471: the smallest value above the last whose low f bytes are those received. -/
def nextFresh (last f low : Nat) : Nat :=
  if f = 0 then last + 1
  else
    let m := 256 ^ f
    let c := last / m * m + low
    if last < c then c else c + m

/-- R471, R473: verify a received frame of a channel; none when it fails, else the payload for the gateway. (DEDUCED, log entry 125.) -/
def Dev.canVerify (chan : Nat) (xl : Bool) (ide id vcid : Nat) (data : List Byte) (s : Dev) : Option (List Byte) × Dev :=
  let s := s.canSecRead chan
  match s.canSecEntry chan (if xl then 1 else 0) ide (if xl then vcid else id) with
  | none => if xl then (none, s.canSecFail chan 3 0 vcid) else (some data, s)
  | some i =>
    let fid := if xl then vcid else id
    let fide := if xl then 0 else ide
    let last := s.tab T.canSec i 3
    let n := s.tfld T.canSec i 0 9 0
    let win := max 1 (s.fld R.CPE_FV_WINDOW 15 0)
    if s.noRng then (none, s.canSecFail chan 5 fide fid)
    else
      match s.useKey n KA.can with
      | (0, s) =>
        let key := (s.slot n).key
        if xl then
          match Config.cansecOpen key (s.tfld T.canSec i 0 19 19 == 1) vcid last win data with
          | some (fv, p) => (some p, (s.setTab T.canSec i 3 fv).add64 C.CPE_CAN_SEC_OK 1)
          | none => (none, s.canSecFail chan 1 fide fid)
        else
          let d := s.tfld T.canSec i 0 15 10
          let f := s.canFvLen i
          let c := nextFresh last f (beNat ((data.drop d).take f))
          if win < c - last ∨ 0xFFFFFFFF < c then (none, s.canSecFail chan 2 fide fid)
          else
            let mac := aesCmac (wholeSlotKey key) (canMacInput ide id (data.take d) c)
            if mac.take (s.canMacLen i) ≠ (data.drop (d + f)).take (s.canMacLen i) then
              (none, s.canSecFail chan 1 fide fid)
            else (some (data.take d), (s.setTab T.canSec i 3 c).add64 C.CPE_CAN_SEC_OK 1)
      | (_, s) => (none, s.canSecFail chan 4 fide fid)

/-- A look-aside page's record. -/
def Dev.laPage (s : Dev) (k : Nat) : LaPage := smGet (fun _ => ({} : LaPage)) s.la k

/-- Store a look-aside page's record. -/
def Dev.setLaPage (k : Nat) (p : LaPage) (s : Dev) : Dev := { s with la := smSet (fun _ => ({} : LaPage)) s.la k p }

/-- LA_CMD.OP, TAG_LEN and KEY_SLOT of a page. -/
def Dev.laOp (s : Dev) (k : Nat) : Nat := s.fld (R.LA_CMD k) 31 24
/-- TAG_LEN. -/
def Dev.laTagLen (s : Dev) (k : Nat) : Nat := s.fld (R.LA_CMD k) 20 16
/-- KEY_SLOT. -/
def Dev.laSlot (s : Dev) (k : Nat) : Nat := s.fld (R.LA_CMD k) 9 0
/-- Whether an operation names a key slot (R475). -/
def laKeyed (op : Nat) : Bool := decide (1 ≤ op ∧ op ≤ 4)

/-- R475: the operands that an operation may not have. Bytes of AAD before the text count as an operand of every operation that reads
(DESIGN CHOICE, log entry 29). -/
def Dev.laBadArg (s : Dev) (k : Nat) : Bool :=
  let op := s.laOp k
  let base := s.rd (R.CPE_UWIN_BASE k)
  let lim := s.rd (R.CPE_UWIN_LIM k)
  let src := s.rd (R.LA_SRC k)
  let dst := s.rd (R.LA_DST k)
  let n := s.rd (R.LA_LEN k)
  let tot := s.rd (R.LA_AAD_LEN k) + n
  let hasSrc := op != 6
  let hasDst := op == 1 || op == 2 || op == 6
  op == 0 || decide (6 < op ∨ 16384 < tot) ||
  (hasSrc && decide (0 < tot ∧ (src < base ∨ lim < src + tot))) || (hasDst && decide (0 < n ∧ (dst < base ∨ lim < dst + n))) ||
  (laKeyed op && decide (s.laTagLen k < 4 ∨ 16 < s.laTagLen k)) ||
  (hasSrc && hasDst && decide (0 < n ∧ 0 < tot ∧ src < dst + n ∧ dst < src + tot))

/-- The end of an operation (R477): LA_STAT, the in-use count of its slot, LA_DONE. -/
def Dev.laEnd (k status : Nat) (s : Dev) : Dev :=
  let keyed := (s.laPage k).running && laKeyed (s.laOp k)
  let n := s.laSlot k
  let s := s.wr (R.LA_STAT k) (2 ^ 30 + status * 2 ^ 16 + (s.rd (R.LA_STAT k)) % 4)
  let s := (s.setLaPage k {}).setBit R.CPE_LA_BUSY k false
  let s := if status = 5 then s else s.add64 C.CPE_LA_OPS 1
  let s := if keyed then s.endUse n else s
  s.raise (0xF1000 + 0x1000 * k) 0

/-- R474: a write of LA_GO. -/
def Dev.laGo (k : Nat) (s : Dev) : Dev :=
  if s.ownerOf (R.LA_GO k) = 0xF then s
  else if s.bit (R.LA_STAT k) 31 then s.setBit (R.LA_STAT k) 1 true
  else ((s.setBit (R.LA_STAT k) 31 true).setBit (R.LA_STAT k) 30 false).setLaPage k { waiting := true }

/-- R458: page k's operation may not complete for want of a seed: NO_RNG, or a stale seed of a RANDOM. -/
def Dev.laNoSeed (s : Dev) (op : Nat) : Bool := s.noRng || (op == 6 && s.bit R.CPE_STAT 1)

/-- R459, R474, R475, R458: judge and start a waiting page; the rules give the refusals no order
(DESIGN CHOICE, log entry 29). -/
def Dev.laBegin (k : Nat) (s : Dev) : Dev :=
  let op := s.laOp k
  let n := s.laSlot k
  if s.laBadArg k then s.laEnd k 3
  else if s.laNoSeed op then s.laEnd k 7
  else if laKeyed op = false then (s.setLaPage k { running := true }).setBit R.CPE_LA_BUSY k true
  else if (s.slot n).attr.testBit k = false then s.laEnd k 6
  else
    match s.useKey n KA.la with
    | (0, s) =>
      let s := s.setSlot n { s.slot n with inUse := (s.slot n).inUse + 1 }
      (s.setLaPage k { running := true, key := (s.slot n).key }).setBit R.CPE_LA_BUSY k true
    | (1, s) => s.laEnd k 9
    | (_, s) => s.laEnd k 6

/-- R478, R487: the next waiting page in ascending order with wrap whose slot holds no held change. -/
def Dev.laNext (s : Dev) : Option Nat :=
  ((List.range 16).map fun i => (s.laLast + 1 + i) % 16).find? fun k =>
    (s.laPage k).waiting && !(laKeyed (s.laOp k) && (s.slot (s.laSlot k)).held.isSome)

/-- LA_START (R478): while fewer than four operations run. -/
def execLaStart (s : State) : Host.Outcome State Fault Refusal :=
  onDev (fun s =>
    if 4 ≤ ((List.range 16).filter fun k => (s.laPage k).running).length then s
    else
      match s.laNext with
      | none => s
      | some k => { s with laLast := k }.laBegin k) s

/-- Text and AAD of a page's operation from the Bench (R475). -/
def State.laAad (s : State) (k : Nat) : List Byte := benchBytes s.bench (s.dev.rd (R.LA_SRC k)) (s.dev.rd (R.LA_AAD_LEN k))
/-- The text. -/
def State.laText (s : State) (k : Nat) : List Byte :=
  benchBytes s.bench (s.dev.rd (R.LA_SRC k) + s.dev.rd (R.LA_AAD_LEN k)) (s.dev.rd (R.LA_LEN k))

/-- The bytes of consecutive registers, byte 0 in bits [31:24] of the first (R475). -/
def Dev.regBytes (s : Dev) (o n : Nat) : List Byte := (List.range n).flatMap fun i => beBytes 4 (s.rd (o + 4 * i))

/-- R478, R510, R513: the Bench accesses of page k's operation: whether all were performed. A word that fails its check lies in the
operands of an operation that reads. -/
def Dev.laBench (k : Nat) (env : BenchEnv) (s : Dev) : Bool × Dev :=
  let r := s.benchBusy 1 env.busy
  let tot := s.rd (R.LA_AAD_LEN k) + s.rd (R.LA_LEN k)
  if r.1 = false then r
  else if s.laOp k = 6 ∨ tot = 0 ∨ env.ecc = 0 then r
  else if env.ecc = 1 then (true, r.2.inc C.BENCH_CORR)
  else (false, r.2.benchUncorr (s.rd (R.LA_SRC k) + env.at_ % tot))

/-- R477: the completion point of page k's operation `op`: its result is held, or it ends with NO_RESOURCE, for want of a seed
(R458) or of a Bench access (R478). -/
def State.laRun (k op : Nat) (env : BenchEnv) (f : State → Nat × List Byte × List Byte) (s : State) : State :=
  let p := s.dev.laPage k
  if p.running = true ∧ p.done = none ∧ s.dev.laOp k = op ∧ k < 16 then
    if s.dev.laNoSeed op then { s with dev := s.dev.laEnd k 7 }
    else
      let r := s.dev.laBench k env
      if r.1 then { s with dev := r.2.setLaPage k { p with done := some (f s) } }
      else { s with dev := r.2.laEnd k 7 }
  else s

/-- GCM_ENC (R475). -/
def execGcmEnc (k : Nat) (env : BenchEnv) (s : State) : Host.Outcome State Fault Refusal :=
  .next (s.laRun k 1 env fun s =>
    let key := wholeSlotKey (s.dev.laPage k).key
    let iv := s.dev.regBytes (R.LA_IV k 0) 3
    let ct := gcmText key iv (s.laText k)
    (0, ct, (gcmTag key iv (s.laAad k) ct).take (s.dev.laTagLen k)))

/-- GCM_DEC (R476): the plaintext only when the tag matches. -/
def execGcmDec (k : Nat) (env : BenchEnv) (s : State) : Host.Outcome State Fault Refusal :=
  .next (s.laRun k 2 env fun s =>
    let key := wholeSlotKey (s.dev.laPage k).key
    let iv := s.dev.regBytes (R.LA_IV k 0) 3
    let n := s.dev.laTagLen k
    if (gcmTag key iv (s.laAad k) (s.laText k)).take n = (s.dev.regBytes (R.LA_TAG k 0) 4).take n then
      (0, gcmText key iv (s.laText k), [])
    else (0xA, [], []))

/-- CMAC_GEN (R475). -/
def execCmacGen (k : Nat) (env : BenchEnv) (s : State) : Host.Outcome State Fault Refusal :=
  .next (s.laRun k 3 env fun s =>
    (0, [], (aesCmac (wholeSlotKey (s.dev.laPage k).key) (s.laText k)).take (s.dev.laTagLen k)))

/-- CMAC_VER (R476). -/
def execCmacVer (k : Nat) (env : BenchEnv) (s : State) : Host.Outcome State Fault Refusal :=
  .next (s.laRun k 4 env fun s =>
    let n := s.dev.laTagLen k
    if (aesCmac (wholeSlotKey (s.dev.laPage k).key) (s.laText k)).take n = (s.dev.regBytes (R.LA_TAG k 0) 4).take n then
      (0, [], []) else (0xA, [], []))

/-- SHA3_256 (R475). -/
def execSha3256 (k : Nat) (env : BenchEnv) (s : State) : Host.Outcome State Fault Refusal :=
  .next (s.laRun k 5 env fun s => (0, [], sha3_256 (s.laText k)))

/-- Free words as bytes. -/
def drawBytes (base n : Nat) : List Byte := ((List.range n).map fun i => (Config.freeWord (base + i)).setWidth 8)

/-- RANDOM (R475): LA_LEN free bytes. -/
def execRandom (k : Nat) (env : BenchEnv) (s : State) : Host.Outcome State Fault Refusal :=
  let n := s.dev.rd (R.LA_LEN k)
  let t := s.laRun k 6 env fun s => (0, drawBytes s.dev.free n, [])
  .next { t with dev := { t.dev with free := t.dev.free + n } }

/-- LA_DONE (R477): after the completion point, with OK, LA_DST and LA_OUT are written; then DONE and LA_DONE. -/
def execLaDone (k : Nat) (s : State) : Host.Outcome State Fault Refusal :=
  match (s.dev.laPage k).done with
  | none => .next s
  | some (st, dst, out) =>
    let d := forN 8 (fun i d => d.wr (R.LA_OUT k i) (beNat (takePad 4 (out.drop (4 * i))))) s.dev
    let b := if st = 0 ∧ dst ≠ [] then benchSet (s.dev.rd (R.LA_DST k)) dst s.bench else s.bench
    .next { s with dev := d.laEnd k st, bench := b }

/-- R477: an abort request to a page. -/
def Dev.laAbort (k v : Nat) (s : Dev) : Dev :=
  if v.testBit 0 = false then s
  else
    let p := s.laPage k
    let hit := (p.waiting || p.running) && p.done.isNone
    let s := if hit then s.laEnd k 5 else s
    (s.wr (R.LA_ABORT k) (if hit then 2 else 0x0B02)).raise (0xF1000 + 0x1000 * k) 1

/-- LA_ABORT (R477). -/
def execLaAbort (r : Req) (k v : Nat) (s : State) : Host.Outcome State Fault Refusal :=
  onDev (fun s => if k < 16 then Dev.guarded r (R.LA_ABORT k) (Dev.laAbort k v) s else s) s

/-- R474: a write to CPE_UWIN_BASE or CPE_UWIN_LIM of a page. -/
def Dev.uwinWrite (r : Req) (k : Nat) (lim : Bool) (v : Nat) (s : Dev) : Dev :=
  let v := if lim then v % 2 ^ 23 else v % 2 ^ 22
  if r = .hst ∧ v ≤ 0x3C0000 then s.wr (if lim then R.CPE_UWIN_LIM k else R.CPE_UWIN_BASE k) v
  else (s.setBit R.CPE_STAT 0 true).raise 0xF0000 7

/-- CPE_UWIN_WRITE (R474). -/
def execCpeUwinWrite (r : Req) (k : Nat) (lim : Bool) (v : Nat) (s : State) : Host.Outcome State Fault Refusal :=
  onDev (fun s => if k < 16 then Dev.guarded r (R.CPE_UWIN_BASE k) (Dev.uwinWrite r k lim v) s else s) s

/-- R498: a tamper latch ends every look-aside operation with TAMPER. -/
def Dev.laTamper (s : Dev) : Dev :=
  forN 16 (fun k s =>
    let p := s.laPage k
    if p.running || p.waiting then (forN 8 (fun i s => s.wr (R.LA_OUT k i) 0) s).laEnd k 8 else s) s

/-- SOFT_RST of a user page: an abort before the completion point, and the page's registers clear (chapter 20). -/
def Dev.laSoftRst (k : Nat) (s : Dev) : Dev :=
  let p := s.laPage k
  let s := if p.running || p.waiting then s.laEnd k 5 else s
  forN 32 (fun i s => s.wr (0xF1040 + 0x1000 * k + 4 * i) 0) s

end Sys2Proof.Machine
end

