-- ==== Sys2Proof/Machine/Chuck.lean ====
section
/-! DEFINITION. The shared buffer and its queues (chapter 13): frames and copies, admission, deep queues, the resequencer,
discards and the Burr audit. Cells are counted; which cell numbers a chain takes is not observable (DESIGN CHOICE, log entry 20). -/

namespace Sys2Proof.Machine

/-- The Chuck's record replaced. -/
def Dev.setCk (c : ChuckSt) (s : Dev) : Dev := { s with ck := c }

/-- A frame by its number; a number not in use reads as an empty record. -/
def Dev.frame (s : Dev) (f : Nat) : FrameSt := smGet (fun _ => ({} : FrameSt)) s.ck.frames f

/-- Store a frame. -/
def Dev.setFrame (f : Nat) (v : FrameSt) (s : Dev) : Dev :=
  s.setCk { s.ck with frames := smSet (fun _ => ({} : FrameSt)) s.ck.frames f v }

/-- Stored bytes (R299). -/
def FrameSt.len (v : FrameSt) : Nat := v.bytes.length + if v.eth then 4 else 0

/-- Cells of a length (R299). -/
def cellsOf (n : Nat) : Nat := (n + 255) / 256

/-- A queue. -/
def Dev.qst (s : Dev) (q : Nat) : QSt := smGet (fun _ => ({} : QSt)) s.ck.qs q

/-- Store a queue. -/
def Dev.setQ (q : Nat) (v : QSt) (s : Dev) : Dev := s.setCk { s.ck with qs := smSet (fun _ => ({} : QSt)) s.ck.qs q v }

/-- Cells of a list of copies. -/
def cellSum (cs : List Copy) : Nat := cs.foldl (fun n c => n + c.cells) 0

/-- The resequencer's copies of a queue. -/
def Dev.heldOf (s : Dev) (q : Nat) : List Copy := (s.ck.hold.filter fun h => h.1.q == q).map (·.1)

/-- Copies of a queue that are in transmission (their reference is still held). -/
def Dev.sending (s : Dev) (q : Nat) : List Copy :=
  (s.ck.tx ++ s.ck.held).filterMap fun e => match e.2 with
    | some t => if t.copy.q = q then some t.copy else none
    | none => none

/-- Copies of a queue in a receive frame that its ring has begun to write (their reference is still held). -/
def Dev.inRing (s : Dev) (q : Nat) : List Copy :=
  s.hif.rings.filterMap fun e => e.2.job.bind fun j => j.copy.bind fun c => if c.q = q then some c else none

/-- The admitted copies of a queue that are not on the spill path (R303). -/
def Dev.admitted (s : Dev) (q : Nat) : List Copy :=
  (s.qst q).sram ++ (s.heldOf q).filter (fun c => !c.spill) ++ s.sending q ++ s.inRing q

/-- The spill path of a queue (R308): its DRAM segment, and the copies that will join it from the resequencer. -/
def Dev.deepSeg (s : Dev) (q : Nat) : List Copy := (s.qst q).dram ++ (s.heldOf q).filter fun c => c.spill

/-- len_q (R303). -/
def Dev.qlen (s : Dev) (q : Nat) : Nat := cellSum (s.admitted q)

/-- QCFG fields. -/
def Dev.qMin (s : Dev) (q : Nat) : Nat := s.fld (R.QCFG q) 25 16

/-- shared_q (R303). -/
def Dev.qShared (s : Dev) (q : Nat) : Nat := cellSum ((s.admitted q).filter fun c => !c.hdrm) - s.qMin q

/-- Queues with anything in them. -/
def Dev.liveQs (s : Dev) : List Nat :=
  (s.ck.qs.map (·.1) ++ s.ck.hold.map (fun h => h.1.q) ++
    ((s.ck.tx ++ s.ck.held).filterMap fun e => e.2.map fun t => t.copy.q) ++
    s.hif.rings.filterMap fun e => e.2.job.bind fun j => j.copy.map fun c => c.q).eraseDups

/-- The deep slot that names a queue and is enabled or BUSY. -/
def Dev.deepSlot (s : Dev) (q : Nat) : Option Nat :=
  (List.range 16).find? fun k => s.fld (R.BUF_DEEP k) 31 30 != 0 && s.fld (R.BUF_DEEP k) 8 0 == q

/-- The spill stage is held (R303). -/
def Dev.stageOn (s : Dev) : Bool := (List.range 16).any fun k => s.fld (R.BUF_DEEP k) 31 30 != 0

/-- Σ MIN_q over the 304 queues (R303): the reset minimum and what has been written over it. -/
def Dev.minSum (s : Dev) : Nat := (List.range 304).foldl (fun n q => n + s.qMin q) 0

/-- S (R303). -/
def Dev.pool (s : Dev) : Nat := 65536 - s.minSum - s.fld R.BUF_HDRM 15 0 - if s.stageOn then 2048 else 0

/-- A (R303): cells of frames that hold their arrival reference. -/
def Dev.arrivalCells (s : Dev) : Nat :=
  s.ck.frames.foldl (fun n e => n + if e.2.arrival then cellsOf e.2.len else 0) 0

/-- Cells of copies that wait to be written to DRAM. -/
def Dev.stageUsed (s : Dev) : Nat :=
  s.liveQs.foldl (fun n q => n + cellSum ((s.deepSeg q).filter fun c => c.saved.isNone)) 0

/-- F (R303). -/
def Dev.freeCells (s : Dev) : Int :=
  (s.pool : Int) - (s.liveQs.foldl (fun n q => n + s.qShared q) 0 : Nat) - s.arrivalCells

/-- Headroom cells charged. -/
def Dev.hdrmUsed (s : Dev) : Nat :=
  s.liveQs.foldl (fun n q => n + cellSum ((s.admitted q).filter fun c => c.hdrm)) 0

/-- Copy descriptors in use (R301). -/
def Dev.descUsed (s : Dev) : Nat :=
  s.liveQs.foldl (fun n q => n + (s.admitted q).length + (s.deepSeg q).length) 0

/-- BUF_FREE_MIN follows. -/
def Dev.freeMark (s : Dev) : Dev :=
  let f := s.freeCells.toNat
  if f < s.ck.freeMin then s.setCk { s.ck with freeMin := f } else s

/-- R302: a frame that needs a cell when F is zero has taken every cell above it. -/
def Dev.noCell (s : Dev) : Dev := (s.inc C.BUF_ING_NO_CELL).setCk { s.ck with freeMin := 0 }

/-- BUF_FREE_MIN and QLEN_MAX follow. -/
def Dev.bufMarks (q : Nat) (s : Dev) : Dev :=
  let s := s.freeMark
  let v := s.qst q
  if v.max < s.qlen q then s.setQ q { v with max := s.qlen q } else s

/-- R300, R321: the cells return when no reference is left, those too that the Burr audit took off the free list. -/
def Dev.freeIf (f : Nat) (s : Dev) : Dev :=
  let v := s.frame f
  if v.arrival = false ∧ v.refs = 0 then
    (s.setCk { s.ck with twice := s.ck.twice.filter fun t => t.2.1 != f }).setFrame f {}
  else s

/-- A copy releases its reference (R300). -/
def Dev.release (f : Nat) (s : Dev) : Dev :=
  let v := s.frame f
  if v.refs = 0 then s else (s.setFrame f { v with refs := v.refs - 1 }).freeIf f

/-- Count a drop of a copy of a queue (R323). -/
def Dev.qDrop (q : Nat) (s : Dev) : Dev := s.add64 (C.BUFQ_DROP_FRAMES q) 1

/-- R387: a requested copy that is dropped after admission returns an entry with DROPPED set. -/
def Dev.tsfDropped (c : Copy) (s : Dev) : Dev :=
  let r := (c.saved.getD (s.frame c.frame)).req
  if c.kind = 0 ∧ r.tsr ≠ 0 ∧ c.q / 8 < 32 then s.tsfPush true (c.q / 8) r.tag 0 else s

/-- ETH_STAT.STATE of a port. -/
def Dev.portState (s : Dev) (n : Nat) : Nat := s.fld (R.ETH_STAT n) 23 20

/-- The Epmel link runs on P3 (R121). -/
def Dev.epmelOn (s : Dev) : Bool := s.fld (R.ETH_MODE 3) 15 12 == 0xC && s.portState 3 != 0

/-- UP under R132; internal ports always are. -/
def Dev.portUp (s : Dev) (n : Nat) : Bool := decide (32 ≤ n) || s.portState n == 2 || s.portState n == 3

/-- R556 to R558: PAIR_EN is strapped and the member does not hold the role. -/
def Dev.roleHeld (s : Dev) : Bool := s.bit R.BOOT_STRAP 2 && !s.bit R.PAIR_STAT 27

/-- R558: an Ethernet port's copies are discarded after admission. -/
def Dev.gatedPort (s : Dev) (n : Nat) : Bool := s.roleHeld && n != 3 && decide (n < 32) && s.bit R.PAIR_GATE_ETH n

/-- R558: a legacy channel is held. -/
def Dev.gatedLeg (s : Dev) (c : Nat) : Bool :=
  s.roleHeld && (if c < 32 then s.bit R.PAIR_GATE_LEG0 c else s.bit R.PAIR_GATE_LEG1 (c - 32))

/-- The class that a copy of class t to port n joins: under CQF the one that receives (R349). -/
def Dev.cqfClass (s : Dev) (n t : Nat) : Nat :=
  let a := s.fld (R.TSN_CTRL n) 26 24
  if s.bit (R.TSN_CTRL n) 30 = true ∧ n < 34 ∧ (t = a ∨ t + 1 = a) then
    (if s.bit (R.TSN_STAT n) 30 then a - 1 else a)
  else t

/-- Under CQF, class t of port n is the sending class of its pair, or not of the pair at all. -/
def Dev.cqfSends (s : Dev) (n t : Nat) : Bool :=
  let a := s.fld (R.TSN_CTRL n) 26 24
  !(s.bit (R.TSN_CTRL n) 30 && decide (n < 34) && (t == a || t + 1 == a)) || t != s.cqfClass n t

/-- The gate of class t of port n is open, CQF included (R345, R349). -/
def Dev.gateOpen (s : Dev) (n t : Nat) : Bool := s.bit (R.TSN_GATE n) t && s.cqfSends n t

/-- The bit rate of a port in kbit/s (R116, R141); P32 and P33 at 50 Gb/s, P35 at 4, P37 at 100 (R26); the others none. -/
def Dev.portKbps (s : Dev) (n : Nat) : Nat :=
  if n < 32 then
    [0, 10000, 100000, 1000000, 2500000, 5000000, 10000000, 25000000].getD (s.fld (R.ETH_STAT n) 18 16) 0
  else if n < 34 then 50000000 else if n = 35 then 4000000 else if n = 37 then 100000000 else 0

/-- Queue q: the credit of its shaper (R347) in kbit/s times FRC units, magnitude in words 0 to 2 and sign in 3, and the FRC
of the last account in 4 to 6. -/
def T.cbs : Nat := 0x10350

/-- A number of 96 bits in three words of an entry. -/
def Dev.tab96 (s : Dev) (t i w : Nat) : Nat := s.tab t i w + 2 ^ 32 * s.tab t i (w + 1) + 2 ^ 64 * s.tab t i (w + 2)

/-- Store a number of 96 bits. -/
def Dev.setTab96 (t i w v : Nat) (s : Dev) : Dev :=
  ((s.setTab t i w v).setTab t i (w + 1) (v / 2 ^ 32)).setTab t i (w + 2) (v / 2 ^ 64)

/-- The class of queue q follows the credit-based shaper. -/
def Dev.cbsOn (s : Dev) (q : Nat) : Bool := s.bit (R.TSN_CBS (q / 8) (q % 8)) 31

/-- The shaper's credit as last accounted. -/
def Dev.cbsCredit (s : Dev) (q : Nat) : Int :=
  if s.tab T.cbs q 3 = 0 then s.tab96 T.cbs q 0 else -(s.tab96 T.cbs q 0 : Int)

/-- Store a credit as of now. -/
def Dev.cbsSet (q : Nat) (c : Int) (s : Dev) : Dev :=
  ((s.setTab96 T.cbs q 0 c.natAbs).setTab T.cbs q 3 (if c < 0 then 1 else 0)).setTab96 T.cbs q 4 s.time.frc

/-- Queue q has a copy in transmission on its port. -/
def Dev.onLine (s : Dev) (q : Nat) : Bool :=
  s.ck.tx.any fun e => match e.2 with
    | some t => t.copy.q == q
    | none => false

/-- R347: the credit now. -/
def Dev.cbsNow (s : Dev) (q : Nat) : Int :=
  let c := s.cbsCredit q
  let d : Int := (s.time.frc - s.tab96 T.cbs q 4 : Nat)
  let idle : Int := s.fld (R.TSN_CBS (q / 8) (q % 8)) 24 0
  if s.onLine q then c + (idle - s.portKbps (q / 8)) * d
  else if s.gateOpen (q / 8) (q % 8) = false then c
  else if (s.qst q).sram ≠ [] then c + idle * d
  else if c < 0 then min 0 (c + idle * d) else 0

/-- Account queue q's credit up to now, before what it depends on changes. -/
def Dev.cbsTouch (q : Nat) (s : Dev) : Dev := if s.cbsOn q then s.cbsSet q (s.cbsNow q) else s

/-- Link a copy to its queue's tail: that of its DRAM segment on the spill path (R308). -/
def Dev.link (c : Copy) (s : Dev) : Dev :=
  let s := s.cbsTouch c.q
  let v := s.qst c.q
  s.setQ c.q (if c.spill then { v with dram := v.dram ++ [c] } else { v with sram := v.sram ++ [c] })

/-- R318: an earlier frame of the same ingress port has not ended its last pass. -/
def Dev.earlierOpen (s : Dev) (f : Nat) : Bool :=
  s.ck.frames.any fun e => decide (e.1 < f) && e.2.arrival && e.2.inPort == (s.frame f).inPort

/-- R318: release the held copies of ordered queues, in order of arrival, whose earlier frames have all ended. -/
def Dev.releaseOrdered (s : Dev) : Dev :=
  let go := s.ck.hold.filter fun h => h.2 == 0 && !s.earlierOpen h.1.frame
  let ord := sortBy (fun a b => decide (a.1.frame ≤ b.1.frame)) go
  let s := s.setCk { s.ck with hold := s.ck.hold.filter fun h => !(h.2 == 0 && !s.earlierOpen h.1.frame) }
  forL ord (fun h s => s.link h.1) s

/-- The frame's arrival reference goes, and with it its in-flight count (R241, R217, R300, R318). -/
def Dev.endArrival (f : Nat) (s : Dev) : Dev :=
  ((s.setFrame f { s.frame f with arrival := false }).freeIf f).releaseOrdered

/-- A reordering function. -/
def Dev.reo (s : Dev) (f : Nat) : ReoSt := smGet (fun _ => ({} : ReoSt)) s.ck.reo f

/-- Store a reordering function. -/
def Dev.setReo (f : Nat) (v : ReoSt) (s : Dev) : Dev :=
  s.setCk { s.ck with reo := smSet (fun _ => ({} : ReoSt)) s.ck.reo f v }

/-- Link all held copies of a frame that a reordering function held. -/
def Dev.releaseFrame (f fr : Nat) (s : Dev) : Dev :=
  let go := s.ck.hold.filter fun h => h.2 == f + 1 && h.1.frame == fr
  let s := s.setCk { s.ck with hold := s.ck.hold.filter fun h => !(h.2 == f + 1 && h.1.frame == fr) }
  forL go (fun h s => s.link h.1) s

/-- R319: release every held frame that follows e without a gap. -/
def Dev.reoRun : Nat → Nat → Dev → Dev
  | 0, _, s => s
  | n + 1, f, s =>
    let v := s.reo f
    match v.held.find? fun h => some h.1 == v.e with
    | none => s
    | some h =>
      Dev.reoRun n f ((s.setReo f { e := v.e.map fun e => (e + 1) % 65536, held := v.held.filter (· != h) }).releaseFrame f h.2)

/-- Move e on by one, releasing its frame when it is held and counting a skip when it is not (R319). -/
def Dev.reoAdvance (f : Nat) (s : Dev) : Dev :=
  let v := s.reo f
  match v.held.find? fun h => some h.1 == v.e with
  | some h => (s.setReo f { e := v.e.map fun e => (e + 1) % 65536, held := v.held.filter (· != h) }).releaseFrame f h.2
  | none => (s.setReo f { v with e := v.e.map fun e => (e + 1) % 65536 }).inc C.BUF_REORDER_SKIP

/-- R319: `n` numbers from e on are given up or released. -/
def Dev.reoAdvanceN : Nat → Nat → Dev → Dev
  | 0, _, s => s
  | n + 1, f, s => if (s.reo f).held = [] then
      (s.setReo f { s.reo f with e := (s.reo f).e.map fun e => (e + n + 1) % 65536 }).incBy C.BUF_REORDER_SKIP (n + 1)
    else (s.reoAdvance f).reoAdvanceN n f

/-- R319: how a frame with number n enters function f's window: 0 released, 1 held, 2 late. -/
def Dev.reoEnter (f n fr : Nat) (s : Dev) : Nat × Dev :=
  match (s.reo f).e with
  | none => (0, s.setReo f { s.reo f with e := some ((n + 1) % 65536) })
  | some e =>
    let d := (n + 65536 - e) % 65536
    if 32768 ≤ d then (2, s.inc C.BUF_REORDER_LATE)
    else
      let s := if 64 ≤ d then s.reoAdvanceN (d - 63) f else s
      let s := if 64 ≤ d then s.reoRun 64 f else s
      let e := (s.reo f).e.getD 0
      if n = e then (0, s.setReo f { s.reo f with e := some ((n + 1) % 65536) })
      else (1, (s.setFrame fr { s.frame fr with since := s.time.frc }).setReo f { s.reo f with held := (s.reo f).held ++ [(n, fr)] })

/-- R320: the gap before number n of function f is skipped, and what then follows without a gap is released. -/
def Dev.reoSkip (f n : Nat) (s : Dev) : Dev :=
  match (s.reo f).e with
  | some e => (s.reoAdvanceN ((n + 65536 - e) % 65536) f).reoRun 64 f
  | none => s

/-- R317, R320: a copy that would be held finds the store full: it counts, the frame is released as if its timeout had expired, and
the copy is linked. -/
def Dev.placeFull (c : Copy) (rf : Option (Nat × Nat)) (s : Dev) : Dev :=
  let s := s.inc C.BUF_RESEQ_OVF
  match rf with
  | some (f, n) => (s.reoSkip f n).link c
  | none => s.link c

/-- R317 to R319: an admitted copy is held or linked. A copy of a reordering function waits with its frame. -/
def Dev.place (c : Copy) (s : Dev) : Dev :=
  let rf := (s.frame c.frame).rcv
  let waits := match rf with
    | some (f, n) => (s.reo f).held.contains (n, c.frame)
    | none => s.bit (R.QCFG c.q) 31 && s.earlierOpen c.frame
  if waits = false then s.link c
  else if 4096 ≤ s.ck.hold.length then s.placeFull c rf
  else s.setCk { s.ck with hold := s.ck.hold ++ [(c, match rf with
    | some (f, _) => f + 1
    | none => 0)] }

/-- A copy is admitted or spilled: it takes a reference, counts, and is placed; on a gated port it is discarded (R558). -/
def Dev.accept (c : Copy) (s : Dev) : Dev :=
  let s := s.add64 (C.BUFQ_ENQ_FRAMES c.q) 1
  if s.gatedPort (c.q / 8) then ((s.inc C.PAIR_GATED_DROP).tsfDropped c).qDrop c.q
  else
    let v := s.frame c.frame
    ((s.setFrame c.frame { v with refs := v.refs + 1 }).place c).bufMarks c.q

/-- Raise an event of a page at most once per turn, under a mark that the turn edge clears. -/
def Dev.raiseOnce (page ev : Nat) (s : Dev) : Dev :=
  let k := 2 ^ 40 + page * 64 + ev
  if s.once.contains k then s else ({ s with once := k :: s.once }).raise page ev

/-- R312: BUSY of each enabled or busy deep slot tells whether its DRAM segment holds anything. -/
def Dev.deepBusy (s : Dev) : Dev :=
  forN 16 (fun k s =>
    if s.fld (R.BUF_DEEP k) 31 30 = 0 then s
    else s.setBit (R.BUF_DEEP k) 30 (s.deepSeg (s.fld (R.BUF_DEEP k) 8 0) != [])) s

/-- R308: the spill path; answers whether the copy joined it. -/
def Dev.spill (slot : Nat) (c : Copy) (s : Dev) : Bool × Dev :=
  if s.fld (R.BUF_DEEP slot) 23 16 * 4096 < cellSum (s.deepSeg c.q) + c.cells then
    (false, ((s.inc C.BUF_DEEP_FULL_DROP).qDrop c.q).raiseOnce 0xA0000 3)
  else if 2048 < s.stageUsed + c.cells ∨ s.bit R.DRAM_STAT 0 = false then
    (false, (s.inc C.BUF_DEEP_RATE_DROP).qDrop c.q)
  else (true, ((s.add64 C.BUF_SPILL_FRAMES 1).accept { c with spill := true }).deepBusy)

/-- shared_q after admission within α F (R304 test 4, R305): 16 shared ≤ 2^ALPHA F. -/
def Dev.withinAlpha (c : Copy) (s : Dev) : Bool :=
  let own := if (s.frame c.frame).arrival then cellsOf (s.frame c.frame).len else 0
  let sh := (cellSum ((s.admitted c.q).filter fun c => !c.hdrm) + c.cells) - s.qMin c.q
  let f := s.freeCells + own - (sh - s.qShared c.q : Nat)
  decide (0 ≤ f ∧ (16 * sh : Int) ≤ 2 ^ (s.fld (R.QCFG c.q) 2 0) * f)

/-- R304: the admission test; answers whether the copy was admitted or spilled. -/
def Dev.admitJudge (c : Copy) (s : Dev) : Bool × Dev :=
  let n := c.q / 8
  if s.portUp n = false ∨ (n = 3 ∧ s.epmelOn = true) then (false, (s.inc C.BUF_LINK_DROP).qDrop c.q)
  else if 131072 ≤ s.descUsed then (false, (s.inc C.BUF_NO_DESC_DROP).qDrop c.q)
  else
    let slot := s.deepSlot c.q
    let deepOn := match slot with
      | some k => s.bit (R.BUF_DEEP k) 31
      | none => false
    if slot.isSome = true ∧ s.deepSeg c.q ≠ [] then s.spill (slot.getD 0) c
    else if s.withinAlpha c then (true, s.accept c)
    else if deepOn then s.spill (slot.getD 0) c
    else if s.bit (R.QCFG c.q) 30 = true ∧ s.hdrmUsed + c.cells ≤ s.fld R.BUF_HDRM 15 0 then
      (true, s.accept { c with hdrm := true })
    else (false, (s.inc C.BUF_THRESH_DROP).qDrop c.q)

/-- Drop an admitted copy: its reference goes and its queue counts. -/
def Dev.dropCopy (c : Copy) (s : Dev) : Dev := ((s.tsfDropped c).release c.frame).qDrop c.q

/-- R132, R313: discard all copies of a port's queues, those held by the resequencer and in DRAM included. -/
def Dev.discardPort (n : Nat) (s : Dev) : Dev :=
  forN 8 (fun t s =>
    let q := 8 * n + t
    let v := s.qst q
    let hs := s.heldOf q
    let s := s.setCk { s.ck with hold := s.ck.hold.filter fun h => h.1.q != q }
    let s := s.setQ q { v with sram := [], dram := [] }
    let deep := s.deepSlot q
    let s := forL (v.sram ++ hs) (fun c s => Dev.when deep.isSome (Dev.inc C.BUF_LINK_DROP) (s.dropCopy c)) s
    let s := forL v.dram (fun c s =>
      let s := (s.inc C.BUF_LINK_DROP).qDrop q
      let s := s.tsfDropped c
      if c.saved.isSome then s else s.release c.frame) s
    s.deepBusy) s

/-- R306, R303: a configuration's reserved cells would exceed 49,152. -/
def tooMuch (mins hdrm : Nat) (stage : Bool) : Bool := decide (49152 < mins + hdrm + if stage then 2048 else 0)

/-- BUF_STAT.CFG_ERR and its event. -/
def Dev.bufErr (s : Dev) : Dev := (s.setBit R.BUF_STAT 0 true).raise 0xA0000 4

/-- R306: a write to QCFG of queue q. -/
def Dev.qcfgWrite (q v : Nat) (s : Dev) : Dev :=
  if tooMuch (s.minSum - s.qMin q + bitsOf v 25 16) (s.fld R.BUF_HDRM 15 0) s.stageOn ∧ s.qMin q < bitsOf v 25 16 then s.bufErr
  else (s.setReg (R.QCFG q) (BitVec.ofNat 32 v &&& 0xC3FF0007)).freeMark

/-- R306: a write to BUF_HDRM. -/
def Dev.hdrmWrite (v : Nat) (s : Dev) : Dev :=
  if tooMuch s.minSum (v % 65536) s.stageOn ∧ s.fld R.BUF_HDRM 15 0 < v % 65536 then s.bufErr
  else (s.wr R.BUF_HDRM (v % 65536)).freeMark

/-- R307, R312, R306: a write to deep slot k. QUOTA and QUEUE of an enable that R307 refuses are written (DEDUCED, log entry 99). -/
def Dev.deepWrite (k v : Nat) (s : Dev) : Dev :=
  let o := R.BUF_DEEP k
  let en := v.testBit 31
  if en = true ∧ s.stageOn = false ∧ tooMuch s.minSum (s.fld R.BUF_HDRM 15 0) true = true then s.bufErr else
  let locked := s.fld o 31 30 != 0
  let quota := if locked then s.fld o 23 16 else bitsOf v 23 16
  let queue := if locked then s.fld o 8 0 else bitsOf v 8 0
  let changed := locked && (bitsOf v 23 16 != s.fld o 23 16 || bitsOf v 8 0 != s.fld o 8 0)
  let s := if changed then s.bufErr else s
  let s := (s.setFld o 23 16 quota).setFld o 8 0 queue
  if en = false then s.setBit o 31 false
  else if s.bit o 31 then s
  else
    let others := (List.range 16).filter fun j => j != k && s.bit (R.BUF_DEEP j) 31
    let sum := others.foldl (fun n j => n + s.fld (R.BUF_DEEP j) 23 16) quota
    if 128 < sum ∨ (List.range 16).any (fun j => j != k && s.fld (R.BUF_DEEP j) 31 30 != 0 && s.fld (R.BUF_DEEP j) 8 0 == queue) = true ∨
        272 ≤ queue then s.bufErr
    else (s.setBit o 31 true).freeMark

/-- BUF_CFG_WRITE (R306): a write of QCFG or BUF_HDRM, by its offset. -/
def execBufCfgWrite (r : Req) (off v : Nat) (s : State) : Host.Outcome State Fault Refusal :=
  onDev (fun s =>
    if off = R.BUF_HDRM then Dev.guarded r off (Dev.hdrmWrite v) s
    else if 0xA8000 ≤ off ∧ (off - 0xA8000) % 16 = 0 ∧ (off - 0xA8000) / 16 < 304 then
      Dev.guarded r off (Dev.qcfgWrite ((off - 0xA8000) / 16) v) s
    else s) s

/-- BUF_DEEP_WRITE (R307). -/
def execBufDeepWrite (r : Req) (k v : Nat) (s : State) : Host.Outcome State Fault Refusal :=
  onDev (fun s => if k < 16 then Dev.guarded r (R.BUF_DEEP k) (Dev.deepWrite k v) s else s) s

/-- SPILL_WRITE_DONE (R308): the oldest unwritten copy of deep slot k's DRAM segment is in DRAM. -/
def execSpillWriteDone (k : Nat) (s : State) : Host.Outcome State Fault Refusal :=
  onDev (fun s =>
    let q := s.fld (R.BUF_DEEP k) 8 0
    let v := s.qst q
    if 16 ≤ k ∨ s.fld (R.BUF_DEEP k) 31 30 = 0 then s
    else
      match v.dram.findIdx? fun c => c.saved.isNone && !(s.frame c.frame).more with
      | none => s
      | some i =>
        match v.dram[i]? with
        | none => s
        | some c => (s.setQ q { v with dram := v.dram.set i { c with saved := some (s.frame c.frame) } }).release c.frame) s

/-- REFILL_CFG within its limits. -/
def Dev.refillLimit (s : Dev) : Nat := min 16384 (max 64 (s.fld R.BUF_SPILL_CFG 15 0))

/-- REFILL (R309, R311): the oldest DRAM copy of deep slot k moves to the SRAM segment; `ecc` 1 is a corrected and 2 an
uncorrectable read of DRAM word `word`. -/
def execRefill (k ecc word : Nat) (s : State) : Host.Outcome State Fault Refusal :=
  onDev (fun s =>
    let q := s.fld (R.BUF_DEEP k) 8 0
    let v := s.qst q
    match v.dram with
    | [] => s
    | c :: rest =>
      if 16 ≤ k ∨ s.fld (R.BUF_DEEP k) 31 30 = 0 ∨ s.refillLimit ≤ s.qlen q ∨ s.freeCells < 36 ∨ c.saved.isNone = true then s
      else
        let s := s.setQ q { v with dram := rest }
        let s := s.deepBusy
        if ecc = 2 then (((s.dramUncorr 1 word).inc C.BUF_DEEP_UNCORR).tsfDropped c).qDrop q
        else
          let s := if ecc = 1 then s.dramCorr 1 word else s
          let w := c.saved.getD {}
          let id := s.ck.nextId
          let s := s.setCk { s.ck with nextId := id + 1 }
          let s := s.setFrame id { w with arrival := false, refs := 1, more := false }
          ((s.add64 C.BUF_REFILL_FRAMES 1).link { c with frame := id, saved := none, hdrm := false, spill := false }).bufMarks q) s

/-- R321: a slice of the Burr audit. `leaks` are cells that have fallen off the free list and belong to no live frame, `healed` those
of them that a copy has released since, `doubles` cells that stand on the free list and in the chain of a live frame. A leak that is
not reclaimed stays a suspect, and is found again. (DESIGN CHOICE, log entry 120.) -/
def Dev.burrSlice (leaks healed : List Nat) (doubles : List (Nat × Nat)) (s : Dev) : Dev :=
  let n := min 4096 (max 64 (s.fld R.BUF_BURR_CFG 12 0))
  let inSlice (c : Nat) : Bool := decide ((c + 65536 - s.ck.burr) % 65536 < n)
  let lost := (s.ck.lost ++ leaks).eraseDups.filter fun c => !healed.contains c
  let live := doubles.filter fun d => s.ck.frames.any (fun e => e.1 == d.2) && !s.ck.twice.any fun t => t.1 == d.1
  let twice := s.ck.twice ++ live.map fun d => (d.1, d.2, false)
  let here := lost.filter inSlice
  let seen := here.filter s.ck.suspects.contains
  let back (c : Nat) : Bool := s.bit R.BUF_CTRL 8 && seen.contains c
  let dbl := twice.filter fun t => inSlice t.1 && !t.2.2
  let s := s.setCk { s.ck with
    suspects := here.filter (fun c => !back c) ++ s.ck.suspects.filter fun c => !inSlice c
    lost := lost.filter fun c => !back c
    twice := twice.map fun t => if inSlice t.1 then (t.1, t.2.1, true) else t
    burr := (s.ck.burr + n) % 65536 }
  let s := forL seen (fun c s => ((s.inc C.BUF_BURR_LEAK).wr R.BUF_BURR_INFO (2 ^ 31 + c)).raise 0xA0000 0) s
  forL dbl (fun t s => ((s.inc C.BUF_BURR_DOUBLE).wr R.BUF_BURR_INFO (2 ^ 31 + 2 ^ 28 + t.1)).raise 0xA0000 1) s

/-- R322: a codeword of a copy read with an error: 1 corrected, 2 uncorrectable; `info` is its codeword and cell. -/
def Dev.cellRead (ecc info : Nat) (s : Dev) : Dev :=
  if ecc = 1 then s.inc C.BUF_CELL_CORR
  else if ecc = 2 then
    ((s.inc C.BUF_CELL_UNCORR).wr R.BUF_UNCORR_INFO (2 ^ 31 + info / 65536 % 8 * 65536 + info % 65536)).raise 0xA0000 2
  else s

/-- A read of a computed BUF register, by its window offset. -/
def Dev.bufPeek (s : Dev) (off : Nat) : Option Nat :=
  if off = R.BUF_STAT then some (s.fld off 0 0 + if s.stageOn then 2 else 0)
  else if off = R.BUF_SHARED then some s.pool
  else if off = R.BUF_FREE then some (s.freeCells.toNat)
  else if off = R.BUF_FREE_MIN then some (min s.ck.freeMin s.freeCells.toNat)
  else if off = R.BUF_HDRM_USED then some s.hdrmUsed
  else if off = R.BUF_DESC_FREE then some (131072 - s.descUsed)
  else if off = R.BUF_RESEQ_USED then some s.ck.hold.length
  else if 0xA0140 ≤ off ∧ off < 0xA0180 then
    let k := (off - 0xA0140) / 4
    some (if s.fld (R.BUF_DEEP k) 31 30 = 0 then 0 else cellSum (s.deepSeg (s.fld (R.BUF_DEEP k) 8 0)))
  else if 0xA8000 ≤ off ∧ off < 0xA8000 + 16 * 304 then
    if off % 16 = 4 then some (s.qlen ((off - 0xA8000) / 16))
    else if off % 16 = 8 then some (max (s.qst ((off - 0xA8000) / 16)).max (s.qlen ((off - 0xA8000) / 16)))
    else none
  else none

end Sys2Proof.Machine
end

