-- ==== Sys2Proof/Machine/Parser.lean ====
section
/-! DEFINITION. The parser graph (chapter 09): the walk of the Gouge, versions, commit and retirement. -/

namespace Sys2Proof.Machine

/-- Table access window table of nodes (PARS table 0). -/
def T.node : Nat := 0x400
/-- The staged start table (PARS table 1). -/
def T.startStaged : Nat := 0x401
/-- The start table of live slot k. -/
def T.startOf (k : Nat) : Nat := 0x10000 + k

/-- The metadata of a pass (R211) with its key vectors (R210). -/
structure Meta where
  hlist : List (Nat × Nat) := []
  full : Bool := false
  payload : Nat := 0
  flags : Nat := 0
  wide : Bool := false
  nodes : Nat := 0
  exc : Nat := 0
  kv0 : List Byte := List.replicate 40 0
  kv1 : List Byte := List.replicate 40 0
  deriving DecidableEq, Repr

/-- R212: the first header of a type in HLIST. -/
def Meta.first (m : Meta) (ht : Nat) : Option Nat := (m.hlist.find? fun h => h.1 == ht).map (·.2)

/-- A byte for a select or advance read (R205): its value, or exception DEPTH (2) or SHORT (1). -/
def needByte (bs : List Byte) (p : Nat) : Except Nat Nat :=
  if 256 ≤ p then .error 2 else if bs.length ≤ p then .error 1 else .ok ((bs.getD p 0).toNat)

/-- Two bytes of which only those asked for are read (R208, R209). -/
def needPair (bs : List Byte) (p : Nat) (hi lo : Bool) : Except Nat Nat :=
  match (if hi then needByte bs p else .ok 0) with
  | .error e => .error e
  | .ok h =>
    match (if lo then needByte bs (p + 1) else .ok 0) with
    | .error e => .error e
    | .ok l => .ok (h * 256 + l)

/-- R210: copy one byte into a key vector, discarding what lies beyond byte 39. -/
def kvPut (kv : List Byte) (d : Nat) (b : Byte) : List Byte := if d < 40 then kv.set d b else kv

/-- One extraction (R204 step 2, R205, R207): word, header start; exception DEPTH when it reads past byte 255, and then none of its
bytes is copied (DESIGN CHOICE, log entry 119). -/
def extract (bs : List Byte) (hs w : Nat) (m : Meta) : Except Nat Meta :=
  if w.testBit 31 = false ∨ (w.testBit 30 = true ∧ m.wide = false) then .ok m
  else
    let n := let l := bitsOf w 4 0; if l = 0 ∨ 16 < l then 16 else l
    let src := hs + bitsOf w 23 16
    if 256 < src + n then .error 2
    else
      let put (kv : List Byte) : List Byte :=
        (List.range n).foldl (fun kv j => kvPut kv (bitsOf w 29 24 + j) (bs.getD (src + j) 0)) kv
      .ok (if w.testBit 30 then { m with kv1 := put m.kv1 } else { m with kv0 := put m.kv0 })

/-- The advance of a node (R209): bytes, or exception BAD_LEN (4), DEPTH or SHORT. -/
def advance (bs : List Byte) (hs w2 w3 : Nat) : Except Nat Nat :=
  let add := bitsOf w2 7 0
  if w2.testBit 31 = false then .ok add
  else
    let sh := bitsOf w2 27 24
    let wd := let x := bitsOf w2 23 20; if x = 0 then 1 else min x 9
    match needPair bs (hs + bitsOf w2 15 8) (decide (8 < sh + wd)) (decide (sh < 8)) with
    | .error e => .error e
    | .ok f =>
      let v := ((f >>> sh) % 2 ^ wd) * 2 ^ (bitsOf w2 19 18) + add
      if v < bitsOf w3 31 24 then .error 4 else .ok v

/-- What a node's select gives (R204 step 4): 0 END, 1 EXC, 2 + n the next node n. -/
def nextNode (bs : List Byte) (hs : Nat) (ws : List Nat) : Except Nat Nat :=
  let w1 := ws.getD 1 0
  let w3 := ws.getD 3 0
  let mask := bitsOf w1 15 0
  let dflt := if bitsOf w3 17 16 = 0 then 2 + bitsOf w3 7 0 else if bitsOf w3 17 16 = 1 then 0 else 1
  if mask = 0 then .ok dflt
  else
    match needPair bs (hs + bitsOf w1 31 24) (decide (256 ≤ mask)) (mask % 256 != 0) with
    | .error e => .error e
    | .ok f =>
      match ((ws.drop 4).take 8).find? fun t => t.testBit 31 && (f &&& mask) == (bitsOf t 15 0 &&& mask) with
      | some t => .ok (2 + bitsOf t 23 16)
      | none => .ok dflt

/-- R204 step 2, R215: a node's extractions in order up to the first that ends the walk, with what the earlier ones copied. -/
def extractAll (bs : List Byte) (hs : Nat) : List Nat → Meta → Meta × Nat
  | [], m => (m, 0)
  | w :: ws, m =>
    match extract bs hs w m with
    | .error e => (m, e)
    | .ok m => extractAll bs hs ws m

/-- R204, R215: a walk that ends with exception `e` after an advance to `hs`. -/
def Meta.ends (m : Meta) (hs e : Nat) : Meta := { m with payload := hs, exc := e }

/-- The walk from a node (R204 to R206): `n` is how many further nodes may be visited. A node whose words fail their check counts as
walked (R211, R222; DESIGN CHOICE, log entry 119). -/
def walkFrom (node : Nat → List Nat) (bad : List Nat) (bs : List Byte) : Nat → Nat → Nat → Meta → Meta
  | 0, _, hs, m => m.ends hs 3
  | n + 1, k, hs, m =>
    let ws := node k
    let w0 := ws.getD 0 0
    if 256 ≤ hs then m.ends hs 2
    else if bad.contains k then { m with nodes := m.nodes + 1 }.ends hs 7
    else if w0.testBit 31 = false then m.ends hs 6
    else
      let ht := bitsOf w0 23 16
      let m := { m with
        nodes := m.nodes + 1
        flags := m.flags ||| bitsOf w0 15 8
        wide := m.wide || w0.testBit 29
        hlist := if ht ≠ 0 ∧ m.hlist.length < 8 then m.hlist ++ [(ht, hs)] else m.hlist
        full := m.full || (ht != 0 && decide (8 ≤ m.hlist.length)) }
      match extractAll bs hs ((ws.drop 12).take 4) m with
      | (m, e + 1) => m.ends hs (e + 1)
      | (m, 0) =>
        let fin (hs : Nat) (m : Meta) (exc : Nat) : Meta := m.ends hs (if exc ≠ 0 then exc else if bs.length < hs then 1 else 0)
        if w0.testBit 30 then
          match advance bs hs (ws.getD 2 0) (ws.getD 3 0) with
          | .error e => m.ends hs e
          | .ok a => fin (hs + a) m 0
        else
          match nextNode bs hs ws with
          | .error e => m.ends hs e
          | .ok o =>
            match advance bs hs (ws.getD 2 0) (ws.getD 3 0) with
            | .error e => m.ends hs e
            | .ok a =>
              if o = 0 then fin (hs + a) m 0
              else if o = 1 then fin (hs + a) m 5
              else walkFrom node bad bs n (o - 2) (hs + a) m

/-- The words of a node. -/
def Dev.nodeWords (s : Dev) (k : Nat) : List Nat := s.entry T.node k 16

/-- The live slot that holds a version, by the slot registers from an offset (R217, R241). -/
def Dev.slotOf (s : Dev) (base ver : Nat) : Option Nat :=
  (List.range 4).find? fun k => s.bit (base + 4 * k) 31 && s.fld (base + 4 * k) 27 20 == ver

/-- The current version's slot. -/
def Dev.curSlot (s : Dev) (base : Nat) : Option Nat :=
  (List.range 4).find? fun k => s.fld (base + 4 * k) 31 30 == 3

/-- The current version number of a slot group, 0 before any is live. -/
def Dev.curVer (s : Dev) (base : Nat) : Nat :=
  match s.curSlot base with
  | some k => s.fld (base + 4 * k) 27 20
  | none => 0

/-- Live versions of a slot group. -/
def Dev.liveSlots (s : Dev) (base : Nat) : List Nat := (List.range 4).filter fun k => s.bit (base + 4 * k) 31

/-- The walk of a frame under graph version `gver` from start entry `e` (R213). -/
def Dev.walk (s : Dev) (gver e : Nat) (bad : List Nat) (bs : List Byte) : Meta :=
  let st := match s.slotOf (R.PARS_LIVE 0) gver with
    | some k => s.tab (T.startOf k) e 0
    | none => 0
  if st.testBit 31 = false ∨ (s.tab T.node (st % 256) 0).testBit 31 = false then { exc := 6 }
  else walkFrom s.nodeWords bad bs 24 (st % 256) 0 {}

/-- PARS_EXC_ACT of an exception (R215): 0 DROP, 1 CONTINUE, 2 TO_HST. -/
def Dev.excAct (s : Dev) (e : Nat) : Nat :=
  let a := s.fld R.PARS_EXC_ACT (2 * e + 1) (2 * e)
  if a = 3 then 0 else a

/-- Count an exception (R215). -/
def Dev.countExc (e : Nat) (s : Dev) : Dev :=
  if e = 1 then s.inc C.PARS_EXC_SHORT else if e = 2 then s.inc C.PARS_EXC_DEPTH
  else if e = 3 then s.inc C.PARS_EXC_NODES else if e = 4 then s.inc C.PARS_EXC_BAD_LEN
  else if e = 5 then s.inc C.PARS_EXC_NO_MATCH else if e = 6 then s.inc C.PARS_EXC_BAD_NODE
  else if e = 7 then (s.inc C.PARS_EXC_ECC).raise 0x80000 3 else s

/-- The nodes that a node leads to. -/
def nodeNext (ws : List Nat) : List Nat :=
  let w0 := ws.getD 0 0
  if w0.testBit 31 = false ∨ w0.testBit 30 = true then []
  else
    let d := if bitsOf (ws.getD 3 0) 17 16 = 0 then [bitsOf (ws.getD 3 0) 7 0] else []
    if bitsOf (ws.getD 1 0) 15 0 = 0 then d
    else d ++ (((ws.drop 4).take 8).filter fun t => t.testBit 31).map fun t => bitsOf t 23 16

/-- The nodes reachable from a list of nodes. -/
def Dev.reachN (s : Dev) : Nat → List Nat → List Nat → List Nat
  | 0, seen, _ => seen
  | _, seen, [] => seen
  | n + 1, seen, k :: ks =>
    if seen.contains k then s.reachN n seen ks
    else s.reachN n (k :: seen) (nodeNext (s.nodeWords k) ++ ks)

/-- The nodes that a start table uses (R217): from its valid entries whose node is VALID. -/
def Dev.graphNodes (s : Dev) (t : Nat) : List Nat :=
  let roots := (List.range 38).filterMap fun e =>
    let w := s.tab t e 0
    if w.testBit 31 = true ∧ (s.tab T.node (w % 256) 0).testBit 31 = true then some (w % 256) else none
  s.reachN (256 * 10) [] roots

/-- PARS table 3: live slots using a node, and pending (R218). -/
def Dev.nodeUse (s : Dev) (k : Nat) : Nat :=
  ((s.liveSlots (R.PARS_LIVE 0)).foldl (fun n j => if (s.graphNodes (T.startOf j)).contains k then n + 2 ^ j else n) 0) +
    if s.bit R.PARS_STAT 0 = true ∧ (s.graphNodes T.startStaged).contains k = true then 16 else 0

/-- PARS_COMMIT (R218, R220). -/
def Dev.parsCommit (s : Dev) : Dev :=
  if s.bit R.PARS_STAT 2 = true ∨ s.bit R.PARS_STAT 0 = true then s.setBit R.PARS_STAT 4 true
  else s.setBit R.PARS_STAT 2 true

/-- PARS_COMMIT: a write of PARS_CTRL.COMMIT. -/
def execParsCommit (r : Req) (s : State) : Host.Outcome State Fault Refusal :=
  onDev (Dev.guarded r R.PARS_CTRL Dev.parsCommit) s

/-- The reason a reachable node fails the check (R218), 0 for none. -/
def Dev.nodeFault (s : Dev) (bad : List Nat) (k : Nat) : Nat :=
  let w0 := s.tab T.node k 0
  if bad.contains k then 3 else if w0.testBit 31 = false then 1
  else if 0x0D ≤ bitsOf w0 23 16 ∧ bitsOf w0 23 16 ≤ 0x1F then 2 else 0

/-- R218: the first reachable node, in ascending order, that fails. (DESIGN CHOICE, log entry 32.) -/
def Dev.graphFault (s : Dev) (bad : List Nat) : Option (Nat × Nat) :=
  (sortBy (fun a b => decide (a ≤ b)) (s.graphNodes T.startStaged)).findSome? fun k =>
    if s.nodeFault bad k = 0 then none else some (s.nodeFault bad k, k)

/-- PARS_CHECK_DONE (R218): the check ends; `bad` are nodes that fail their ECC check. -/
def execParsCheckDone (bad : List Nat) (s : State) : Host.Outcome State Fault Refusal :=
  onDev (fun s =>
    if s.bit R.PARS_STAT 2 = false then s
    else
      let d := s.setBit R.PARS_STAT 2 false
      match s.graphFault bad with
      | some (c, k) => ((d.setBit R.PARS_STAT 3 true).wr R.PARS_CHECK (c * 2 ^ 28 + k)).raise 0x80000 1
      | none => (d.setBit R.PARS_STAT 0 true).wr R.PARS_CHECK 0) s

/-- Frames in flight under a version (R217, R241). -/
def Dev.inflight (s : Dev) (rule : Bool) (ver : Nat) : Nat :=
  (s.ck.frames.filter fun e => e.2.arrival && (if rule then e.2.rver else e.2.gver) == ver).length

/-- Copy a start table. -/
def Dev.copyStart (src dst : Nat) (s : Dev) : Dev := forN 38 (fun e s => s.setTab dst e 0 (s.tab src e 0)) s

/-- The lowest free slot of a group (R219, R244). -/
def Dev.freeSlot (s : Dev) (base : Nat) : Option Nat := (List.range 4).find? fun k => !s.bit (base + 4 * k) 31

/-- PARS_STAT's CUR_VER and LIVE follow the slots. -/
def Dev.parsShow (s : Dev) : Dev :=
  (s.setFld R.PARS_STAT 31 24 (s.curVer (R.PARS_LIVE 0))).setFld R.PARS_STAT 10 8 (s.liveSlots (R.PARS_LIVE 0)).length

/-- R219, R559: the staged graph becomes version v, when a slot is free. -/
def Dev.parsApply (v : Nat) (s : Dev) : Option Dev :=
  let base := R.PARS_LIVE 0
  match s.freeSlot base with
  | none => none
  | some k =>
    let s := forL (s.liveSlots base) (fun j s => s.setBit (base + 4 * j) 30 false) s
    let s := (s.copyStart T.startStaged (T.startOf k)).wr (base + 4 * k) (3 * 2 ^ 30 + v % 256 * 2 ^ 20)
    some (((s.setFld R.PARS_STAT 1 0 0).raise 0x80000 0).jrnCommit 0x40 0 v)

/-- R217, R219: the graph's part of step 2 of a turn edge: retirement, then a pending version. -/
def Dev.parsEdge (s : Dev) : Dev :=
  let base := R.PARS_LIVE 0
  let s := forL (s.liveSlots base) (fun k s =>
    let w := s.fld (base + 4 * k) 31 20
    if w.testBit 10 = false ∧ s.inflight false (w % 256) = 0 then (s.wr (base + 4 * k) 0).raise 0x80000 2 else s) s
  let s := if s.bit R.PARS_STAT 0 then
      match s.parsApply (s.curVer base + 1) with
      | none => s.setBit R.PARS_STAT 1 true
      | some s => s
    else s
  s.parsShow

end Sys2Proof.Machine
end

