-- ==== Sys2Proof/Machine/Rules.lean ====
section
/-! DEFINITION. The canonical tuple, zones, the zone-pair matrix, the rule lookup and rule versions (chapter 10). -/

namespace Sys2Proof.Machine

/-- RULE table 0: key and mask. -/
def T.ruleKey : Nat := 0x410
/-- RULE table 1: control and action words. -/
def T.ruleCtl : Nat := 0x411
/-- RULE table 2: end marks. -/
def T.ruleEnd : Nat := 0x412
/-- RULE table 3: the staged matrix. -/
def T.matStaged : Nat := 0x413
/-- RULE table 7: hit counters. -/
def T.ruleHit : Nat := 0x417
/-- The zone map of live slot k. -/
def T.zoneOf (k : Nat) : Nat := 0x10100 + k
/-- The matrix of live slot k. -/
def T.matOf (k : Nat) : Nat := 0x10110 + k

/-- Bytes of a frame as a number, zero past its end. -/
def beAt (bs : List Byte) (p n : Nat) : Nat := beNat (takePad n (bs.drop p))

/-- The offset of the EtherType past at most two VLAN tags (R224). -/
def etherOff (bs : List Byte) : Nat :=
  let tag (p : Nat) : Bool := beAt bs p 2 == 0x8100 || beAt bs p 2 == 0x88A8
  if tag 12 then (if tag 16 then 20 else 16) else 12

/-- R224: the tuple of a frame. -/
def tupleOf (legacy : Bool) (bs : List Byte) : Tuple :=
  if legacy then
    { kind := 2, src := beAt bs 1 1 % 64, dst := beAt bs 4 4 % 2 ^ 29 + (beAt bs 2 1 / 128) * 2 ^ 31, proto := 0xFE }
  else
    let e := etherOff bs
    let p := e + 2
    let et := beAt bs e 2
    if et = 0x0800 then
      let ihl := max 5 (beAt bs p 1 % 16)
      let frag := beAt bs (p + 6) 2 % 0x4000 != 0
      let proto := beAt bs (p + 9) 1
      let l4 := p + 4 * ihl
      let ports := !frag && (proto == 6 || proto == 17)
      { kind := 0, src := beAt bs (p + 12) 4, dst := beAt bs (p + 16) 4, proto := proto, frag := frag,
        sport := if ports then beAt bs l4 2 else 0, dport := if ports then beAt bs (l4 + 2) 2 else 0,
        tcp := if ports = true ∧ proto = 6 then some (beAt bs (l4 + 13) 1) else none }
    else if et = 0x86DD then
      let nh := beAt bs (p + 6) 1
      let l4 := p + 40
      let ports := nh == 6 || nh == 17
      { kind := 4, src := beAt bs (p + 8) 16, dst := beAt bs (p + 24) 16, proto := nh,
        sport := if ports then beAt bs l4 2 else 0, dport := if ports then beAt bs (l4 + 2) 2 else 0,
        tcp := if nh = 6 then some (beAt bs (l4 + 13) 1) else none }
    else { kind := 1, src := beAt bs 6 6, dst := beAt bs 0 6, proto := 0xFF, sport := et, dport := et }

/-- The address pair that the hash takes: legacy frames give CHAN and ID (R224); IDE is part of no address there. -/
def Tuple.addrs (t : Tuple) : Nat × Nat := if t.kind = 2 then (t.src, t.dst % 2 ^ 29) else (t.src, t.dst)

/-- R225: CRC-32C with the parameters of the hash. -/
def crc32c (bs : List Byte) : Nat := crc32cRun 0xFFFFFFFF bs ^^^ 0xFFFFFFFF

/-- R225: the hash of a tuple under a seed. -/
def tupleHash (t : Tuple) (seed : Nat) : Nat :=
  let a := t.addrs
  crc32c (beBytes 16 (min a.1 a.2) ++ beBytes 16 (max a.1 a.2) ++ beBytes 1 t.proto ++ beBytes 2 (min t.sport t.dport) ++
    beBytes 2 (max t.sport t.dport) ++ beBytes 4 seed)

/-- Whether a frame carries the internal legacy header. -/
def FrameSt.legacy (v : FrameSt) : Bool := !v.eth

/-- ORIGIN of the internal legacy header (R214). -/
def legOrigin (bs : List Byte) : Bool := (beAt bs 2 1).testBit 1
/-- CHAN of the internal legacy header. -/
def legChan (bs : List Byte) : Nat := beAt bs 1 1 % 64

/-- R226: the source index of a frame. -/
def FrameSt.srcIndex (v : FrameSt) : Nat :=
  if v.legacy then (if legOrigin v.bytes then 36 else 40 + legChan v.bytes) else v.inPort

/-- The rule slot of a version. -/
def Dev.ruleSlot (s : Dev) (ver : Nat) : Nat := (s.slotOf (R.RULE_VER_INFLIGHT 0) ver).getD 0

/-- R227, R228: the zone of an index in the map of a version. -/
def Dev.zone (s : Dev) (ver idx : Nat) : Nat := s.tab (T.zoneOf (s.ruleSlot ver)) idx 0 % 64

/-- The current rule version. -/
def Dev.ruleVer (s : Dev) : Nat := s.curVer (R.RULE_VER_INFLIGHT 0)

/-- Offsets (mod 256) of a version from an entry's first, and of its end (R240). -/
def takesPart (cur w v : Nat) : Bool :=
  let lo := w % 256
  let hi := if w.testBit 30 then cur else bitsOf w 15 8
  w.testBit 31 && !w.testBit 28 && decide ((v + 256 - lo) % 256 ≤ (hi + 256 - lo) % 256)

/-- The indices of a table whose word `w` is listed, in ascending order. -/
def Dev.listed (s : Dev) (t w : Nat) : List Nat :=
  (s.tabs.filter fun e => decide (tabKey t 0 0 ≤ e.1 ∧ e.1 < tabKey (t + 1) 0 0) && e.1 % 64 == w).map fun e =>
    (e.1 / 64) % 2 ^ 32

/-- A key vector matches words 0 to 19 of an index (R231, R233). -/
def Dev.kvMatch (s : Dev) (i : Nat) (kv : List Byte) : Bool :=
  (List.range 10).all fun k =>
    let v := leNat ((kv.drop (4 * k)).take 4)
    (v &&& s.tab T.ruleKey i (10 + k)) == (s.tab T.ruleKey i k &&& s.tab T.ruleKey i (10 + k))

/-- R231: whether entry i matches a pass under a version in a set. -/
def Dev.entryMatch (s : Dev) (ver set i : Nat) (m : Meta) : Bool :=
  let w := s.tab T.ruleCtl i 0
  takesPart s.ruleVer w ver && bitsOf w 21 16 == set &&
    (if w.testBit 29 then m.wide && i % 2 == 0 && s.kvMatch i m.kv0 && s.kvMatch (i + 1) m.kv1 else s.kvMatch i m.kv0)

/-- R231: the entry that a lookup finds. -/
def Dev.ruleFind (s : Dev) (ver set : Nat) (m : Meta) : Option Nat :=
  (s.listed T.ruleCtl 0).find? fun i =>
    !(i % 2 == 1 && (s.tab T.ruleCtl i 0).testBit 29) && s.entryMatch ver set i m

/-- The index whose control and action words govern entry i: in a wide pair the first (R234). -/
def Dev.ruleGov (s : Dev) (i : Nat) : Nat :=
  if i % 2 = 1 ∧ (s.tab T.ruleCtl i 0).testBit 29 = true then i - 1 else i

/-- R248: a rule entry read uncorrectable marks its set failed. -/
def Dev.ruleFail (i : Nat) (s : Dev) : Dev :=
  let set := bitsOf (s.tab T.ruleCtl (s.ruleGov i) 0) 21 16
  let s := { s with lk := { s.lk with failed := (set, i) :: s.lk.failed.filter (· != (set, i)) } }
  (s.wr R.RULE_ERR_ENTRY (2 ^ 31 + set * 2 ^ 16 + i % 2 ^ 15)).raise 0x88000 3

/-- RULE_ERR_ENTRY.VALID follows the marks (R248). -/
def Dev.ruleFailShow (s : Dev) : Dev := if s.lk.failed = [] then s.setBit R.RULE_ERR_ENTRY 31 false else s

/-- R231, R232, R248: one lookup: the action words of the match, none for a drop. -/
def Dev.ruleLookup (ver set : Nat) (m : Meta) (s : Dev) : Option (Nat × Nat) × Dev :=
  let s := s.add64 C.RULE_LOOKUPS 1
  if s.lk.failed.any (fun f => f.1 == set) then (none, s.inc C.RULE_FAILCLOSED)
  else
    match s.ruleFind ver set m with
    | none => (none, s.inc C.RULE_MISS)
    | some i =>
      let n := s.tab T.ruleHit i 0 + 2 ^ 32 * s.tab T.ruleHit i 1 + 1
      let s := s.add64 C.RULE_HITS 1
      let s := if s.frozen 0x88000 then s else (s.setTab T.ruleHit i 0 n).setTab T.ruleHit i 1 (n / 2 ^ 32)
      (some (s.tab T.ruleCtl i 1, s.tab T.ruleCtl i 2), s)

/-- R242, R245: a COMMIT by register or by ZONE_SET. -/
def Dev.ruleCommit (s : Dev) : Dev :=
  if s.bit R.RULE_STAT 2 = true ∨ s.bit R.RULE_STAT 0 = true then s.setBit R.RULE_STAT 4 true
  else s.setBit R.RULE_STAT 2 true

/-- RULE_COMMIT: a write of RULE_CTRL.COMMIT. -/
def execRuleCommit (r : Req) (s : State) : Host.Outcome State Fault Refusal :=
  onDev (Dev.guarded r R.RULE_CTRL Dev.ruleCommit) s

/-- A staged entry. -/
def ruleStaged (w : Nat) : Bool := w.testBit 31 && w.testBit 28

/-- R243: the reason a staged entry fails, 0 for none: 1 WIDE_PAIR, 2 RESERVED, 3 UNCORR. In a wide pair the second
index's other control and action fields are ignored (R234). -/
def Dev.ruleFault (s : Dev) (bad : List Nat) (i : Nat) : Nat :=
  let w := s.tab T.ruleCtl i 0
  let p := s.tab T.ruleCtl (if i % 2 = 0 then i + 1 else i - 1) 0
  let second := w.testBit 29 && i % 2 == 1
  if bad.contains i then 3
  else if w.testBit 29 = true ∧ (ruleStaged p && p.testBit 29) = false then 1
  else if second = false ∧ ((w &&& 0x0FC00000) ≠ 0 ∨ (s.tab T.ruleCtl i 1 &&& 0x001F1000) ≠ 0 ∨
      (s.tab T.ruleCtl i 2 &&& 0x40F0F0FF) ≠ 0) then 2
  else 0

/-- R243: the first failure of the check: reason, whether in the matrix, index. -/
def Dev.ruleCheck (s : Dev) (bad badMat : List Nat) : Option (Nat × Bool × Nat) :=
  let es := (s.listed T.ruleCtl 0).filter fun i => ruleStaged (s.tab T.ruleCtl i 0)
  match es.findSome? fun i => if s.ruleFault bad i = 0 then none else some (s.ruleFault bad i, false, i) with
  | some f => some f
  | none =>
    (sortBy (fun a b => decide (a ≤ b)) ((s.listed T.matStaged 0) ++ badMat)).findSome? fun i =>
      if badMat.contains i then some (3, true, i)
      else if (s.tab T.matStaged i 0 &&& 0x7FFFFFC0) ≠ 0 then some (2, true, i) else none

/-- The commit check's outcome on the registers (R243). -/
def Dev.ruleChecked (f : Option (Nat × Bool × Nat)) (s : Dev) : Dev :=
  let s := s.setBit R.RULE_STAT 2 false
  match f with
  | some (c, m, i) =>
    ((s.setBit R.RULE_STAT 3 true).wr R.RULE_CHECK (c * 2 ^ 28 + (if m then 2 ^ 16 else 0) + i % 2 ^ 15)).raise 0x88000 1
  | none => (s.setBit R.RULE_STAT 0 true).wr R.RULE_CHECK 0

/-- NEXT_VER. -/
def Dev.nextVer (s : Dev) : Nat := s.fld R.RULE_STAT 23 16

/-- RULE_CHECK_DONE (R243, R246): the check ends, and with it a ZONE_SET that asked for it. `bad` and `badMat` are staged
entries and matrix words that fail SECDED. -/
def execRuleCheckDone (bad badMat : List Nat) (s : State) : Host.Outcome State Fault Refusal :=
  onDev (fun s =>
    if s.bit R.RULE_STAT 2 = false then s
    else
      let f := s.ruleCheck bad badMat
      let d := s.ruleChecked f
      match s.lk.zoneWait with
      | none => d
      | some m =>
        let d := { d with lk := { d.lk with zoneWait := none } }
        if f.isSome then d.cmbFinish m 2 [] else d.cmbFinish m 0 [d.nextVer]) s

/-- Copy the `n` first entries of a one-word table. -/
def Dev.copyTab (src dst : Nat) (s : Dev) : Dev :=
  let d := s.listed dst 0
  let l := s.listed src 0
  let s := forL d (fun i s => s.setTab dst i 0 0) s
  forL l (fun i s => s.setTab dst i 0 (s.tab src i 0)) s

/-- R241: clear VALID of entries that no live or pending version takes part in, and their failure marks (R248). The second index
of a wide pair is judged by the words of the first, which govern it (R234). -/
def Dev.ruleSweep (s : Dev) : Dev :=
  let base := R.RULE_VER_INFLIGHT 0
  let vers := (s.liveSlots base).map fun k => s.fld (base + 4 * k) 27 20
  let dead := (s.listed T.ruleCtl 0).filter fun i =>
    let w := s.tab T.ruleCtl (s.ruleGov i) 0
    (s.tab T.ruleCtl i 0).testBit 31 && !ruleStaged w && !w.testBit 30 && !vers.any fun v => takesPart s.ruleVer w v
  let s := forL dead (fun i s => s.setTfld T.ruleCtl i 0 31 31 0) s
  let s := { s with lk := { s.lk with failed := s.lk.failed.filter fun f => !dead.contains f.2 } }
  s.ruleFailShow

/-- The new version's field updates (R244). -/
def Dev.ruleNewVer (old new : Nat) (s : Dev) : Dev :=
  let s := forL (s.listed T.ruleCtl 0) (fun i s =>
    let w := s.tab T.ruleCtl i 0
    if ruleStaged w then (s.setTfld T.ruleCtl i 0 7 0 new).setTfld T.ruleCtl i 0 28 28 0
    else if w.testBit 31 = true ∧ w.testBit 30 = true ∧ (s.tab T.ruleEnd i 0).testBit 0 = true then
      (s.setTfld T.ruleCtl i 0 15 8 old).setTfld T.ruleCtl i 0 30 30 0
    else if w.testBit 31 = true ∧ w.testBit 30 = true ∧ 64 ≤ (new + 256 - w % 256) % 256 then
      s.setTfld T.ruleCtl i 0 7 0 ((new + 256 - 63) % 256)
    else s) s
  forL (s.listed T.ruleEnd 0) (fun i s => s.setTab T.ruleEnd i 0 0) s

/-- RULE_STAT's CUR_VER, NEXT_VER and LIVE follow the slots. -/
def Dev.ruleShow (s : Dev) : Dev :=
  ((s.setFld R.RULE_STAT 31 24 s.ruleVer).setFld R.RULE_STAT 23 16 (s.ruleVer + 1)).setFld R.RULE_STAT 10 8
    (s.liveSlots (R.RULE_VER_INFLIGHT 0)).length

/-- R244, R559: the staged set becomes version `new`, when a slot is free. -/
def Dev.ruleApply (new : Nat) (s : Dev) : Option Dev :=
  let base := R.RULE_VER_INFLIGHT 0
  let far := (s.liveSlots base).any fun k => decide (64 ≤ (new + 256 - s.fld (base + 4 * k) 27 20) % 256)
  match (if far then none else s.freeSlot base) with
  | none => none
  | some k =>
    let s := s.ruleNewVer s.ruleVer new
    let s := forL (s.liveSlots base) (fun j s => s.setBit (base + 4 * j) 30 false) s
    let s := ((s.copyTab T.zoneStaged (T.zoneOf k)).copyTab T.matStaged (T.matOf k)).wr (base + 4 * k)
      (3 * 2 ^ 30 + new * 2 ^ 20)
    some (((s.setFld R.RULE_STAT 1 0 0).raise 0x88000 0).jrnCommit 0x41 0 new)

/-- R241, R244: the rules' part of step 2 of a turn edge. -/
def Dev.ruleEdge (s : Dev) : Dev :=
  let base := R.RULE_VER_INFLIGHT 0
  let gone := (s.liveSlots base).filter fun k => !s.bit (base + 4 * k) 30 && s.inflight true (s.fld (base + 4 * k) 27 20) == 0
  let s := forL gone (fun k s => (s.wr (base + 4 * k) 0).raise 0x88000 2) s
  let s := if gone = [] then s else s.ruleSweep
  let s := if s.bit R.RULE_STAT 0 then
      match s.ruleApply s.nextVer with
      | none => s.setBit R.RULE_STAT 1 true
      | some s => s
    else s
  s.ruleShow

/-- ZONE_SET (R246). `race` says that another requester's COMMIT came between the command's writes and its own commit. -/
def execZoneSet (m : Nat) (race : Bool) (s : State) : Host.Outcome State Fault Refusal :=
  onDev (fun s =>
    if s.cmbRuns m 0x20 = false ∨ s.lk.zoneWait = some m then s
    else
      let n := s.arg m 0 % 32
      let commit := (s.arg m 0).testBit 31
      let args := (List.range n).map fun k => s.arg m (k + 1)
      let busy := s.bit R.RULE_STAT 2 || s.bit R.RULE_STAT 0
      if s.ownerOf 0x88000 ≠ 0xF ∧ s.ownerOf 0x88000 ≠ mbReq m then s.cmbFinish m 6 []
      else if busy then s.cmbFinish m 1 []
      else if n = 0 ∨ s.cmbCount m < n + 1 ∨ args.any (fun a => decide (79 < bitsOf a 22 16)) = true then s.cmbFinish m 3 []
      else
        let undo := args.map fun a => (bitsOf a 22 16, BitVec.ofNat 32 (s.tab T.zoneStaged (bitsOf a 22 16) 0))
        let d := forL args (fun a s =>
          (s.setTab T.zoneStaged (bitsOf a 22 16) 0 (a % 64)).jrnTable 0x41 0 5 (bitsOf a 22 16) [a % 64]) s
        if commit = false then d.cmbFinish m 0 [s.nextVer]
        else if race then d.ruleCommit.cmbFinish m 1 []
        else
          let d := d.ruleCommit.setMb m { d.mb m with undo := undo }
          { d with lk := { d.lk with zoneWait := some m } }) s

/-- R248: one slice of the rule scrub: `corr` words corrected, `bad` entries uncorrectable in the slice. -/
def Dev.ruleScrub (corr : Nat) (bad : List Nat) (s : Dev) : Dev :=
  let inSlice (i : Nat) : Bool := decide ((i + 32768 - s.lk.rulePos) % 32768 < 256)
  let s := (s.incBy C.RULE_ECC_CORR corr)
  let s := forL (bad.filter inSlice) Dev.ruleFail s
  { s with lk := { s.lk with rulePos := (s.lk.rulePos + 256) % 32768 } }

end Sys2Proof.Machine
end

