-- ==== Sys2Proof/Machine/Egress.lean ====
section
/-! DEFINITION. Handing a copy to the Chuck (steps 8 and 9 of R30): mirror candidates (chapter 15), the class that CQF
receives on (R349), cut-through (R315), admission. -/

namespace Sys2Proof.Machine

/-- Stream table 6: generation functions. -/
def T.gen : Nat := 0x516

/-- The outer TCI at its fixed place (R328). -/
def fixedTci (bs : List Byte) : Option Nat :=
  if beAt bs 12 2 = 0x8100 ∨ beAt bs 12 2 = 0x88A8 then some (beAt bs 14 2) else none

/-- R341: the copy leaves with an R-TAG on its port. -/
def Dev.rtagOf (s : Dev) (c : Copy) (v : FrameSt) : Option Nat :=
  match v.gen with
  | some (g, seq) =>
    if c.kind = 0 ∧ c.q / 8 < 32 ∧ (s.tab T.gen g 1).testBit (c.q / 8) = true ∧ s.tfld T.gen g 0 31 31 = 1 then some seq else none
  | none => none

/-- Bytes that its VLAN edit adds to or takes from a copy (R288). -/
def Copy.tagGrow (c : Copy) : Int :=
  if c.tag = 1 ∧ c.otag ≠ 0 then -4 else if c.tag = 2 ∧ c.otag = 0 then 4 else 0

/-- Bytes that an R-TAG adds: none where it replaces one (R341). -/
def rtagGrow (bs : List Byte) : Nat := if beAt bs (etherOff bs) 2 = 0xF1C1 then 0 else 6

/-- Replace `n` bytes at an offset by the bytes of a number; a frame too short for them stays. -/
def putBe (bs : List Byte) (p n v : Nat) : List Byte :=
  if bs.length < p + n then bs else bs.take p ++ beBytes n v ++ bs.drop (p + n)

/-- R289: the VLAN edit, and the DEI of a copy marked by a meter where it leaves tagged. -/
def Copy.vlanEdit (c : Copy) (bs : List Byte) : List Byte :=
  let o := c.otag
  let at_ := if o = 0 then 14 else o
  let d := if c.dei then 0x1000 else 0
  if c.tag = 1 then (if o = 0 then bs else bs.take (o - 2) ++ bs.drop (o + 2))
  else if c.tag = 2 then
    if o = 0 then bs.take 12 ++ beBytes 2 0x8100 ++ beBytes 2 ((c.pcp * 0x2000 + c.vid) ||| d) ++ bs.drop 12
    else putBe bs o 2 ((beAt bs o 2 &&& 0xF000) ||| c.vid ||| d)
  else if d ≠ 0 ∧ (fixedTci bs).isSome = true then putBe bs at_ 2 (beAt bs at_ 2 ||| d)
  else bs

/-- R341: the R-TAG after the outer VLAN tags, in place of one the frame carries. -/
def rtagEdit (seq : Nat) (bs : List Byte) : List Byte :=
  let e := etherOff bs
  let rest := if rtagGrow bs = 0 then bs.drop (e + 6) else bs.drop e
  bs.take e ++ beBytes 2 0xF1C1 ++ beBytes 2 0 ++ beBytes 2 seq ++ rest

/-- The frame of a copy with its VLAN edit and R-TAG, and where its PTP message then lies. (DEDUCED, log entry 57.) -/
def Dev.editCopy (s : Dev) (c : Copy) (v : FrameSt) : List Byte × Option Nat :=
  if c.kind = 2 ∨ v.eth = false then (v.bytes, none)
  else
    let b := c.vlanEdit v.bytes
    let g := c.tagGrow
    match s.rtagOf c v with
    | some seq => (rtagEdit seq b, c.ptp.map fun o => ((o : Int) + g + rtagGrow b).toNat)
    | none => (b, c.ptp.map fun o => ((o : Int) + g).toNat)

/-- Session s: countdown to its next taken candidate and candidates since the last (R353, R357). -/
def T.mirCount : Nat := 0x10200

/-- N of a session. -/
def Dev.mirN (s : Dev) (k : Nat) : Nat := max 1 (s.fld (R.MIR_SRATE k) 23 0)

/-- R353: draw a session's countdown from the entropy source. -/
def Dev.mirDraw (k : Nat) (s : Dev) : Dev :=
  let n := 2 * s.mirN k - 1
  s.draw.2.setTab T.mirCount k 0 (1 + s.draw.1.toNat % n)

/-- The mirror header of R357 with its length fields still zero: kind, session, later pass, ports, class, exception,
version, sequence number, stamp, Spindle and POOL. -/
def mirHeader (kind sess : Nat) (later : Bool) (inPort outPort tc exc rver seq stamp spin pool : Nat) : List Byte :=
  beBytes 1 (0x10 + kind) ++ beBytes 1 ((if later then 0x40 else 0) + sess) ++ beBytes 2 0 ++ beBytes 1 inPort ++
    beBytes 1 outPort ++ beBytes 1 (tc % 8 * 32 + exc % 8) ++ beBytes 1 rver ++ beBytes 4 seq ++ beBytes 8 (frcNs stamp) ++
    beBytes 1 (frcFrac stamp * 16) ++ beBytes 1 spin ++ beBytes 2 0 ++ beBytes 4 pool ++ beBytes 4 0

/-- The PTP messageType at an offset, and whether twoStepFlag is set. -/
def ptpType (bs : List Byte) (o : Nat) : Nat := beAt bs o 1 % 16
/-- twoStepFlag of flagField. -/
def ptpTwoStep (bs : List Byte) (o : Nat) : Bool := (beAt bs (o + 6) 1).testBit 1

/-- R384, R385: the copy needs a one-step edit on its port. -/
def Dev.needsEdit (s : Dev) (c : Copy) (v : FrameSt) : Bool :=
  let n := c.q / 8
  c.kind == 0 && decide (n < 28) && s.bit (R.PTP_PORT_CFG n) 30 &&
    (decide (2 ≤ v.req.tsr) ||
      (match c.ptp with
       | some o => decide (v.inPort < 32) && decide (ptpType v.bytes o < 4) && !ptpTwoStep v.bytes o && s.bit (R.PTP_PORT_CFG n) 29
       | none => false))

/-- R315: the copy may be sent before its frame's tail has arrived. -/
def Dev.mayCut (s : Dev) (c : Copy) : Bool :=
  let v := s.frame c.frame
  let n := c.q / 8
  v.more && decide (v.inPort < 32) && decide (n < 32) && s.bit R.BUF_CT_EN n &&
    decide (s.fld (R.ETH_STAT n) 18 16 ≤ s.fld (R.ETH_STAT v.inPort) 18 16) &&
    (s.qst c.q).sram == [] && (s.heldOf c.q) == [] && (s.deepSlot c.q).isNone && s.gateOpen n (c.q % 8) &&
    (decide (28 ≤ n) || s.tfld T.secy n 0 31 31 == 0 || s.secBypass n (s.editCopy c v).1) && !s.needsEdit c v

/-- A copy of a frame for queue Pn.Qt, its cells and length those of the frame. -/
def Dev.mkCopy (s : Dev) (f n t : Nat) : Copy :=
  let v := s.frame f
  { frame := f, q := 8 * n + t, cells := cellsOf v.len, len := v.len, hash := v.hash, dei := v.yellow, et := v.et }

/-- Step 9 of R30 for a copy: the discard of a late frame's copies (R319), cut-through (R315), admission; answers whether it was
admitted or spilled. -/
def Dev.offer (c : Copy) (s : Dev) : Bool × Dev :=
  if (s.frame c.frame).late then (false, s.qDrop c.q)
  else
    let c := { c with ct := s.mayCut c }
    match s.admitJudge c with
    | (false, s) => (false, s)
    | (true, s) => (true, if c.ct then s.add64 C.BUF_CT_FRAMES 1 else s)

/-- A copy in the class that CQF receives on (R349). -/
def Dev.cqfCopy (c : Copy) (s : Dev) : Copy := { c with q := c.q / 8 * 8 + s.cqfClass (c.q / 8) (c.q % 8) }

/-- R353, R354, R356: a candidate of session k; the taken one makes a mirror copy, which its queue admits. -/
def Dev.mirCandidate (k kind f outPort tc exc : Nat) (s : Dev) : Dev :=
  if s.bit (R.MIR_SCFG k) 31 = false then s
  else
    let pool := min 0xFFFFFFFF (s.tab T.mirCount k 1 + 1)
    let s := s.setTab T.mirCount k 1 pool
    let left := s.tab T.mirCount k 0
    if 1 < left then s.setTab T.mirCount k 0 (left - 1)
    else
      let seq := s.rd (R.MIR_SSEQ k)
      let v := s.frame f
      let h := mirHeader kind k (decide (1 < v.passes)) v.inPort outPort tc exc v.rver seq v.stamp v.spin pool
      let s := ((s.setTab T.mirCount k 1 0).mirDraw k).wr (R.MIR_SSEQ k) (seq + 1)
      let s := s.add64 (C.SESS_COPIES k) 1
      let c := s.mkCopy f (s.fld (R.MIR_SCFG k) 29 24) (s.fld (R.MIR_SCFG k) 18 16)
      let c := { c with kind := 2, dei := false, et := none, mir := h, snap := s.fld (R.MIR_SCFG k) 13 0, exc := exc }
      if c.q / 8 = 37 ∧ s.bit R.DRAM_STAT 0 = false then s.inc C.CAP_DROP else (s.offer (s.cqfCopy c)).2

/-- R351, R352: sessions that mirror the egress of port n take an admitted copy as a candidate. -/
def Dev.mirEgress (c : Copy) (s : Dev) : Dev :=
  let n := c.q / 8
  if c.kind = 2 then s
  else forN 8 (fun k s =>
    let on := if n < 32 then s.bit (R.MIR_SOUT k) n else if n < 36 then s.bit (R.MIR_SHI k) (16 + (n - 32)) else false
    if on then s.mirCandidate k 2 c.frame n (c.q % 8) c.exc else s) s

/-- Steps 8 and 9 of R30 for one copy, and the mirror of its egress. -/
def Dev.handOver (c : Copy) (s : Dev) : Dev :=
  let c := s.cqfCopy c
  match s.offer c with
  | (false, s) => s
  | (true, s) => s.mirEgress c

/-- R351: the sessions of which a pass of frame f is an INGRESS candidate. -/
def Dev.mirIngress (s : Dev) (f : Nat) : List Nat :=
  let v := s.frame f
  (List.range 8).filter fun k =>
    v.passes == 1 && (if v.inPort < 32 then s.bit (R.MIR_SIN k) v.inPort
      else decide (v.inPort < 36) && s.bit (R.MIR_SHI k) (v.inPort - 32))

/-- R351, R352: a pass's candidates: INGRESS sessions, those that rules name and those that a flow hit names. -/
def Dev.mirPass (f exc : Nat) (rule flow : List Nat) (s : Dev) : Dev :=
  let ing := s.mirIngress f
  forN 8 (fun k s =>
    let kind := if ing.contains k then 1 else if rule.contains k then 3 else if flow.contains k then 4 else 0
    if kind = 0 then s else s.mirCandidate k kind f 0x3F (s.frame f).ingTc exc) s

end Sys2Proof.Machine
end

