-- ==== Sys2Proof/Machine/Mac.lean ====
section
/-! DEFINITION. The MAC table as lookups read it (R279, R280, R293) and the learn requests of a pass (R281, R283). -/

namespace Sys2Proof.Machine

/-- The lookup tables and the flow table's engines run: their logic, in PD3 and PD4, is off in REST and SLEEP (R46). -/
def Dev.spindlesOn (s : Dev) : Bool :=
  s.pwr.phase == .active || s.pwr.phase == .restEntry || s.pwr.phase == .sleepEntry

/-- FWD table 0: MAC entries. -/
def T.mac : Nat := 0x430
/-- FWD table 1: VLANs. -/
def T.vlan : Nat := 0x431
/-- FWD table 2: streams. -/
def T.stream : Nat := 0x432
/-- R279: slot 0 of the MAC bucket of an address. -/
def Dev.macBucket (s : Dev) (fid mac : Nat) : Nat :=
  crc32c (beBytes 2 (fid % 4096) ++ beBytes 6 mac ++ beBytes 4 (s.rd R.FWD_SEED)) % 16384 * 8

/-- R279: the entry of (FID, address); a bucket that reads uncorrectable holds no match (R294). -/
def Dev.macFind (s : Dev) (fid mac : Nat) (bad : List Nat) : Option Nat :=
  let b := s.macBucket fid mac
  if bad.contains b then none
  else (List.range 8).findSome? fun j =>
    if s.tfld T.mac (b + j) 0 31 31 = 1 ∧ s.tfld T.mac (b + j) 1 31 20 = fid ∧
        s.tfld T.mac (b + j) 1 15 0 * 2 ^ 32 + s.tab T.mac (b + j) 2 = mac then some (b + j) else none

/-- The LAG of port n, when it has IN_LAG set (R293). -/
def Dev.lagOf (s : Dev) (n : Nat) : Option Nat :=
  if n < 32 ∧ s.bit (R.FWD_PORT n) 26 = true then some (s.fld (R.FWD_PORT n) 19 16) else none

/-- Word 3 bits [15] and [5:0] for a learned port (R280, R281). -/
def Dev.learnDest (s : Dev) (p : Nat) : Nat :=
  match s.lagOf p with
  | some g => 2 ^ 15 + g
  | none => p

/-- A static entry with GROUP or DISCARD set. -/
def Dev.macSpecial (s : Dev) (i : Nat) : Bool := s.tfld T.mac i 0 30 30 == 1 && s.tfld T.mac i 0 28 27 != 0

/-- A static entry with GROUP set, which has no DEST (R280). -/
def Dev.macGroup (s : Dev) (i : Nat) : Bool := s.tfld T.mac i 0 30 30 == 1 && s.tfld T.mac i 0 28 28 == 1

/-- Entry i's DEST is port p, or its LAG (R281). -/
def Dev.destIs (s : Dev) (i p : Nat) : Bool := (s.tab T.mac i 3 &&& 0x803F) == s.learnDest p

/-- Whether entry i, a unicast entry, has port p as its DEST (R281). -/
def Dev.sameDest (s : Dev) (i p : Nat) : Bool := !s.macSpecial i && s.destIs i p

/-- The MAC age stamp (R286). -/
def Dev.macStamp (s : Dev) : Nat := (s.turnCnt >>> s.fld R.FWD_AGE_CFG 19 16) % 65536

/-- What the forwarding lookups give a pass: copies with their destination indices (R226), and VID and FID when a VLAN
entry was found, and the copy that a COPY action makes to P35 (R289). -/
structure FwdRes where
  copies : List (Copy × Nat) := []
  vlan : Option (Nat × Nat) := none
  saDrop : Bool := false
  hst : Option Copy := none
  deriving DecidableEq, Repr

/-- R294: an uncorrectable MAC bucket. -/
def Dev.macBad (b : Nat) (s : Dev) : Dev :=
  let s := (s.inc C.FWD_MAC_UNCORR).raise 0x98000 3
  { s with lk := { s.lk with badMac := b :: s.lk.badMac.filter (· != b) } }

/-- R281, R283: the learn request of a pass of frame f of which a copy leaves. -/
def Dev.learnAsk (f : Nat) (r : FwdRes) (s : Dev) : Dev :=
  let v := s.frame f
  let p := v.inPort
  let sa := beAt v.bytes 6 6
  match r.vlan with
  | none => s
  | some (vid, fid) =>
    if r.saDrop = true ∨ v.passes ≠ 1 ∨ (33 < p ∧ p ≠ 35) ∨ s.bit R.FWD_CTRL 0 = false ∨ s.bit (R.FWD_PORT p) 31 = false ∨
        s.tfld T.vlan vid 0 30 30 = 0 ∨ (sa / 2 ^ 40) % 2 = 1 ∨ sa = 0 then s
    else
      let ask : Dev := if 1024 ≤ s.lk.learn.length then s.inc C.FWD_LEARN_DROP
        else { s with lk := { s.lk with learn := s.lk.learn ++ [⟨fid, sa, p⟩] } }
      match s.macFind fid sa s.lk.badMac with
      | none => ask
      | some i =>
        if s.tfld T.mac i 0 30 30 = 1 then
          (if s.macSpecial i = true ∨ s.sameDest i p = true then s else s.inc C.FWD_MOVE_REFUSED)
        else if s.sameDest i p = true ∧ s.tfld T.mac i 0 15 0 = s.macStamp then s
        else ask

end Sys2Proof.Machine
end

