-- ==== Sys2Proof/Machine/Flow.lean ====
section
/-! DEFINITION. Stateful flow tracking (chapter 11): lookup, hits, insertion with relocation, states, search, ageing, purge. -/

namespace Sys2Proof.Machine

/-- FLOW table 0: entries, 8 words in a slot. -/
def T.flow : Nat := 0x420
/-- FLOW table 1: profiles. -/
def T.prof : Nat := 0x421

/-- What a tuple is in the flow table (R251, R252): KIND, A and B addresses, A and B ports, protocol. -/
structure FlowKey where
  kind : Nat
  a : Nat
  b : Nat
  pa : Nat
  pb : Nat
  proto : Nat
  deriving DecidableEq, Repr

/-- The source is the A end (R251, R252). -/
def Tuple.srcIsA (t : Tuple) (origin : Bool) : Bool :=
  if t.kind = 2 then !origin else decide (t.src < t.dst) || (t.src == t.dst && decide (t.sport ≤ t.dport))

/-- The key of a tuple. -/
def Tuple.key (t : Tuple) (origin : Bool) : FlowKey :=
  if t.kind = 2 then ⟨2, t.src, t.dst, 0, 0, t.proto⟩
  else if t.srcIsA origin then ⟨t.kind, t.src, t.dst, t.sport, t.dport, t.proto⟩
  else ⟨t.kind, t.dst, t.src, t.dport, t.sport, t.proto⟩

/-- A double entry (R257). -/
def isDouble (kind : Nat) : Bool := kind == 4

/-- The entry words of slot i: 8, or 16 for a double entry. -/
def Dev.flowWords (s : Dev) (i : Nat) : List Nat :=
  s.entry T.flow i 8 ++ if isDouble (s.tfld T.flow i 0 30 28) then s.entry T.flow (i + 1) 8 else []

/-- The defined bits of an entry's words (R15, R256, R257). -/
def flowMask (kind : Nat) : List Nat :=
  let all := 0xFFFFFFFF
  if isDouble kind then
    [0xFFFCFFFF, all, all, all, all, all, all, all, all, all, all, 0xFFF8FFFF, all, all, 0xF0000000, 0]
  else if kind = 2 then [0xFFFCFFFF, 0x3F, 0x9FFFFFFF, all, all, 0xFFF8FFFF, all, all]
  else [0xFFFCFFFF, all, all, all, all, 0xFFF8FFFF, all, all]

/-- An entry's words without their reserved bits. -/
def flowClean (ws : List Nat) : List Nat :=
  (flowMask (bitsOf (ws.getD 0 0) 30 28)).zipIdx.map fun m => ws.getD m.2 0 &&& m.1

/-- Reserved bits of word 0 in which the model keeps what no window shows: bit 16 that the next slot holds this entry's tail, and
bit 17 that a fragment created it (R266; DESIGN CHOICE, log entry 109). -/
def tailBit : Nat := 16
/-- The fragment mark. -/
def fragBit : Nat := 17

/-- R266: the entry serves fragments: its ports are 0, 0 and it marks them, or its protocol is one whose datagrams have ports. -/
def fragWords (ws : List Nat) : Bool :=
  bitsOf (ws.getD 0 0) 30 28 == 0 && ws.getD 3 0 == 0 &&
    ((ws.getD 0 0).testBit fragBit || ws.getD 4 0 / 2 ^ 24 == 6 || ws.getD 4 0 / 2 ^ 24 == 17)

/-- The place of common word k (3 to 7) in an entry's words. -/
def cw (kind k : Nat) : Nat := if isDouble kind then k + 6 else k

/-- The key of an entry's words (R256, R257). -/
def keyOf (ws : List Nat) : FlowKey :=
  let g (k : Nat) : Nat := ws.getD k 0
  let kind := bitsOf (g 0) 30 28
  let w3 := g (cw kind 3)
  let proto := g (cw kind 4) / 2 ^ 24
  if isDouble kind then
    ⟨kind, ((g 1 * 2 ^ 32 + g 2) * 2 ^ 32 + g 3) * 2 ^ 32 + g 4, ((g 5 * 2 ^ 32 + g 6) * 2 ^ 32 + g 7) * 2 ^ 32 + g 8,
      w3 / 65536, w3 % 65536, proto⟩
  else ⟨kind, g 1, g 2, w3 / 65536, w3 % 65536, proto⟩

/-- Both hashes of a key (R253). -/
def Dev.keyHash (s : Dev) (k : FlowKey) : Nat × Nat :=
  let t : Tuple := { kind := k.kind, src := k.a, dst := k.b, proto := k.proto, sport := k.pa, dport := k.pb }
  let seed := s.rd R.RULE_HASH_SEED
  (tupleHash t seed, tupleHash t (0xFFFFFFFF - seed))

/-- Index of slot 0 of the candidate buckets (R253). -/
def bucket1 (h : Nat) : Nat := (h % 4) * 2097152 + (h / 4 % 2 ^ 19) * 4
/-- The second candidate. -/
def bucket2 (h h2 : Nat) : Nat := (h % 4) * 2097152 + (h2 % 2 ^ 19) * 4

/-- A slot holds the tail of a double entry, which may be invalid (R257). -/
def Dev.isTail (s : Dev) (i : Nat) : Bool := i % 2 == 1 && s.tfld T.flow (i - 1) 0 tailBit tailBit == 1

/-- A slot is in use. -/
def Dev.slotUsed (s : Dev) (i : Nat) : Bool := s.tfld T.flow (if s.isTail i then i - 1 else i) 0 31 31 == 1

/-- A slot holds a valid head. -/
def Dev.isHead (s : Dev) (i : Nat) : Bool := !s.isTail i && s.tfld T.flow i 0 31 31 == 1 && s.tfld T.flow i 0 30 28 != 5

/-- The matching head in a bucket (R254); `fr` restricts it to entries that serve fragments, or to the others (R266). -/
def Dev.bucketFind (s : Dev) (k : FlowKey) (b : Nat) (bad : List Nat) (fr : Option Bool) : Option Nat :=
  if bad.contains b then none
  else (List.range 4).findSome? fun j =>
    let ws := s.flowWords (b + j)
    if s.isHead (b + j) = true ∧ keyOf ws = k ∧ (fr = none ∨ fr = some (fragWords ws)) then some (b + j) else none

/-- The entry that matches a key (R254), of those that serve fragments or of the others when `fr` says so (R266). -/
def Dev.flowFind (s : Dev) (k : FlowKey) (h h2 : Nat) (bad : List Nat) (fr : Option Bool := none) : Option Nat :=
  match s.bucketFind k (bucket1 h) bad fr with
  | some i => some i
  | none => s.bucketFind k (bucket2 h h2) bad fr

/-- A common word of entry i. -/
def Dev.fw (s : Dev) (i k : Nat) : Nat :=
  if isDouble (s.tfld T.flow i 0 30 28) then s.tab T.flow (i + 1) (k - 2) else s.tab T.flow i k

/-- Store a common word of entry i. -/
def Dev.setFw (i k v : Nat) (s : Dev) : Dev :=
  if isDouble (s.tfld T.flow i 0 30 28) then s.setTab T.flow (i + 1) (k - 2) v else s.setTab T.flow i k v

/-- The age stamp (R268). -/
def Dev.flowStamp (s : Dev) : Nat := (s.turnCnt >>> s.fld R.FLOW_AGE_CFG 19 16) % 65536

/-- R272: the filter of FLOW_PURGE selects the entry. -/
def Dev.purgeMatch (s : Dev) (i : Nat) : Bool :=
  let p := s.rd R.FLOW_PURGE
  (!p.testBit 30 || bitsOf (s.fw i 5) 15 8 == p % 256) &&
    (!p.testBit 29 || bitsOf (s.fw i 4) 23 18 == bitsOf p 21 16 || bitsOf (s.fw i 4) 17 12 == bitsOf p 21 16)

/-- R272: a running purge selects the entry. -/
def Dev.purged (s : Dev) (i : Nat) : Bool := s.bit R.FLOW_PURGE 31 && s.purgeMatch i

/-- STATE of an entry; reserved codes act as CLOSED (R265). -/
def Dev.flowState (s : Dev) (i : Nat) : Nat :=
  let v := s.tfld T.flow i 0 27 24
  if (1 ≤ v ∧ v ≤ 6) ∨ v = 8 ∨ v = 9 then v else 6

/-- R264, R265: the next state of an entry and the FIN bits, from its state, FIN_A and FIN_B, INIT_A, the sending end, and
the TCP flags of an unfragmented TCP frame. -/
def nextState (st : Nat) (finA finB initA fromA : Bool) (tcp : Option Nat) : Nat × Bool × Bool :=
  let byInit := fromA == initA
  if st = 8 then (if byInit then 8 else 9, finA, finB)
  else if st = 9 then (9, finA, finB)
  else
    match tcp with
    | none => (st, finA, finB)
    | some fl =>
      let fin := fl.testBit 0
      let syn := fl.testBit 1
      let ack := fl.testBit 4
      if fl.testBit 2 then (6, finA, finB)
      else if st = 1 ∧ syn = true ∧ ack = true ∧ byInit = false then (2, finA, finB)
      else if st = 2 ∧ ack = true ∧ syn = false ∧ byInit = true then (3, finA, finB)
      else if st = 3 ∧ fin = true then (4, finA || fromA, finB || !fromA)
      else if st = 4 ∧ fin = true ∧ (if fromA then finA else finB) = false then (5, true, true)
      else (st, finA, finB)

/-- R258: a counter of an entry is at its largest value: its SAT bit is 1. -/
def Dev.flowSat (i bit : Nat) (s : Dev) : Dev :=
  let w := s.fw i 5
  let other := if bit = 22 then 21 else 22
  if w.testBit bit then s
  else
    let s := s.setFw i 5 (w ||| 2 ^ bit)
    let s := if w.testBit other then s else s.inc C.FLOW_CTR_SAT
    s.raise 0x90000 4

/-- R258: count octets in an entry; FREEZE of the FLOW page stops its counters (R368). -/
def Dev.flowOctets (i octets : Nat) (s : Dev) : Dev :=
  let o := s.fw i 7 + 2 ^ 32 * (s.fw i 5 % 256)
  if o = 2 ^ 40 - 1 ∨ s.frozen 0x90000 = true then s
  else
    let n := min (2 ^ 40 - 1) (o + octets)
    let s := (s.setFw i 7 (n % 2 ^ 32)).setFw i 5 (withBits (s.fw i 5) 7 0 (n / 2 ^ 32))
    if n = 2 ^ 40 - 1 then s.flowSat i 21 else s

/-- R258: count a frame in an entry. -/
def Dev.flowCount (i octets : Nat) (s : Dev) : Dev :=
  let p := s.fw i 6
  let s := if p = 0xFFFFFFFF ∨ s.frozen 0x90000 = true then s
    else
      let s := s.setFw i 6 (p + 1)
      if p + 1 = 0xFFFFFFFF then s.flowSat i 22 else s
  s.flowOctets i octets

/-- The words of a TRACK request with the octets that they count. -/
def trackOctets (ws : List Nat) (octets : Nat) : List Nat :=
  let k := if ws.length ≤ 8 then 5 else 11
  (ws.set k (withBits (ws.getD k 0) 7 0 (octets / 2 ^ 32))).set (k + 2) (octets % 2 ^ 32)

/-- The words of entry i as its window shows them: 16 for a double entry, else 8. -/
def Dev.flowShown (s : Dev) (i : Nat) : List Nat := flowClean (s.flowWords i)

/-- Entry words without the flow counters of R258, which are never journaled (R559). -/
def flowPlain (ws : List Nat) : List Nat :=
  let b := if ws.length ≤ 8 then 5 else 11
  ((ws.set b (ws.getD b 0 / 2 ^ 8 * 2 ^ 8)).set (b + 1) 0).set (b + 2) 0

/-- R559: record what changed in flow entry i since it read `old`: the entry, or its AGE alone. -/
def Dev.jrnFlow (i : Nat) (old : List Nat) (s : Dev) : Dev :=
  let new := flowPlain (s.flowShown i)
  let was := flowPlain old
  if new = was then s
  else if new.tail = was.tail ∧ new.headD 0 / 65536 = was.headD 0 / 65536 then s.jrn 7 [2 ^ 31, i, new.headD 0 % 65536]
  else s.jrn 6 (i :: new)

/-- R255: what a hit writes into its entry: stamp, state and counters. -/
def Dev.flowTouch (i : Nat) (fromA : Bool) (tcp : Option Nat) (octets : Nat) (s : Dev) : Dev :=
  let old := s.flowShown i
  let w5 := s.fw i 5
  let r := nextState (s.flowState i) (w5.testBit 20) (w5.testBit 19) (s.tfld T.flow i 0 19 19 == 1) fromA tcp
  let s := (s.setTfld T.flow i 0 27 24 r.1).setTfld T.flow i 0 15 0 s.flowStamp
  let s := s.setFw i 5 (withBits (withBits w5 20 20 (if r.2.1 then 1 else 0)) 19 19 (if r.2.2 then 1 else 0))
  (s.flowCount i octets).jrnFlow i old

/-- R275: buckets read uncorrectable. -/
def Dev.flowBad (b : Nat) (s : Dev) : Dev :=
  let s := ((s.inc C.FLOW_UNCORR).wr R.FLOW_ERR_INDEX (2 ^ 31 + b % 2 ^ 23)).raise 0x90000 2
  { (s.dramUncorr 0 b) with lk := { s.lk with badBuckets := b :: s.lk.badBuckets.filter (· != b) } }

/-- The lookup is off: FLOW_CTRL.EN clear, or the DRAM not yet trained (R537). -/
def Dev.flowOff (s : Dev) : Bool := !s.bit R.FLOW_CTRL 0 || !s.bit R.DRAM_STAT 0

/-- R258: frame f, still arriving, counts in entry i. -/
def Dev.flowJoin (f i : Nat) (s : Dev) : Dev :=
  let v := s.frame f
  if v.more then s.setFrame f { v with flowAt := i :: v.flowAt } else s

/-- R271: entry i is no longer cached: what the cache held of it stands in DRAM. -/
def Dev.flowCacheDrop (i : Nat) (s : Dev) : Dev := { s with lk := { s.lk with cache := s.lk.cache.filter fun e => e.1 != i } }

/-- R270, R526: every cache is written back and empty. -/
def Dev.flowCacheEmpty (s : Dev) : Dev := { s with lk := { s.lk with cache := [] } }

/-- The cached entries of shard k, oldest fill first. -/
def Dev.flowCacheOf (s : Dev) (k : Nat) : List (Nat × List Nat) := s.lk.cache.filter fun e => e.1 / 2097152 == k

/-- R271: entry i, read from DRAM, enters its Spindle's cache, from which the oldest fill is written back when it is full. (DESIGN
CHOICE, log entry 110.) -/
def Dev.flowCacheFill (i : Nat) (s : Dev) : Dev :=
  let s := s.add64 C.FLOW_CACHE_MISS 1
  let s := if (s.flowCacheOf (i / 2097152)).length < 65536 then s
    else
      match s.flowCacheOf (i / 2097152) with
      | e :: _ => s.flowCacheDrop e.1
      | [] => s
  { s with lk := { s.lk with cache := s.lk.cache ++ [(i, s.flowWords i)] } }

/-- R271, R275: a lookup finds entry i; `lost` that its cached copy is uncorrectable, so that the entry is what the DRAM holds. -/
def Dev.flowCacheUse (i : Nat) (lost : Bool) (s : Dev) : Dev :=
  match s.lk.cache.find? fun e => e.1 == i with
  | none => s.flowCacheFill i
  | some e =>
    if lost then
      (((if e.2.length ≤ 8 then s.setEntry T.flow i e.2
        else (s.setEntry T.flow (i + 1) (e.2.drop 8)).setEntry T.flow i (e.2.take 8))).flowCacheDrop i).flowCacheFill i
    else s

/-- R255: step 6 of R30 for a tuple from a source zone: the entry that it hits, if it does. -/
def Dev.flowLookup (t : Tuple) (origin : Bool) (hash srcZone : Nat) (env : PassEnv) (s : Dev) : Option Nat × Dev :=
  let s := (s.add64 C.FLOW_LOOKUPS 1).incBy C.FLOW_ECC_CORR env.flowCorr
  if s.flowOff = true ∨ t.kind = 1 then (none, s)
  else
    let h2 := tupleHash t (0xFFFFFFFF - s.rd R.RULE_HASH_SEED)
    let mine := env.flowBad.filter fun b => b == bucket1 hash || b == bucket2 hash h2
    let s := forL mine Dev.flowBad s
    match s.flowFind (t.key origin) hash h2 mine (some t.frag) with
    | none => (none, s.add64 C.FLOW_CACHE_MISS 1)
    | some i =>
      let s := s.flowCacheUse i env.flowLost
      let own := if t.srcIsA origin then bitsOf (s.fw i 4) 23 18 else bitsOf (s.fw i 4) 17 12
      if s.purged i = true ∨ s.flowState i = 6 then (none, s)
      else if own ≠ srcZone then (none, s.inc C.FLOW_ZONE_MISMATCH)
      else (some i, s)

/-- The zone that an entry stores for the end that did not send. -/
def Dev.otherZone (s : Dev) (i : Nat) (fromA : Bool) : Nat :=
  if fromA then bitsOf (s.fw i 4) 17 12 else bitsOf (s.fw i 4) 23 18

/-- The insertion queue of a shard. -/
def Dev.insQ (s : Dev) (k : Nat) : List FlowReq := smGet (fun _ => []) s.lk.ins k

/-- Store an insertion queue. -/
def Dev.setInsQ (k : Nat) (l : List FlowReq) (s : Dev) : Dev :=
  { s with lk := { s.lk with ins := smSet (fun _ => []) s.lk.ins k l } }

/-- R259: the words of a new entry. -/
def Dev.trackWords (t : Tuple) (origin : Bool) (prof srcZone dstZone actA ver octets : Nat) (s : Dev) : List Nat :=
  let fromA := t.srcIsA origin
  let k := t.key origin
  let st := match t.tcp with
    | some fl => if fl.testBit 1 = true ∧ fl.testBit 4 = false then 1 else 3
    | none => 8
  let w0 := 2 ^ 31 + k.kind * 2 ^ 28 + st * 2 ^ 24 + prof * 2 ^ 20 + (if fromA then 2 ^ 19 else 0) + s.flowStamp +
    if t.frag then 2 ^ fragBit else 0
  let za := if fromA then srcZone else dstZone
  let zb := if fromA then dstZone else srcZone
  let w3 := k.pa * 65536 + k.pb
  let w4 := k.proto * 2 ^ 24 + za * 2 ^ 18 + zb * 2 ^ 12 + actA % 4096
  let b (i j : Nat) : Nat := if actA.testBit i then 2 ^ j else 0
  let w5 := b 27 31 + b 24 30 + bitsOf actA 23 21 * 2 ^ 27 + b 28 26 + bitsOf actA 15 13 * 2 ^ 23 + ver * 256 + octets / 2 ^ 32
  if isDouble k.kind then
    let q (v i : Nat) : Nat := v / 2 ^ (32 * (3 - i)) % 2 ^ 32
    [w0, q k.a 0, q k.a 1, q k.a 2, q k.a 3, q k.b 0, q k.b 1, q k.b 2, q k.b 3, w3, w4, w5, 1, octets % 2 ^ 32,
      2 ^ 31 + 5 * 2 ^ 28, 0]
  else [w0, k.a, k.b, w3, w4, w5, 1, octets % 2 ^ 32]

/-- R266: an unfragmented IPv4 datagram of TCP or UDP with both ports 0: an entry with these ports is created only by a fragment.
(DESIGN CHOICE, log entry 109.) -/
def Tuple.portless (t : Tuple) : Bool :=
  t.kind == 0 && !t.frag && (t.proto == 6 || t.proto == 17) && t.sport == 0 && t.dport == 0

/-- The requests of shard k's insertion queue that its 1,024 places hold: the others wait beside it. -/
def Dev.insLen (s : Dev) (k : Nat) : Nat :=
  ((s.insQ k).filter fun q => match q with
    | .track .. | .search .. => true
    | .purge .. | .pass .. => false).length

/-- R251, R259, R260, R264, R537: a TRACK action of a pass: 0 nothing to create, 1 a request was queued, 2 a failed
insertion. -/
def Dev.track (f : Nat) (t : Tuple) (origin : Bool) (prof srcZone dstZone actA : Nat) (copies : List Copy) (s : Dev) :
    Nat × Dev :=
  let v := s.frame f
  let w0 := s.tab T.prof prof 0
  let noSyn := match t.tcp with
    | some fl => !(fl.testBit 1 && !fl.testBit 4) && !w0.testBit 30
    | none => false
  if s.bit R.FLOW_CTRL 0 = false then (0, s)
  else if t.kind = 1 ∨ w0.testBit 31 = false ∨ t.portless = true then (0, s.inc C.FLOW_NOT_TRACKABLE)
  else if noSyn then (0, s.inc C.FLOW_TRACK_NOSYN)
  else if s.bit R.DRAM_STAT 0 = false ∨ 1024 ≤ s.insLen (v.hash % 4) then (2, s.inc C.FLOW_INS_DROP)
  else
    let ws := s.trackWords t origin prof srcZone dstZone actA v.rver v.octets
    let h2 := tupleHash t (0xFFFFFFFF - s.rd R.RULE_HASH_SEED)
    (1, s.setInsQ (v.hash % 4) (s.insQ (v.hash % 4) ++ [.track f v.hash h2 ws v.octets (t.tcp.getD 256) copies]))

/-- What slot i held of a double entry is gone: its tail slot is empty, or its head has no tail. -/
def Dev.flowSplit (i : Nat) (s : Dev) : Dev :=
  if s.isTail i then s.setTfld T.flow (i - 1) 0 tailBit tailBit 0
  else if s.isTail (i + 1) then (s.setTfld T.flow i 0 tailBit tailBit 0).setEntry T.flow (i + 1) (List.replicate 8 0)
  else s

/-- Invalidate entry i, head first (R257). The tail slot's words are cleared with its VALID. -/
def Dev.flowClear (i : Nat) (s : Dev) : Dev :=
  (((s.setTfld T.flow i 0 31 31 0).flowSplit i).flowCacheDrop i).jrn 6 (i :: List.replicate 8 0)

/-- Write an entry at slot i (R256, R257). A double entry's words 8 to 15 stand in the next slot. -/
def Dev.flowPut (i : Nat) (ws : List Nat) (s : Dev) : Dev :=
  let s := (s.flowSplit i).flowCacheDrop i
  (if ws.length ≤ 8 then s.setEntry T.flow i ws
    else (s.setEntry T.flow (i + 1) (ws.drop 8)).setEntry T.flow i ((ws.take 8).set 0 (withBits (ws.getD 0 0) tailBit tailBit 1))).jrn 6
      (i :: flowPlain (flowClean ws))

end Sys2Proof.Machine
end

