-- ==== Sys2Proof/Machine/FlowEng.lean ====
section
/-! DEFINITION. The insertion engine, the search interface, ageing and purge of the flow table (R260 to R263, R268 to
R273, R275). -/

namespace Sys2Proof.Machine

/-- Slots that an entry of a kind takes. -/
def kindSize (kind : Nat) : Nat := if isDouble kind then 2 else 1

/-- The lowest free place of a size in a bucket, given which of its slots are in use (R253). -/
def freePlace (used : Nat → Bool) (size : Nat) : Option Nat :=
  if size = 1 then (List.range 4).find? fun j => !used j else [0, 2].find? fun j => !used j && !used (j + 1)

/-- A free place in a bucket; a bucket that reads uncorrectable takes no entry. -/
def Dev.flowFree (s : Dev) (b size : Nat) (bad : List Nat) : Option Nat :=
  if bad.contains b then none else (freePlace (fun j => s.slotUsed (b + j)) size).map (b + ·)

/-- R262: the victim in a bucket for an arriving entry of a size, not already on the chain. -/
def Dev.flowVictim (s : Dev) (b size : Nat) (on : List Nat) : Option Nat :=
  ((List.range 4).find? fun j =>
    let d := kindSize (s.tfld T.flow (b + j) 0 30 28)
    s.isHead (b + j) && !on.contains (b + j) &&
      (freePlace (fun i => s.slotUsed (b + i) && !(decide (j ≤ i ∧ i < j + d))) size).isSome).map (b + ·)

/-- The other candidate bucket of the entry at slot v of bucket b. -/
def Dev.flowOther (s : Dev) (v b : Nat) : Nat :=
  let h := s.keyHash (keyOf (s.flowWords v))
  if bucket1 h.1 = b then bucket2 h.1 h.2 else bucket1 h.1

/-- R262: the chain of kicks from a bucket, each a victim with the bucket that it moves to, first kick first. -/
def Dev.flowChain (s : Dev) (bad : List Nat) : Nat → Nat → Nat → List (Nat × Nat) → Option (List (Nat × Nat))
  | 0, _, _, _ => none
  | n + 1, b, size, acc =>
    if bad.contains b then none
    else
      match s.flowVictim b size (acc.map (·.1)) with
      | none => none
      | some v =>
        let o := s.flowOther v b
        let sz := kindSize (s.tfld T.flow v 0 30 28)
        let acc := acc ++ [(v, o)]
        if (s.flowFree o sz bad).isSome then some acc else s.flowChain bad n o sz acc

/-- Move the entry at slot v into bucket o (R262). -/
def Dev.flowMove (v o : Nat) (s : Dev) : Dev :=
  let ws := s.flowWords v
  match s.flowFree o (kindSize (s.tfld T.flow v 0 30 28)) [] with
  | none => s
  | some i => (s.flowPut i ws).flowClear v

/-- R262: place an entry, answering its index, or nothing when no chain exists. (DESIGN CHOICE, log entry 35.) -/
def Dev.flowPlace (h h2 : Nat) (ws : List Nat) (bad : List Nat) (s : Dev) : Option (Nat × Dev) :=
  let size := if ws.length ≤ 8 then 1 else 2
  match (match s.flowFree (bucket1 h) size bad with
    | some i => some i
    | none => s.flowFree (bucket2 h h2) size bad) with
  | some i => some (i, s.flowPut i ws)
  | none =>
    match s.flowChain bad (max 1 (s.fld R.FLOW_INS_CFG 4 0)) (bucket1 h) size [] with
    | none => none
    | some c =>
      let s := forL c.reverse (fun p s => s.flowMove p.1 p.2) s
      match s.flowFree (bucket1 h) size [] with
      | none => none
      | some i => some (i, s.flowPut i ws)

/-- R263: an insertion without a chain. -/
def Dev.flowFull (s : Dev) : Dev := (s.inc C.FLOW_INS_FAIL).raiseOnce 0x90000 0

/-- R263: the end of a TRACK request: the copies that waited for it go on, or are dropped when it failed. -/
def Dev.trackEnd (f : Nat) (copies : List Copy) (ok : Bool) (s : Dev) : Dev :=
  if copies = [] then s
  else
    let s := if ok then
        let s := forL copies Dev.handOver s
        if (s.frame f).learn.isSome then s.learnAsk f { vlan := (s.frame f).learn } else s
      else s.incBy C.FLOW_FULL_DROP copies.length
    s.endArrival f

/-- R260: a TRACK request is served: answers whether the entry exists now. -/
def Dev.flowInsert (h h2 : Nat) (ws : List Nat) (octets flags : Nat) (bad : List Nat) (s : Dev) : Bool × Dev :=
  let ws := ws.set 0 (withBits (ws.getD 0 0) 15 0 s.flowStamp)
  match s.flowFind (keyOf ws) h h2 bad (some (fragWords ws)) with
  | some i =>
    if s.flowState i = 5 ∨ s.flowState i = 6 then (true, (s.flowPut i ws).add64 C.FLOW_INSERTS 1)
    else
      (true, (s.flowTouch i ((ws.getD 0 0).testBit 19) (if flags = 256 then none else some flags) octets).inc
        C.FLOW_INS_EXISTS)
  | none =>
    match s.flowPlace h h2 ws bad with
    | some p => (true, p.2.add64 C.FLOW_INSERTS 1)
    | none => (false, s.flowFull)

/-- R272: a purge's invalidation: the entry that the scanner found, wherever a relocation has put it. -/
def Dev.purgeServe (i : Nat) (ws : List Nat) (s : Dev) : Dev :=
  let at_ := if s.isHead i = true ∧ keyOf (s.flowWords i) = keyOf ws then some i
    else
      let h := s.keyHash (keyOf ws)
      s.flowFind (keyOf ws) h.1 h.2 [] (some (fragWords ws))
  match at_ with
  | some j => if s.purgeMatch j then (s.flowClear j).inc C.FLOW_PURGED else s
  | none => s

/-- R260, R41: a purge's invalidation or the copies of a later frame, at the head of an insertion queue: served at once. -/
def Dev.insAuto (k : Nat) : Nat → Dev → Dev
  | 0, s => s
  | n + 1, s =>
    match s.insQ k with
    | .purge i ws :: rest => ((s.setInsQ k rest).purgeServe i ws).insAuto k n
    | .pass f _ copies :: rest => ((forL copies Dev.handOver (s.setInsQ k rest)).endArrival f).insAuto k n
    | _ => s

/-- Shard k's queue goes on after its head was served. -/
def Dev.insNext (k : Nat) (s : Dev) : Dev := s.insAuto k (s.insQ k).length

/-- FLOW_INSERT_SERVE (R260): shard k's engine serves the request at its head when that is a TRACK. `bad` are buckets
that read uncorrectable (R275). -/
def execFlowInsertServe (k : Nat) (bad : List Nat) (s : State) : Host.Outcome State Fault Refusal :=
  onDev (fun s =>
    match if s.spindlesOn then s.insQ k else [] with
    | .track f h h2 ws octets flags copies :: rest =>
      let s := s.setInsQ k rest
      let mine := bad.filter fun b => b == bucket1 h || b == bucket2 h h2
      match (forL mine Dev.flowBad s).flowInsert h h2 ws octets flags mine with
      | (ok, s) =>
        let s := match s.flowFind (keyOf ws) h h2 [] (some (fragWords ws)) with
          | some i => if ok then s.flowJoin f i else s
          | none => s
        (s.trackEnd f copies ok).insNext k
    | _ => s) s

/-- The entry words in FLOW_SRCH_DATA. -/
def Dev.srchWords (s : Dev) : List Nat := (List.range 16).map fun k => s.rd (R.FLOW_SRCH_DATA k)

/-- A search operation ends with a STATUS (R273). -/
def Dev.srchEnd (st : Nat) (s : Dev) : Dev :=
  ((s.setBit R.FLOW_SRCH_CMD 31 false).setFld R.FLOW_SRCH_CMD 23 16 st).raise 0x90000 3

/-- R273: a write of FLOW_SRCH_CMD with an OP; 0 is no operation. -/
def Dev.srchOp (op : Nat) (s : Dev) : Dev :=
  if s.bit R.FLOW_SRCH_CMD 31 then s
  else if op = 0 then s.setFld R.FLOW_SRCH_CMD 1 0 0
  else
    let s := s.setFld R.FLOW_SRCH_CMD 1 0 op
    let ws := s.srchWords
    let kind := bitsOf (ws.getD 0 0) 30 28
    if kind ≠ 0 ∧ kind ≠ 2 ∧ kind ≠ 4 then s.srchEnd 4
    else
      let h := s.keyHash (keyOf ws)
      (s.setBit R.FLOW_SRCH_CMD 31 true).setInsQ (h.1 % 4) (s.insQ (h.1 % 4) ++ [.search op h.1 h.2])

/-- R63, R67, R273: an OP write by any requester. -/
def Dev.srchWrite (r : Req) (op : Nat) (s : Dev) : Dev :=
  if s.reach r R.FLOW_SRCH_CMD = false then s
  else if s.mayWrite r R.FLOW_SRCH_CMD = false then
    let s := s.viol R.FLOW_SRCH_CMD
    if s.bit R.FLOW_SRCH_CMD 31 = true ∨ op = 0 ∨ s.ready R.FLOW_SRCH_CMD = false then s else s.srchEnd 6
  else if s.ready R.FLOW_SRCH_CMD = false then s
  else s.srchOp op

/-- FIND (R273). -/
def execFind (r : Req) (s : State) : Host.Outcome State Fault Refusal := onDev (Dev.srchWrite r 1) s

/-- INSERT (R273). -/
def execInsert (r : Req) (s : State) : Host.Outcome State Fault Refusal := onDev (Dev.srchWrite r 2) s

/-- DELETE (R273). -/
def execDelete (r : Req) (s : State) : Host.Outcome State Fault Refusal := onDev (Dev.srchWrite r 3) s

/-- R273: the words that INSERT places. -/
def srchEntry (ws : List Nat) : List Nat :=
  let w0 := withBits (ws.getD 0 0) 31 31 1
  flowClean (if isDouble (bitsOf w0 30 28) then (ws.set 0 w0).set 14 (2 ^ 31 + 5 * 2 ^ 28) else (ws.set 0 w0).take 8)

/-- R273: a search operation is served. A candidate bucket that reads uncorrectable gives UNCORRECTABLE unless the match
stands in the other. -/
def Dev.srchServe (op h h2 : Nat) (bad : List Nat) (s : Dev) : Dev :=
  let ws := s.srchWords
  match s.flowFind (keyOf ws) h h2 bad with
  | some i =>
    if op = 1 then
      (((s.flowShown i).zipIdx.foldl (fun s p => s.wr (R.FLOW_SRCH_DATA p.2) p.1) s).wr R.FLOW_SRCH_INDEX i).srchEnd 0
    else if op = 2 then s.srchEnd 2
    else (s.flowClear i).srchEnd 0
  | none =>
    if bad ≠ [] then s.srchEnd 5
    else if op = 2 then
      match s.flowPlace h h2 (srchEntry ws) [] with
      | some p => (p.2.add64 C.FLOW_INSERTS 1).srchEnd 0
      | none => s.flowFull.srchEnd 3
    else s.srchEnd 1

/-- SRCH_DONE (R273): the search operation at the head of shard k's queue is served and completes. -/
def execSrchDone (k : Nat) (bad : List Nat) (s : State) : Host.Outcome State Fault Refusal :=
  onDev (fun s =>
    match if s.spindlesOn then s.insQ k else [] with
    | .search op h h2 :: rest =>
      let s := s.setInsQ k rest
      let mine := bad.filter fun b => b == bucket1 h || b == bucket2 h h2
      ((forL mine Dev.flowBad s).srchServe op h h2 mine).insNext k
    | _ => s) s

/-- FLOW_PURGE_WRITE (R272). -/
def Dev.purgeWrite (v : Nat) (s : Dev) : Dev :=
  if s.bit R.FLOW_PURGE 31 then s
  else
    let s := s.wr R.FLOW_PURGE (v &&& 0xE03F00FF)
    if v.testBit 31 then { s with lk := { s.lk with purge := {} } } else s

/-- FLOW_PURGE_WRITE (R272). -/
def execFlowPurgeWrite (r : Req) (v : Nat) (s : State) : Host.Outcome State Fault Refusal :=
  onDev (Dev.guarded r R.FLOW_PURGE (Dev.purgeWrite v)) s

/-- The timeout of entry i's state in age units (R264, R265, R267). -/
def Dev.flowTimeout (s : Dev) (i : Nat) : Nat :=
  let p := s.tfld T.flow i 0 23 20
  let st := s.flowState i
  let t := if st = 1 ∨ st = 2 then s.tab T.prof p 1 / 65536 else if st = 3 then s.tab T.prof p 1 % 65536
    else if st = 4 then s.tab T.prof p 2 / 65536 else if st = 8 then s.tab T.prof p 3 / 65536
    else if st = 9 then s.tab T.prof p 3 % 65536 else s.tab T.prof p 2 % 65536
  min 32767 t

/-- Valid heads. -/
def Dev.flowHeads (s : Dev) : List Nat := (s.listed T.flow 0).filter s.isHead

/-- One visit of the scanner to an entry (R268, R272). A purge's invalidation waits for the requests before it (R260). -/
def Dev.flowVisit (i : Nat) (s : Dev) : Dev :=
  if s.purged i then
    let k := i / 2097152
    (s.setInsQ k (s.insQ k ++ [.purge i (s.flowWords i)])).insNext k
  else if s.tfld T.flow i 0 18 18 = 1 then s
  else if s.flowTimeout i < (s.flowStamp + 65536 - s.tfld T.flow i 0 15 0) % 65536 then
    (s.flowClear i).add64 C.FLOW_AGED 1
  else s

/-- FLOW_AGE_CFG.SLICE within its limits. -/
def Dev.flowSlice (s : Dev) : Nat := min 4096 (max 64 (s.fld R.FLOW_AGE_CFG 12 0))

/-- R268, R272, R275: the flow scanner's slice in step 6 of a turn edge. `bad` are the slots whose words fail their check. -/
def Dev.flowScan (bad : List Nat) (s : Dev) : Dev :=
  let n := s.flowSlice
  let pos := s.lk.flowPos
  let inSlice (i : Nat) : Bool := decide ((i / 4 % 524288 + 524288 - pos) % 524288 < n)
  let run := s.bit R.FLOW_PURGE 31
  let ends := run && s.lk.purge.left == some 0
  let s := if ends then (s.setBit R.FLOW_PURGE 31 false).raise 0x90000 1 else s
  let left := if run = false ∨ ends = true then none else some ((s.lk.purge.left.getD 524288) - n)
  let dead := bad.filter fun i => inSlice i && s.lk.badBuckets.contains (i - i % 4)
  let s := forL dead (fun i s => if s.isHead i then s.flowClear i else if s.isTail i then s.flowClear (i - 1) else s) s
  let s := forL (s.flowHeads.filter inSlice) Dev.flowVisit s
  { s with lk := { s.lk with
      flowPos := (pos + n) % 524288
      purge := { left := left }
      badBuckets := s.lk.badBuckets.filter fun b => !inSlice b } }

/-- A read of FLOW_USEDk. -/
def Dev.flowUsed (s : Dev) (k : Nat) : Nat :=
  (s.flowHeads.filter fun i => i / 2097152 == k).foldl (fun n i => n + kindSize (s.tfld T.flow i 0 30 28)) 0

/-- R274: a window write of an entry at an index. -/
def Dev.flowWinWrite (i : Nat) (ws : List Nat) (s : Dev) : Dev :=
  s.flowPut i (flowClean ((ws ++ List.replicate 16 0).take (if isDouble (bitsOf (ws.getD 0 0) 30 28) then 16 else 8)))

end Sys2Proof.Machine
end

