-- ==== Sys2Proof/Machine/Forward.lean ====
section
/-! DEFINITION. Forwarding tables, learning and ageing (chapter 12): where a pass's copies go, the learn engine, the MAC
scanner and the shadow comparator. -/

namespace Sys2Proof.Machine

/-- TTS table 0: active slot entries. -/
def T.slot : Nat := 0x330
/-- TTS table 1: staged slot entries. -/
def T.slotStaged : Nat := 0x331
/-- TTS table 2: active hold buffers. -/
def T.hbuf : Nat := 0x332
/-- TTS table 3: staged hold buffers. -/
def T.hbufStaged : Nat := 0x333

/-- FWD table 3: 11-bit CAN routes. -/
def T.can11 : Nat := 0x433
/-- FWD table 4: 29-bit CAN routes. -/
def T.can29 : Nat := 0x434
/-- Shadow copy k of R295. -/
def T.shadow (k : Nat) : Nat := 0x10400 + k
/-- The admin gate list of port n (TSN table 0). -/
def T.gclAdm (n : Nat) : Nat := 0x20000 + n
/-- The operating gate list of port n (TSN table 1). -/
def T.gclOpr (n : Nat) : Nat := 0x20100 + n

/-- The ports of a LAG. -/
def Dev.lagPorts (s : Dev) (g : Nat) : List Nat := (List.range 32).filter fun n => s.lagOf n == some g

/-- The port of distribution slot k of LAG g (R293). -/
def Dev.lagSlot (s : Dev) (g k : Nat) : Nat := bitsOf (s.rd (R.FWD_LAG_SLOT (4 * g + k / 4))) (8 * (k % 4) + 4) (8 * (k % 4))

/-- R293: the member that a copy to LAG g takes. -/
def Dev.lagPick (s : Dev) (g hash : Nat) : Option Nat :=
  ((List.range 16).map fun k => s.lagSlot g ((hash / 16 + k) % 16)).find? fun p => s.lagOf p == some g && s.portUp p

/-- The set bits of a mask below n. -/
def maskList (n m : Nat) : List Nat := (List.range n).filter fun i => m.testBit i

/-- R294: an uncorrectable word of table t (1 VLAN, 2 stream, 3 or 4 route) at index i: no copy; the comparator checks the index. -/
def Dev.fwdBadWord (t i : Nat) (s : Dev) : Dev :=
  let s := s.inc C.FWD_UNCORR_DROP
  { s with lk := { s.lk with check := s.lk.check ++ [(t - 1, i)] } }

/-- The outer tag of a pass: its TCI's offset and value (R212). -/
def outerTag (m : Meta) (bs : List Byte) : Option (Nat × Nat) :=
  (m.hlist.find? fun h => h.1 == 2 || h.1 == 3).map fun h => (h.2, beAt bs h.2 2)

/-- R277 step 1: the VID of a frame from port p with an outer TCI. -/
def Dev.vidOf (s : Dev) (p : Nat) (tci : Option Nat) : Nat :=
  match tci with
  | some t => if t % 4096 = 0 then s.fld (R.FWD_PORT p) 11 0 else t % 4096
  | none => s.fld (R.FWD_PORT p) 11 0

/-- R277 step 4: the set that the MAC table gives. -/
def Dev.macDest (fid da member : Nat) (bad : List Nat) (s : Dev) : Nat × Dev :=
  match s.macFind fid da bad with
  | none =>
    let blocked := if (da / 2 ^ 40) % 2 = 1 then 0
      else ((List.range 38).filter fun n => s.bit (R.FWD_PORT n) 28).foldl (fun m n => m + 2 ^ n) 0
    ((List.range 38).foldl (fun m n => if member.testBit n ∧ !blocked.testBit n then m + 2 ^ n else m) 0,
      s.add64 C.FWD_FLOOD_FRAMES 1)
  | some i =>
    let w0 := s.tab T.mac i 0
    let w3 := s.tab T.mac i 3
    if w0.testBit 30 = true ∧ w0.testBit 27 = true then (0, s)
    else if w0.testBit 30 = true ∧ w0.testBit 28 = true then (w3 + bitsOf w0 21 16 * 2 ^ 32, s)
    else if w3 % 64 = 34 ∨ 36 ≤ w3 % 64 then (0, s)
    else if w3.testBit 15 then ((s.lagPorts (w3 % 64)).foldl (fun m n => m + 2 ^ n) 0, s)
    else (2 ^ (w3 % 64), s)

/-- R277 step 7: each LAG in a set reduced to one member. -/
def Dev.lagReduce (ports : List Nat) (hash : Nat) (s : Dev) : List Nat × Dev :=
  ports.foldl (fun r p =>
    match s.lagOf p with
    | none => (r.1 ++ [p], r.2)
    | some g =>
      if (ports.find? fun q => s.lagOf q == some g) ≠ some p then r
      else
        match s.lagPick g hash with
        | some q => (r.1 ++ [q], r.2)
        | none => (r.1, r.2.inc C.FWD_LAG_DOWN_DROP)) ([], s)

/-- The egress tagging of R289 on a copy to a port. -/
def egressTag (c : Copy) (port untag vid pcp : Nat) (tag : Option (Nat × Nat)) : Copy :=
  if port = 34 then c
  else if untag.testBit port then { c with tag := 1, otag := (tag.map (·.1)).getD 0 }
  else { c with tag := 2, vid := vid, pcp := pcp, otag := (tag.map (·.1)).getD 0 }

/-- R277: the forwarding lookups of an Ethernet frame f with metadata m and stream handle. -/
def Dev.fwdEth (f : Nat) (m : Meta) (env : PassEnv) (s : Dev) : FwdRes × Dev :=
  let v := s.frame f
  let p := v.inPort
  let tag := outerTag m v.bytes
  let vid := s.vidOf p (tag.map (·.2))
  let s := (s.setFrame f { v with vid := some vid }).incBy C.FWD_ECC_CORR env.fwdCorr
  if env.fwdBad = 1 then ({}, s.fwdBadWord 1 vid)
  else if vid = 0 ∨ vid = 4095 ∨ s.tfld T.vlan vid 0 31 31 = 0 then ({}, s.inc C.FWD_VLAN_UNKNOWN)
  else
    let fid := s.tfld T.vlan vid 0 11 0
    let member := s.tab T.vlan vid 1 + s.tfld T.vlan vid 2 5 0 * 2 ^ 32
    let untag := s.tab T.vlan vid 3 + s.tfld T.vlan vid 2 21 16 * 2 ^ 32
    let res : FwdRes := { vlan := some (vid, fid) }
    if s.bit (R.FWD_PORT p) 27 = true ∧ member.testBit p = false then (res, s.inc C.FWD_VLAN_INGRESS_DROP)
    else
      let da := beAt v.bytes 0 6
      let sa := beAt v.bytes 6 6
      let bad := env.macBad.filter fun b => b == s.macBucket fid da || b == s.macBucket fid sa
      let s := forL bad Dev.macBad s
      let moved := match s.macFind fid sa bad with
        | some i => !s.macGroup i && !s.destIs i p
        | none => false
      let drop := s.fld (R.FWD_PORT p) 30 29 == 1 && moved
      let res := { res with saDrop := drop }
      let s := Dev.when drop (fun s => s.inc C.FWD_SA_MOVE_DROP) s
      let h := v.handle.getD 0
      let replace := v.handle.isSome && s.tfld T.stream h 0 31 30 == 3
      if v.handle.isSome = true ∧ env.fwdBad = 2 then (res, s.fwdBadWord 2 h)
      else
        match (if replace then (s.tab T.stream h 1 + s.tfld T.stream h 0 5 0 * 2 ^ 32, s)
          else s.macDest fid da member bad) with
        | (set, s) =>
          if drop = true then (res, s)
          else
            let keep (n : Nat) : Bool :=
              n != p && n != 36 && n != 37 && (n != 34 || replace) && (replace || member.testBit n) &&
                !((s.lagOf p).isSome && s.lagOf n == s.lagOf p)
            match s.lagReduce ((maskList 38 set).filter keep) v.hash with
            | (ports, s) =>
              let pcp := s.fld (R.FWD_PORT p) 15 13
              let mk (n : Nat) : Copy × Nat :=
                let c := egressTag (s.mkCopy f n v.tc) n untag vid pcp tag
                (if n = 34 then { c with dest := 128 } else c, if n = 34 then 36 else n)
              ({ res with copies := ports.map mk, hst := some (egressTag (s.mkCopy f 35 v.tc) 35 untag vid pcp tag) }, s)

/-- R279: slot 0 of the bucket of a 29-bit route key. -/
def Dev.canBucket (s : Dev) (chan ide id : Nat) : Nat :=
  crc32c (beBytes 1 (ide * 128 + chan) ++ beBytes 4 (id % 2 ^ 29) ++ beBytes 4 (s.rd R.FWD_SEED)) % 2048 * 8

/-- R278: the route of a legacy frame: its table (3 or 4) and entry. -/
def Dev.canRoute (s : Dev) (bs : List Byte) : Nat × Option Nat :=
  let kind := beAt bs 0 1 % 16
  let chan := legChan bs
  let ide := beAt bs 2 1 / 128
  let id := if kind = 5 then 0 else beAt bs 4 4 % 2 ^ 29
  if chan < 24 ∧ (kind = 3 ∨ ((kind = 1 ∨ kind = 2) ∧ ide = 0)) then
    let i := chan * 2048 + id % 2048
    (3, if s.tfld T.can11 i 0 31 31 = 1 then some i else none)
  else
    let b := s.canBucket chan ide id
    (4, (List.range 8).findSome? fun j =>
      if s.tfld T.can29 (b + j) 0 31 31 = 1 ∧ s.tfld T.can29 (b + j) 0 5 0 = chan ∧
          s.tfld T.can29 (b + j) 1 31 31 = ide ∧ s.tfld T.can29 (b + j) 1 28 0 = id then some (b + j) else none)

/-- R294: the index at which the route lookup of a legacy frame meets an uncorrectable word; `way` places it in its bucket. -/
def Dev.routeBadAt (s : Dev) (bs : List Byte) (way : Nat) : Nat :=
  if (s.canRoute bs).1 = 3 then legChan bs * 2048 + beAt bs 4 4 % 2048
  else
    s.canBucket (legChan bs) (beAt bs 2 1 / 128) (if beAt bs 0 1 % 16 = 5 then 0 else beAt bs 4 4 % 2 ^ 29) + way % 8

/-- R278, R292, R29: the copies of a legacy frame. -/
def Dev.fwdLeg (f : Nat) (env : PassEnv) (s : Dev) : FwdRes × Dev :=
  let v := s.frame f
  let chan := legChan v.bytes
  let s := s.incBy C.FWD_ECC_CORR env.fwdCorr
  let toCh (ch : Nat) : Copy × Nat := ({ s.mkCopy f 34 v.tc with dest := ch }, 40 + ch)
  let chans (l : List Nat) (s : Dev) : List (Copy × Nat) × Dev :=
    ((l.filter (· < 36)).map toCh, s.incBy C.GWY_BAD_CHANNEL (l.filter fun c => decide (36 ≤ c)).length)
  if legOrigin v.bytes then
    match chans [chan] s with
    | (l, s) => ({ copies := l }, s)
  else
    match s.canRoute v.bytes with
    | (t, r) =>
      if env.fwdBad = 3 then ({}, s.fwdBadWord t (s.routeBadAt v.bytes env.fwdWay))
      else
        match r with
        | none => ({}, s.inc C.FWD_ROUTE_MISS)
        | some i =>
          let tb := if t = 3 then T.can11 else T.can29
          let o := if t = 3 then 1 else 2
          let mask := s.tab tb i o + s.tab tb i (o + 1) * 2 ^ 32
          match chans ((maskList 64 mask).filter (· != chan)) s with
          | (l, s) =>
            let enc := if s.tfld tb i 0 30 30 = 1 then
              [({ s.mkCopy f 34 v.tc with dest := 64 + s.tfld tb i 0 21 16 }, 34)] else []
            ({ copies := l ++ enc }, s)

/-- PIN_TIME (R285). -/
def Dev.pinTime (s : Dev) : Nat := max 1 (s.fld R.FWD_PIN_CFG 12 0)

/-- R287: the scanner has not visited entry i since the first edge in ACTIVE after REST. -/
def Dev.restAged (s : Dev) (i : Nat) : Bool := decide ((i / 8 + 16384 - s.lk.macPos) % 16384 < s.lk.restLeft)

/-- The gap of entry i since MOVED (R285, R287). -/
def Dev.macGap (s : Dev) (i : Nat) : Nat :=
  let g := (s.turnCnt % 65536 + 65536 - s.tfld T.mac i 3 31 16) % 65536
  if s.restAged i then max 8192 g else g

/-- R285: a move of entry i to port p. -/
def Dev.macMove (i p : Nat) (s : Dev) : Dev :=
  let now := s.turnCnt % 65536
  let gap := s.macGap i
  let unpin := s.tfld T.mac i 0 29 29 = 1 ∧ s.pinTime ≤ gap
  let s := if unpin then (s.setTfld T.mac i 0 29 29 0).setTfld T.mac i 0 25 22 0 else s
  if s.tfld T.mac i 0 29 29 = 1 then s.inc C.FWD_MOVE_REFUSED
  else
    let flaps0 := if s.fld R.FWD_FLAP_CFG 12 0 ≤ gap then 0 else s.tfld T.mac i 0 25 22
    let flaps := min 15 (flaps0 + 1)
    let lim := s.fld R.FWD_FLAP_CFG 27 24
    let s := s.setTfld T.mac i 0 25 22 flaps
    if lim ≠ 0 ∧ flaps = lim then
      let s := (s.setTfld T.mac i 0 29 29 1).setTfld T.mac i 3 31 16 now
      ((s.inc C.FWD_FLAP_PINS).wr R.FWD_FLAP_INFO (2 ^ 31 + i)).raise 0x98000 0
    else if gap < s.fld R.FWD_MOVE_CFG 12 0 then s.inc C.FWD_MOVE_REFUSED
    else
      let s := s.setTab T.mac i 3 (now * 65536 + s.learnDest p)
      (s.setTfld T.mac i 0 15 0 s.macStamp).add64 C.FWD_MAC_MOVES 1

/-- R284: a request applied against the table as it stands. -/
def Dev.learnApply (q : LearnReq) (s : Dev) : Dev :=
  match s.macFind q.fid q.mac s.lk.badMac with
  | some i =>
    if s.tfld T.mac i 0 30 30 = 1 then
      (if s.macSpecial i = true ∨ s.sameDest i q.port = true then s else s.inc C.FWD_MOVE_REFUSED)
    else
      (if s.sameDest i q.port then s.setTfld T.mac i 0 15 0 s.macStamp else s.macMove i q.port).jrnMac T.mac i
        (s.entry T.mac i 4)
  | none =>
    let b := s.macBucket q.fid q.mac
    match (List.range 8).find? fun j => s.tfld T.mac (b + j) 0 31 31 == 0 with
    | none => (s.inc C.FWD_LEARN_FULL).raiseOnce 0x98000 2
    | some j =>
      ((s.setEntry T.mac (b + j) [2 ^ 31 + s.macStamp, q.fid * 2 ^ 20 + q.mac / 2 ^ 32, q.mac % 2 ^ 32,
        s.turnCnt % 65536 * 65536 + s.learnDest q.port]).add64 C.FWD_MAC_LEARNED 1).jrnMac T.mac (b + j)
        (s.entry T.mac (b + j) 4)

/-- LEARN_APPLY (R284): the learn engine applies the oldest request; the words that it reads corrected are counted with the scanner's
(R294). (DEDUCED, log entry 93.) -/
def execLearnApply (s : State) : Host.Outcome State Fault Refusal :=
  onDev (fun s =>
    match s.lk.learn with
    | [] => s
    | q :: rest =>
      if s.spindlesOn = false then s
      else Dev.learnApply q { s with lk := { s.lk with learn := rest } }) s

/-- R286: the scanner visits a valid dynamic entry. -/
def Dev.macVisit (i : Nat) (s : Dev) : Dev :=
  let old := s.entry T.mac i 4
  let now := s.turnCnt % 65536
  let gap := (now + 65536 - s.tfld T.mac i 3 31 16) % 65536
  let pinned := s.tfld T.mac i 0 29 29 == 1
  let s := if 8192 ≤ gap then s.setTfld T.mac i 3 31 16 ((now + 65536 - 8192) % 65536) else s
  let s := if 8192 ≤ gap ∨ (pinned = true ∧ s.pinTime ≤ gap) then
    (s.setTfld T.mac i 0 29 29 0).setTfld T.mac i 0 25 22 0 else s
  (if max 1 (s.fld R.FWD_AGE_TIME 13 0) < (s.macStamp + 65536 - s.tfld T.mac i 0 15 0) % 65536 then
    (s.setTfld T.mac i 0 31 31 0).add64 C.FWD_MAC_AGED 1
  else s).jrnMac T.mac i old

/-- Valid dynamic entries. -/
def Dev.macDyn (s : Dev) : List Nat := (s.listed T.mac 0).filter fun i => s.tfld T.mac i 0 31 30 == 2

/-- R286, R287, R294: the MAC scanner's slice in step 6 of a turn edge; `bad` are entries whose words fail their check, `corr`
words read corrected. At the first edge in ACTIVE after REST no bucket has been visited. -/
def Dev.macScan (bad : List Nat) (corr : Nat) (s : Dev) : Dev :=
  let s := s.incBy C.FWD_ECC_CORR corr
  let n := min 64 (max 1 (s.fld R.FWD_AGE_CFG 6 0))
  let left := if s.lk.restDue then 16384 else s.lk.restLeft
  let pos := s.lk.macPos
  let inSlice (i : Nat) : Bool := decide ((i / 8 + 16384 - pos) % 16384 < n)
  let s := forL (bad.filter fun i => inSlice i && s.lk.badMac.contains (i - i % 8)) (fun i s => s.setTfld T.mac i 0 31 31 0) s
  let s := forL (s.macDyn.filter inSlice) Dev.macVisit s
  { s with lk := { s.lk with
      macPos := (pos + n) % 16384
      badMac := s.lk.badMac.filter fun b => !inSlice b
      restDue := false
      restLeft := left - n } }

/-- R295: entries and words of each shadow table. -/
def shadowDims : List (Nat × Nat) :=
  [(4096, 4), (4096, 2), (49152, 3), (16384, 4), (32768, 20), (32768, 3), (4096, 1), (256, 16), (38, 1), (38912, 2), (8192, 3),
    (1536, 2)]

/-- The words of a shadow table's entry. -/
def shadowWords (t : Nat) : Nat := (shadowDims.getD t (0, 0)).2

/-- R295: the live copy of shadow table t's entry i: a table and an index. -/
def Dev.liveOf (s : Dev) (t i : Nat) : Nat × Nat :=
  if t = 0 then (T.vlan, i) else if t = 1 then (T.stream, i) else if t = 2 then (T.can11, i) else if t = 3 then (T.can29, i)
  else if t = 4 then (T.ruleKey, i) else if t = 5 then (T.ruleCtl, i)
  else if t = 6 then (T.matOf ((s.curSlot (R.RULE_VER_INFLIGHT 0)).getD 0), i) else if t = 7 then (T.node, i)
  else if t = 8 then (T.startOf ((s.curSlot (R.PARS_LIVE 0)).getD 0), i)
  else if t = 9 then (T.gclOpr (i / 1024), i % 1024) else if t = 10 then (T.slot, i) else (T.hbuf, i)

/-- R296: the bits of word w of shadow table t that the comparison leaves out (R248: VALID, OPEN, STAGED, VER_LO and VER_HI;
R173: MSC). -/
def keptBits (t w : Nat) : Nat :=
  if t = 5 ∧ w = 0 then 2 ^ 31 + 2 ^ 30 + 2 ^ 28 + 0xFFFF else if t = 10 ∧ w = 2 then 0x70000 else 0

/-- Whether an entry differs from its shadow. -/
def Dev.shadowDiff (s : Dev) (t i : Nat) : Bool :=
  let l := s.liveOf t i
  (List.range (shadowWords t)).any fun w =>
    (s.tab l.1 l.2 w ^^^ s.tab (T.shadow t) i w) &&& (0xFFFFFFFF - keptBits t w) != 0

/-- R296: a repair: the live entry rewritten from its shadow, the fields that the B960 maintains as they are; a rule
entry's failure mark clears (R248). -/
def Dev.shadowRepair (t i : Nat) (s : Dev) : Dev :=
  let l := s.liveOf t i
  let s := forN (shadowWords t) (fun w s =>
    let k := keptBits t w
    s.setTab l.1 l.2 w ((s.tab l.1 l.2 w &&& k) ||| (s.tab (T.shadow t) i w &&& (0xFFFFFFFF - k)))) s
  let s := if t = 4 ∨ t = 5 then
      Dev.ruleFailShow { s with lk := { s.lk with failed := s.lk.failed.filter fun f => f.2 != i } } else s
  s.inc C.FWD_SHD_REPAIR

/-- R296: a confirmed mismatch. -/
def Dev.shadowConfirm (t i : Nat) (s : Dev) : Dev :=
  let s := (s.inc C.FWD_SHD_MISMATCH).raise 0x98000 1
  let s := if s.bit R.FWD_SHD_STAT 31 then s else s.wr R.FWD_SHD_STAT (2 ^ 31 + t * 2 ^ 24 + i)
  if s.bit R.FWD_SHD_CFG t then s.shadowRepair t i else s

/-- The slice of the comparator from a position: (table, first, count) runs. -/
def shadowRuns : Nat → Nat → Nat → Nat → List (Nat × Nat × Nat)
  | 0, _, _, _ => []
  | fuel + 1, t, i, n =>
    let size := (shadowDims.getD t (1, 1)).1
    if n = 0 then []
    else if i + n < size then [(t, i, n)]
    else (t, i, size - i) :: shadowRuns fuel ((t + 1) % 12) 0 (n - (size - i))

/-- Where the comparator stands after a slice. -/
def shadowNext : Nat → Nat → Nat → Nat → Nat × Nat
  | 0, t, i, _ => (t, i)
  | fuel + 1, t, i, n =>
    let size := (shadowDims.getD t (1, 1)).1
    if i + n < size then (t, i + n) else shadowNext fuel ((t + 1) % 12) 0 (n - (size - i))

/-- Indices of shadow table t that differ, among those that either copy lists: an index that neither lists is zero in both. -/
def Dev.shadowDiffs (s : Dev) (run : Nat × Nat × Nat) : List (Nat × Nat) :=
  let t := run.1
  let inRun (i : Nat) : Bool := decide (run.2.1 ≤ i ∧ i < run.2.1 + run.2.2)
  let keys (tab : Nat) (base : Nat) : List Nat :=
    (s.tabs.filter fun e => decide (tabKey tab 0 0 ≤ e.1 ∧ e.1 < tabKey (tab + 1) 0 0)).map fun e =>
      base + (e.1 / 64) % 2 ^ 32
  let live := if t = 9 then (List.range 38).flatMap fun n => keys (T.gclOpr n) (1024 * n) else keys (s.liveOf t 0).1 0
  let all := ((live ++ keys (T.shadow t) 0).filter inRun).eraseDups
  ((sortBy (fun a b => decide (a ≤ b)) all).filter fun i => s.shadowDiff t i).map fun i => (t, i)

/-- R296: the comparator's slice. `skip` tells tables and entries under a pending commit or swap; `shdBad` are shadow words
and `liveBad` live entries read uncorrectable (R294). -/
def Dev.shadowSlice (skip : Nat → Nat → Bool) (shdBad liveBad : List (Nat × Nat)) (s : Dev) : Dev :=
  if s.bit R.DRAM_STAT 0 = false then s
  else
    let n := max 16 (s.fld R.FWD_SHD_CFG 27 16)
    let t := s.fld R.FWD_SHD_POS 27 24
    let i := s.fld R.FWD_SHD_POS 17 0
    let runs := shadowRuns 24 t i n
    let inRuns (p : Nat × Nat) : Bool := runs.any fun r => decide (r.1 = p.1 ∧ r.2.1 ≤ p.2 ∧ p.2 < r.2.1 + r.2.2)
    let read (p : Nat × Nat) : Bool := inRuns p || s.lk.suspects.contains p || s.lk.check.contains p
    let s := forL (shdBad.filter read) (fun _ s => (((s.shadowWord.2).dramUncorr 3 s.shadowWord.1).inc C.FWD_SHD_UNCORR).raise 0x98000 4) s
    let bad (p : Nat × Nat) : Bool := liveBad.contains p || s.shadowDiff p.1 p.2
    let sound (p : Nat × Nat) : Bool := !skip p.1 p.2 && !shdBad.contains p
    let conf := s.lk.suspects.filter fun p => sound p && bad p
    let found := (runs.flatMap s.shadowDiffs ++ liveBad.filter inRuns ++ s.lk.check.filter bad).eraseDups.filter fun p =>
      sound p && !s.lk.suspects.contains p
    let s := forL conf (fun p s => s.shadowConfirm p.1 p.2) s
    let nx := shadowNext 24 t i n
    { (s.wr R.FWD_SHD_POS (nx.1 * 2 ^ 24 + nx.2)) with lk := { s.lk with suspects := found, check := [] } }

/-- A window write of either copy of an entry ends a suspicion (R296). -/
def Dev.unsuspect (p : Nat × Nat → Bool) (s : Dev) : Dev :=
  { s with lk := { s.lk with suspects := s.lk.suspects.filter fun q => !p q } }

end Sys2Proof.Machine
end

