-- ==== Sys2Proof/Machine/Stream.lean ====
section
/-! DEFINITION. TSN ingress (R326 to R342): stream identification, filters, stream gates, flow meters, sequence recovery and
generation, and the ATS eligibility time. -/

namespace Sys2Proof.Machine

/-- Stream table 0: identification. -/
def T.sid : Nat := 0x510
/-- Stream table 1: filters. -/
def T.filter : Nat := 0x511
/-- Stream table 2: gates. -/
def T.gate : Nat := 0x512
/-- Stream table 3: the gate pool. -/
def T.gpool : Nat := 0x513
/-- Stream table 4: flow meters. -/
def T.meter : Nat := 0x514
/-- Stream table 5: recovery functions. -/
def T.rcvy : Nat := 0x515
/-- Stream table 7: ATS schedulers. -/
def T.ats : Nat := 0x517
/-- Stream table 8: ATS groups. -/
def T.atsGrp : Nat := 0x518
/-- Stream table 9: filter counters. -/
def T.filtCnt : Nat := 0x519
/-- Stream table 10: recovery counters. -/
def T.rcvyCnt : Nat := 0x51A
/-- ATS scheduler k: bucket_empty; ATS group k: group_et (R342). -/
def T.atsTime : Nat := 0x10310
/-- group_et of an ATS group. -/
def T.atsGrpTime : Nat := 0x10311
/-- Meter m: what its committed and excess buckets lack, in words 0 to 2 and 3 to 5, and the FRC of the last charge in 6 to 8. -/
def T.meterTime : Nat := 0x10320
/-- Stream gate g: OPER_BASE in ns. -/
def T.gateBase : Nat := 0x10330
/-- Recovery function r: history, bit d for the number d below RECOV_SEQ (words 0 and 1), the FRC at which a frame last passed (2 to
4), whether one has since the last reset (5). -/
def T.rcvyHist : Nat := 0x10340

/-- Count in a 64-bit counter of a stream table; FREEZE of TSN[0] stops it (R368). -/
def Dev.tabInc64 (t i w : Nat) (s : Dev) : Dev :=
  let n := s.tab t i w + 2 ^ 32 * s.tab t i (w + 1) + 1
  if s.frozen 0xB0000 then s else (s.setTab t i w n).setTab t i (w + 1) (n / 2 ^ 32)

/-- Count in a saturating table counter with its SAT bit; saturation raises COUNTER_SAT on TSN[0]. -/
def Dev.tabIncBy (t i w satW bit n : Nat) (s : Dev) : Dev :=
  let c := s.tab t i w
  if n = 0 ∨ c = 0xFFFFFFFF ∨ s.frozen 0xB0000 = true then s
  else if c + n < 0xFFFFFFFF then s.setTab t i w (c + n)
  else
    let s := s.setTab t i w 0xFFFFFFFF
    if (s.tab t i satW).testBit bit then s else (s.setTab t i satW (s.tab t i satW ||| 2 ^ bit)).raise 0xB0000 5

/-- Filter counter k (2 to 5) of handle h. -/
def Dev.filtInc (h k : Nat) (s : Dev) : Dev := s.tabIncBy T.filtCnt h k 6 (k - 2) 1

/-- Recovery counter k (4 to 8) of function r. -/
def Dev.rcvyIncBy (r k n : Nat) (s : Dev) : Dev := s.tabIncBy T.rcvyCnt r k 9 (k - 4) n

/-- R329: a lookup of (MODE, VID, KEY) for an ingress port. -/
def Dev.sidFind (s : Dev) (mode vid key port : Nat) : Option Nat :=
  let b := crc32c (beBytes 1 mode ++ beBytes 2 vid ++ beBytes 8 key ++ beBytes 4 (s.rd R.FWD_SEED)) % 512 * 8
  (List.range 8).findSome? fun j =>
    let w0 := s.tab T.sid (b + j) 0
    let on := if port < 32 then (s.tab T.sid (b + j) 3).testBit port else decide (port < 36) && w0.testBit (12 + (port - 32))
    if w0.testBit 31 = true ∧ bitsOf w0 30 28 = mode ∧ bitsOf w0 27 16 = vid ∧
        s.tab T.sid (b + j) 1 * 2 ^ 32 + s.tab T.sid (b + j) 2 = key ∧ on = true then some (w0 % 4096) else none

/-- R328: the stream handle of a frame from port p. -/
def Dev.streamId (s : Dev) (p : Nat) (bs : List Byte) : Option Nat :=
  let on := if p < 36 then s.rd (R.TSN_SID p) else 0
  let vid := s.vidOf p (fixedTci bs)
  let e := etherOff bs
  let avtp := if on.testBit 2 = true ∧ beAt bs e 2 = 0x22F0 then s.sidFind 3 vid (beAt bs (e + 6) 8) p else none
  match avtp with
  | some h => some h
  | none =>
    match (if on.testBit 1 then s.sidFind 2 vid (beAt bs 6 6) p else none) with
    | some h => some h
    | none => if on.testBit 0 then s.sidFind 1 vid (beAt bs 0 6) p else none

/-- The entry of a list of intervals in force at a phase; past the end the last one holds (R345). -/
def listAt (iv : Nat → Nat) : Nat → Nat → Nat → Nat
  | 0, k, _ => k
  | n + 1, k, ph => if n = 0 ∨ ph < iv k then k else listAt iv n (k + 1) (ph - iv k)

/-- The pool entry of gate g in force (R332), none while the gate has no running list. -/
def Dev.gateEntry (s : Dev) (g : Nat) : Option Nat :=
  let td := s.tfld T.gate g 0 18 16
  let cyc := s.tab T.gate g 7
  let len := s.tfld T.gate g 6 6 0
  let base := s.tab96 T.gateBase g 0
  if len = 0 ∨ cyc = 0 ∨ s.domOn td = false then none
  else some (s.tfld T.gate g 6 29 16 + listAt (fun k => s.tab T.gpool (s.tfld T.gate g 6 29 16 + k) 1) len 0
    (((s.domNow td : Int) - base) % (cyc : Int)).toNat)

/-- R332, R333: a frame of handle h meets gate g: open, and the IPV it assigns. -/
def Dev.gateMeet (g : Nat) (s : Dev) : (Bool × Option Nat) × Dev :=
  if s.tfld T.gate g 0 31 31 = 0 then ((true, none), s)
  else if s.tfld T.gate g 0 28 28 = 1 then ((false, none), s)
  else
    match s.gateEntry g with
    | none => ((true, none), s)
    | some k =>
      let w := s.tab T.gpool k 0
      if w.testBit 31 then ((true, if w.testBit 30 then some (bitsOf w 29 27) else none), s)
      else if s.tfld T.gate g 0 29 29 = 1 then ((false, none), (s.setTfld T.gate g 0 28 28 1).raise 0xB0000 8)
      else ((false, none), s)

/-- One byte in the units of a meter's buckets: CIR kbit/s fill CIR units in an FRC unit of 2^-16 ns. -/
def meterByte : Nat := 8000000 * 2 ^ 16

/-- R334, R335: the colour that meter m gives a frame: 0 green, 1 yellow, 2 red. A frame is charged once per meter. -/
def Dev.meterFrame (m f : Nat) (s : Dev) : Nat × Dev :=
  let v := s.frame f
  match v.charged.find? fun c => c.1 == m with
  | some c => (c.2, s)
  | none =>
    let w0 := s.tab T.meter m 0
    let done (col : Nat) (s : Dev) : Nat × Dev :=
      (col, s.setFrame f { s.frame f with charged := (m, col) :: (s.frame f).charged, yellow := (s.frame f).yellow || col == 1 })
    if w0.testBit 31 = false then done 0 s
    else if w0.testBit 27 = true ∧ w0.testBit 26 = true then done 2 s
    else
      let now := s.time.frc
      let dt := now - s.tab96 T.meterTime m 6
      let gainC := s.tab T.meter m 1 * dt
      let lackC := s.tab96 T.meterTime m 0
      let spill := gainC - lackC
      let lackC := lackC - gainC
      let lackE := s.tab96 T.meterTime m 3 - (s.tab T.meter m 3 * dt + if w0.testBit 30 then spill else 0)
      let n := v.len * meterByte
      let dei := match fixedTci v.bytes with
        | some t => t.testBit 12
        | none => false
      let yel := w0.testBit 29 && v.eth && dei
      let s := s.setTab96 T.meterTime m 6 now
      if yel = false ∧ lackC + n ≤ s.tab T.meter m 2 * meterByte then
        done 0 ((s.setTab96 T.meterTime m 0 (lackC + n)).setTab96 T.meterTime m 3 lackE)
      else if lackE + n ≤ s.tab T.meter m 4 * meterByte then
        done 1 ((s.setTab96 T.meterTime m 0 lackC).setTab96 T.meterTime m 3 (lackE + n))
      else
        let s := (s.setTab96 T.meterTime m 0 lackC).setTab96 T.meterTime m 3 lackE
        done 2 (if w0.testBit 27 then (s.setTfld T.meter m 0 26 26 1).raise 0xB0000 10 else s)

/-- R334: the colour drops the frame: red, or yellow under DROP_YELLOW. -/
def Dev.meterDrops (s : Dev) (m col : Nat) : Bool := col == 2 || (col == 1 && s.tfld T.meter m 0 28 28 == 1)

/-- HIST within its limits (R341). -/
def Dev.rcvyHistLen (s : Dev) (r : Nat) : Nat :=
  let h := s.tfld T.rcvy r 0 22 16
  if 2 ≤ h ∧ h ≤ 64 then h else 2

/-- The bits of a history of length n that fall out unseen when it moves by d (R337). -/
def histLost (hist n d : Nat) : Nat :=
  ((List.range n).filter fun i => decide (n ≤ i + d) && !hist.testBit i).length + (d - n)

/-- A frame has passed function r: it counts, and the time of R340 starts anew. -/
def Dev.rcvyCount (r : Nat) (s : Dev) : Dev :=
  ((s.tabInc64 T.rcvyCnt r 0).setTab96 T.rcvyHist r 2 s.time.frc).setTab T.rcvyHist r 5 1

/-- A passed frame of function r with its number. -/
def Dev.rcvyPass (r seq : Nat) (s : Dev) : Dev := ((s.setTfld T.rcvy r 2 31 31 0).setTfld T.rcvy r 2 15 0 seq).rcvyCount r

/-- R337, R338: number seq of function r passes, or is a duplicate or a rogue. -/
def Dev.rcvyJudge (r seq : Nat) (s : Dev) : Bool × Dev :=
  let cur := s.tfld T.rcvy r 2 15 0
  let any := s.tfld T.rcvy r 2 31 31 == 1
  let hist := s.tab T.rcvyHist r 0 + 2 ^ 32 * s.tab T.rcvyHist r 1
  let setHist (h : Nat) (s : Dev) : Dev := (s.setTab T.rcvyHist r 0 h).setTab T.rcvyHist r 1 (h / 2 ^ 32)
  let d := (seq + 65536 - cur) % 65536
  if s.tfld T.rcvy r 0 30 30 = 1 then
    if any = false ∧ d = 0 then (false, s.tabInc64 T.rcvyCnt r 2) else (true, s.rcvyPass r seq)
  else if any then (true, (setHist 1 s).rcvyPass r seq)
  else
    let n := s.rcvyHistLen r
    if d < 32768 ∧ d ≠ 0 then
      if n ≤ d then (false, s.rcvyIncBy r 5 1)
      else
        (true, (setHist ((hist * 2 ^ d + 1) % 2 ^ n) (s.rcvyIncBy r 6 (histLost hist n d))).rcvyPass r seq)
    else
      let b := (65536 - d) % 65536
      if n ≤ b then (false, s.rcvyIncBy r 5 1)
      else if hist.testBit b then (false, s.tabInc64 T.rcvyCnt r 2)
      else (true, ((setHist (hist + 2 ^ b) s).rcvyPass r cur).rcvyIncBy r 4 1)

/-- R336, R337, R339: sequence recovery of frame f by function r; answers whether it passes. -/
def Dev.recover (r f : Nat) (s : Dev) : Bool × Dev :=
  let v := s.frame f
  let e := etherOff v.bytes
  if s.tfld T.rcvy r 0 31 31 = 0 then (true, s)
  else if beAt v.bytes e 2 ≠ 0xF1C1 then
    let s := s.rcvyIncBy r 7 1
    if s.tfld T.rcvy r 0 29 29 = 1 then (true, s.rcvyCount r) else (false, s)
  else
    let seq := beAt v.bytes (e + 4) 2
    let s := s.setFrame f { v with bytes := v.bytes.take e ++ v.bytes.drop (e + 6), cutTag := some e }
    match s.rcvyJudge r seq with
    | (false, s) => (false, s)
    | (true, s) =>
      if s.tfld T.rcvy r 0 28 28 = 1 ∧ s.tfld T.rcvy r 0 30 30 = 0 then
        match s.reoEnter r seq f with
        | (code, s) =>
          (true, s.setFrame f { s.frame f with rcv := some (r, seq), late := code == 2 })
      else (true, s)

/-- R341: the next number of generation function g. -/
def Dev.generate (g f : Nat) (s : Dev) : Dev :=
  if s.tfld T.gen g 0 31 31 = 0 then s
  else
    let n := s.tfld T.gen g 0 15 0
    (s.setFrame f { s.frame f with gen := some (g, n) }).setTfld T.gen g 0 15 0 (n + 1)

/-- A duration of R342 in ns, n bits at CIR kbit/s; a CIR of zero gives a free value. (DESIGN CHOICE, log entry 36.) -/
def Dev.atsDur (bits cir : Nat) (s : Dev) : Nat × Dev :=
  if cir = 0 then (s.draw.1.toNat, s.draw.2) else (bits * 1000000 / cir, s)

/-- R342: scheduler a assigns frame f its eligibility time; answers false for a drop. -/
def Dev.atsAssign (a f : Nat) (s : Dev) : Bool × Dev :=
  if s.tfld T.ats a 0 31 31 = 0 then (true, s)
  else
    let v := s.frame f
    let g := s.tfld T.ats a 0 7 0
    let cir := s.tab T.ats a 1
    match s.atsDur ((v.len + 20) * 8) cir with
    | (lrd, s) =>
      match s.atsDur (s.tab T.ats a 2 * 8) cir with
      | (efd, s) =>
        let be := s.tab96 T.atsTime a 0
        let grp := s.tfld T.atsGrp g 0 31 31 == 1
        let arr := v.stamp / 2 ^ 16
        let sched := be + lrd
        let et := max (max arr (if grp then s.tab96 T.atsGrpTime g 0 else 0)) sched
        let res := s.tab T.atsGrp g 1
        if grp = true ∧ res ≠ 0 ∧ arr + res < et then (false, s)
        else
          let s := if grp then s.setTab96 T.atsGrpTime g 0 et else s
          let s := s.setTab96 T.atsTime a 0 (if et < be + efd then sched else sched + et - (be + efd))
          (true, s.setFrame f { s.frame f with et := some et })

/-- R327 steps 2 to 7 for handle h; answers whether the frame goes on. -/
def Dev.streamFilter (h f : Nat) (s : Dev) : Bool × Dev :=
  if s.tfld T.filter h 0 31 31 = 0 then (true, s)
  else
    let w0 := s.tab T.filter h 0
    let w1 := s.tab T.filter h 1
    let w2 := s.tab T.filter h 2
    let s := s.tabInc64 T.filtCnt h 0
    let long := w0 % 16384 != 0 && decide (w0 % 16384 < (s.frame f).len)
    if w0.testBit 29 then (false, s.filtInc h 2)
    else if long then
      (false, (if w0.testBit 30 then (s.setTfld T.filter h 0 29 29 1).raise 0xB0000 9 else s).filtInc h 2)
    else
      match (if w0.testBit 28 then s.gateMeet (bitsOf w0 25 16) else ((true, none), s)) with
      | ((false, _), s) => (false, s.filtInc h 3)
      | ((true, ipv), s) =>
        let s := match ipv with
          | some t => s.setFrame f { s.frame f with tc := t, ipv := true }
          | none => s
        let m := bitsOf w1 27 16
        match (if w1.testBit 31 then s.meterFrame m f else (0, s)) with
        | (col, s) =>
          if w1.testBit 31 = true ∧ s.meterDrops m col = true then (false, s.filtInc h 4)
          else
            match (if w2.testBit 31 then s.recover (bitsOf w2 26 16) f else (true, s)) with
            | (false, s) => (false, s)
            | (true, s) =>
              let s := if w2.testBit 15 then s.generate (bitsOf w2 10 0) f else s
              match (if w1.testBit 15 then s.atsAssign (bitsOf w1 9 0) f else (true, s)) with
              | (true, s) => (true, s)
              | (false, s) => (false, s.filtInc h 5)

/-- R326, R327: the ingress stream functions of frame f's first pass; answers whether the frame goes on. -/
def Dev.streamIn (f : Nat) (s : Dev) : Bool × Dev :=
  let v := s.frame f
  if v.passes ≠ 1 ∨ v.legacy = true then (true, s)
  else
    match s.streamId v.inPort v.bytes with
    | none => (true, s)
    | some h => (s.setFrame f { v with handle := some h }).streamFilter h f

/-- R340: function r resets. -/
def Dev.rcvyReset (r : Nat) (s : Dev) : Dev :=
  let s := ((s.setTab T.rcvyHist r 0 0).setTab T.rcvyHist r 1 0).setTab T.rcvyHist r 5 0
  let s := (s.setTfld T.rcvy r 2 31 31 1)
  let v := s.reo r
  let ord := sortBy (fun a b => decide ((a.1 + 65536 - v.e.getD 0) % 65536 ≤ (b.1 + 65536 - v.e.getD 0) % 65536)) v.held
  let s := s.setReo r {}
  let s := forL ord (fun h s => s.releaseFrame r h.2) s
  (s.rcvyIncBy r 8 1).raise 0xB0000 11

/-- RCVY_RESET (R340): no frame has passed function r for RESET_MS. A function that no frame has passed since its last reset stays as it
is. (DEDUCED, log entry 122.) -/
def execRcvyReset (r : Nat) (s : State) : Host.Outcome State Fault Refusal :=
  onDev (fun s =>
    if s.tfld T.rcvy r 0 31 31 = 1 ∧ r < 2048 ∧ s.tab T.rcvyHist r 5 = 1 ∧
        s.passed (s.tab96 T.rcvyHist r 2) (max 1 (s.tfld T.rcvy r 0 15 0) * 10 ^ 6) = true then s.rcvyReset r else s) s

/-- R320: the gap before function f's oldest held frame is skipped, once that frame has waited TIMEOUT. -/
def Dev.reoTimeout (f : Nat) (s : Dev) : Dev :=
  match (s.reo f).held with
  | h :: _ =>
    if s.passed (s.frame h.2).since (min 1000 (max 1 (s.tfld T.rcvy f 1 9 0)) * 1000) then s.reoSkip f h.1 else s
  | [] => s

/-- REORDER_TIMEOUT (R320): function f's oldest held frame has waited its timeout. -/
def execReorderTimeout (f : Nat) (s : State) : Host.Outcome State Fault Refusal := onDev (Dev.reoTimeout f) s

end Sys2Proof.Machine
end

