-- ==== Sys2Proof/Machine/Pipe.lean ====
section
/-! DEFINITION. The pass (R30): the ingress hasher and the Spindle input queues, stream functions, the Gouge, forwarding, flow
and rule lookups, and the action stage. -/

namespace Sys2Proof.Machine

/-- The outer PCP of an Ethernet frame, 0 without a tag: its ingress traffic class (DESIGN CHOICE, log entry 40). -/
def ingressClass (bs : List Byte) : Nat :=
  match fixedTci bs with
  | some t => t / 8192
  | none => 0

/-- A Spindle's input queue. -/
def Dev.spnQ (s : Dev) (k : Nat) : List Nat := smGet (fun _ => []) s.ck.spn k

/-- Store a Spindle's input queue. -/
def Dev.setSpnQ (k : Nat) (l : List Nat) (s : Dev) : Dev :=
  s.setCk { s.ck with spn := smSet (fun _ => []) s.ck.spn k l }

/-- R31, R42, R224, R225: frame f enters the ingress hasher and a Spindle's input queue, or is dropped there; answers
whether it joined. -/
def Dev.hashIn (f : Nat) (s : Dev) : Bool × Dev :=
  let v := s.frame f
  let t := tupleOf v.legacy v.bytes
  let h := tupleHash t (s.rd R.RULE_HASH_SEED)
  let k := h % 4
  let lim := if 6 ≤ v.ingTc then 512 else 448
  if lim ≤ (s.spnQ k).length then (false, ((s.add64 (C.SPN_HEAD_DROP k) 1).raise 0x80000 4).endArrival f)
  else (true, (s.setFrame f { v with hash := h, spin := k, tup := t }).setSpnQ k (s.spnQ k ++ [f]))

/-- R302, R32, R216: a frame takes cells, its version stamps and its number; none when there is no cell for it. -/
def Dev.storeFrame (v : FrameSt) (s : Dev) : Option Nat × Dev :=
  if s.freeCells < cellsOf v.len then (none, s.noCell)
  else
    let id := s.ck.nextId
    let oct := if v.legacy then beAt v.bytes 8 2 % 4096 else v.len
    let s := s.setCk { s.ck with nextId := id + 1 }
    let s := s.setFrame id { v with
      arrival := true
      refs := 0
      passes := 0
      rver := s.ruleVer
      gver := s.curVer (R.PARS_LIVE 0)
      octets := oct
      ingTc := v.tc }
    (some id, s.freeMark)

/-- A whole frame enters: cells, stamps, hasher. -/
def Dev.enterFrame (v : FrameSt) (s : Dev) : Dev :=
  match s.storeFrame v with
  | (none, s) => s
  | (some f, s) => (s.hashIn f).2

/-- R382: a PTP frame on a trapping port. -/
def Dev.trapped (s : Dev) (v : FrameSt) : Bool :=
  s.bit R.TIME_TRAP 31 && v.eth && v.passes == 1 && decide (v.inPort < 32) && s.bit (R.PTP_PORT_CFG v.inPort) 31 &&
    beAt v.bytes 0 6 == 0x0180C200000E && beAt v.bytes (etherOff v.bytes) 2 == 0x88F7

/-- R382: the port that TIME_TRAP.DEST names. -/
def Dev.trapPort (s : Dev) : Nat :=
  let d := s.fld R.TIME_TRAP 1 0
  if d = 1 then 32 else if d = 2 then 33 else 35

/-- R212: the hasher's tuple with the TCP flags read at the TCP header that the parser recorded, or, where it recorded none, at the
hasher's place (DESIGN CHOICE, log entry 119). -/
def Meta.flags6 (m : Meta) (v : FrameSt) : Tuple :=
  match m.first 6 with
  | some o => { v.tup with tcp := v.tup.tcp.map fun _ => beAt v.bytes (o + 13) 1 }
  | none => v.tup

/-- A copy with the pass's metadata: the offsets of HTYPE 0x08 and 0x0A, and the exception. -/
def passCopy (m : Meta) (c : Copy) : Copy :=
  { c with ptp := m.first 8, acf := m.first 0xA, exc := m.exc }

/-- The class that stream handle entries give copies (R290, R332). -/
def Dev.baseClass (s : Dev) (v : FrameSt) : Nat :=
  match v.handle with
  | some h => if v.ipv = false ∧ s.tfld T.stream h 0 31 31 = 1 ∧ s.tfld T.stream h 0 29 29 = 1 then s.tfld T.stream h 0 28 26 else v.tc
  | none => v.tc

/-- Replace a copy's class. -/
def Copy.withClass (c : Copy) (t : Nat) : Copy := { c with q := c.q / 8 * 8 + t % 8 }

/-- R235, R255: copies pass a meter; those it drops count POLICE_DROP (R237, R335). -/
def Dev.police (m f : Nat) (cs : List Copy) (s : Dev) : List Copy × Dev :=
  if cs = [] then ([], s)
  else
    match s.meterFrame m f with
    | (col, s) =>
      if s.meterDrops m col then ([], s.incBy C.RULE_POLICE_DROP cs.length)
      else (cs.map fun c => { c with dei := c.dei || col == 1 }, s)

/-- What the lookups of a pass decided: the copies that remain with their zones, and the action words of the zones looked up
in ascending order. -/
structure Verdicts where
  kept : List (Copy × Nat) := []
  acts : List (Nat × Nat × Nat) := []
  deriving DecidableEq, Repr

/-- R229 to R232, R237, R238: the lookup for destination zone z with its copies. -/
def Dev.judgeZone (f src : Nat) (m : Meta) (z : Nat) (cs : List Copy) (r : Verdicts) (s : Dev) : Verdicts × Dev :=
  let v := s.frame f
  let mat := s.tab (T.matOf (s.ruleSlot v.rver)) (64 * src + z) 0
  let set := match v.nextSet with
    | some n => some n
    | none => if mat.testBit 31 then some (mat % 64) else none
  match set with
  | none => (r, s.inc C.RULE_DENY_MATRIX)
  | some n =>
    match s.ruleLookup v.rver n m with
    | (none, s) => (r, s)
    | (some (a, b), s) =>
      let fwd := bitsOf a 31 30 = 1
      let cs := if a.testBit 24 then cs.map fun c => c.withClass (bitsOf a 23 21) else cs
      let r := { r with acts := r.acts ++ [(z, a, b)] }
      if fwd then ({ r with kept := r.kept ++ cs.map fun c => (c, z) }, s) else (r, s)

/-- R230: all zones of the pass in ascending order, at most sixteen. -/
def Dev.judgeAll (f src : Nat) (m : Meta) (cs : List (Copy × Nat)) (s : Dev) : Verdicts × Dev :=
  let zones := sortBy (fun a b => decide (a ≤ b)) (cs.map (·.2)).eraseDups
  let of (z : Nat) : List Copy := (cs.filter fun c => c.2 == z).map (·.1)
  let r := (zones.take 16).foldl (fun (r : Verdicts × Dev) z => r.2.judgeZone f src m z (of z) r.1) ({}, s)
  (r.1, r.2.incBy C.RULE_ZONE_FANOUT ((zones.drop 16).flatMap of).length)

/-- The zone of a copy. -/
def Dev.copyZones (s : Dev) (ver : Nat) (cs : List (Copy × Nat)) : List (Copy × Nat) :=
  cs.map fun c => (c.1, s.zone ver c.2)

/-- R237: the copies that remain, those of zones whose rule polices through its meter. -/
def Dev.policeZones (f : Nat) (r : Verdicts) (s : Dev) : List Copy × Dev :=
  r.acts.foldl (fun (p : List Copy × Dev) a =>
    let mine := (r.kept.filter fun c => c.2 == a.1).map (·.1)
    if a.2.1.testBit 27 then
      match p.2.police (a.2.1 % 4096) f mine with
      | (l, s) => (p.1 ++ l, s)
    else (p.1 ++ mine, p.2)) ([], s)

/-- The frame recirculates: it waits for RECIRC_REENTER, or is dropped at its fifth pass (R40, R238). -/
def Dev.recirculate (f b : Nat) (s : Dev) : Dev :=
  let v := s.frame f
  if 4 ≤ v.passes then (s.inc C.RULE_RECIRC_LIMIT).endArrival f
  else
    let s := s.setFrame f { v with nextSet := if b.testBit 31 then some (bitsOf b 29 24) else none }
    s.setCk { s.ck with recirc := s.ck.recirc ++ [f] }

/-- The reorder function that the frame's first pass entered releases what follows it (R319). -/
def Dev.reoAfter (f : Nat) (s : Dev) : Dev :=
  match (s.frame f).rcv with
  | some (r, _) => s.reoRun 64 r
  | none => s

/-- R41: copies of an earlier frame with this hash wait for an insertion, and a later frame's copies wait behind them. (DEDUCED, log
entry 111.) -/
def Dev.flowBehind (s : Dev) (hash : Nat) : Bool :=
  (s.insQ (hash % 4)).any fun q => match q with
    | .track _ h _ _ _ _ cs => h == hash && cs != []
    | .pass _ h _ => h == hash
    | .search .. | .purge .. => false

/-- Steps 6 to 9 of R30 for frame f with its forwarding result. -/
def Dev.actionStage (f : Nat) (m : Meta) (fr : FwdRes) (env : PassEnv) (s : Dev) : Dev :=
  let v := s.frame f
  let t := m.flags6 v
  let origin := v.legacy && legOrigin v.bytes
  let src := s.zone v.rver v.srcIndex
  let fromA := t.srcIsA origin
  let tc := s.baseClass v
  let all := s.copyZones v.rver (fr.copies.map fun c => (passCopy m (c.1.withClass tc), c.2))
  match s.flowLookup t origin v.hash src env with
  | (hit, s) =>
    let other := match hit with
      | some i => s.otherZone i fromA
      | none => 64
    let adm := (all.filter fun c => c.2 == other).map (·.1)
    let rest := all.filter fun c => c.2 != other
    let w5 := match hit with
      | some i => s.fw i 5
      | none => 0
    let meter := match hit with
      | some i => s.fw i 4 % 4096
      | none => 0
    let adm := if w5.testBit 30 then adm.map fun c => c.withClass (bitsOf w5 29 27) else adm
    let s := match hit with
      | some i =>
        let s := (s.flowTouch i fromA t.tcp v.octets).flowJoin f i
        if adm = [] then s else s.add64 C.FLOW_HITS 1
      | none => s
    let s := forL env.ruleBad Dev.ruleFail (s.incBy C.RULE_ECC_CORR env.ruleCorr)
    match s.judgeAll f src m rest with
    | (r, s) =>
      let rec_ := r.acts.find? fun a => bitsOf a.2.1 31 30 == 1 && a.2.1.testBit 25
      let copyTo := r.acts.find? fun a => a.2.1.testBit 29
      let trk := r.acts.find? fun a => a.2.1.testBit 26
      let mirR := (r.acts.filter fun a => a.2.1.testBit 28).map fun a => bitsOf a.2.1 15 13
      let mirF := if adm ≠ [] ∧ w5.testBit 26 = true then [bitsOf w5 25 23] else []
      let s := s.setFrame f { s.frame f with nextSet := none }
      match (if rec_.isSome then ([], s) else
          match (if w5.testBit 31 then s.police meter f adm else (adm, s)) with
          | (a, s) =>
            match s.policeZones f r with
            | (b, s) => (a ++ b, s)) with
      | (fwd, s) =>
        let toHst := match copyTo with
          | some a => [{ passCopy m ((fr.hst.getD (s.mkCopy f 35 v.tc)).withClass tc) with kind := 1, reason := bitsOf a.2.2 11 8 }]
          | none => []
        let drop := match trk with
          | some a => s.tfld T.prof (bitsOf a.2.2 19 16) 0 29 29 == 1
          | none => false
        let held := if drop then fwd else []
        match (match trk with
          | some a => s.track f t origin (bitsOf a.2.2 19 16) src a.1 a.2.1 held
          | none => (0, s)) with
        | (o, s) =>
          let s := if o = 2 ∧ drop = true then s.incBy C.FLOW_FULL_DROP held.length else s
          let now := if drop = true ∧ o ≠ 0 then [] else fwd
          let waits := decide (o = 1) && held != []
          let behind := now != [] && s.flowBehind v.hash
          let s := s.mirPass f m.exc mirR mirF
          let s := forL ((if behind then [] else now) ++ toHst) Dev.handOver s
          let s := if behind then s.setInsQ (v.hash % 4) (s.insQ (v.hash % 4) ++ [.pass f v.hash now]) else s
          let s := if now ++ toHst ≠ [] then s.learnAsk f fr
            else if waits then s.setFrame f { s.frame f with learn := fr.vlan } else s
          let s := s.reoAfter f
          match rec_ with
          | some a => s.recirculate f a.2.2
          | none => if waits = true ∨ behind = true then s else s.endArrival f

/-- R223, R204, R215: the Gouge's walk of frame f. -/
def Dev.gouge (f : Nat) (env : PassEnv) (s : Dev) : Meta × Dev :=
  let v := s.frame f
  let e := if v.legacy then 37 else if v.passes = 1 then v.inPort else 36
  let m := s.walk v.gver e env.nodeBad v.bytes
  (m, ((s.add64 (C.SPN_HEADS v.spin) 1).incBy C.PARS_NODE_ECC_CORR env.nodeCorr).countExc m.exc)

/-- One pass of frame f (R30 steps 3 to 9). -/
def Dev.pass (f : Nat) (env : PassEnv) (s : Dev) : Dev :=
  let v := s.frame f
  let stamp := if v.passes = 0 ∧ v.eth = true ∧ 32 ≤ v.inPort ∧ v.stamp = 0 then s.frcNow * 2 ^ 16 else v.stamp
  let s := s.setFrame f { v with passes := v.passes + 1, stamp := stamp }
  match s.streamIn f with
  | (false, s) => (s.reoAfter f).endArrival f
  | (true, s) =>
    match s.gouge f env with
    | (m, s) =>
      let v := s.frame f
      if m.exc ≠ 0 ∧ s.excAct m.exc = 0 then (s.reoAfter f).endArrival f
      else if m.exc ≠ 0 ∧ s.excAct m.exc = 2 then
        let s := s.mirPass f m.exc [] []
        let s := s.handOver { passCopy m (s.mkCopy f 35 v.tc) with kind := 1 }
        (s.reoAfter f).endArrival f
      else if s.trapped v then
        let s := (s.add64 C.TIME_TRAPPED 1).mirPass f m.exc [] []
        let s := s.handOver (passCopy m (s.mkCopy f s.trapPort 7))
        (s.reoAfter f).endArrival f
      else
        match (if v.legacy then s.fwdLeg f env else s.fwdEth f m env) with
        | (fr, s) => s.actionStage f m fr env

/-- The Spindles take heads: in ACTIVE, and while XTAL25_IN has not failed (R44, R249). -/
def Dev.forwards (s : Dev) : Bool := (s.pwr.phase == .active || s.pwr.phase == .restEntry || s.pwr.phase == .sleepEntry) && s.pwr.xtalOk

/-- SPINDLE_PASS (R30): Spindle k takes the head of its input queue through one pass. -/
def execSpindlePass (k : Nat) (env : PassEnv) (s : State) : Host.Outcome State Fault Refusal :=
  onDev (fun s =>
    match s.spnQ k with
    | [] => s
    | f :: rest => if s.forwards then (s.setSpnQ k rest).pass f env else s) s

/-- R261: an insertion that frame f's pass asked for still waits. -/
def Dev.insWaits (s : Dev) (f : Nat) : Bool :=
  s.lk.ins.any fun e => e.2.any fun q => match q with
    | .track g _ _ _ _ _ _ => g == f
    | .search .. | .purge .. | .pass .. => false

/-- R41, R261: the recirculated head that re-enters next: the oldest that waits for no insertion, itself or behind an older head with
its hash. -/
def Dev.recircNext (s : Dev) : List Nat → List Nat → Option Nat
  | [], _ => none
  | f :: rest, held =>
    let h := (s.frame f).hash
    if s.insWaits f = true ∨ held.contains h = true then s.recircNext rest (h :: held) else some f

/-- RECIRC_REENTER (R239): the next recirculated head re-enters the hasher. -/
def execRecircReenter (s : State) : Host.Outcome State Fault Refusal :=
  onDev (fun s =>
    match (if s.pwr.xtalOk then s.recircNext s.ck.recirc [] else none) with
    | none => s
    | some f =>
      match (s.setCk { s.ck with recirc := s.ck.recirc.filter (· != f) }).hashIn f with
      | (true, s) => s.add64 C.RULE_RECIRC_PASSES 1
      | (false, s) => s) s

end Sys2Proof.Machine
end

