-- ==== Sys2Proof/Machine/Tsn.lean ====
section
/-! DEFINITION. TSN egress (R343 to R349): gate control lists and their changes, transmission selection, the credit-based
shaper's and preemption's configuration, cyclic queuing; and the lists of stream gates (R332). -/

namespace Sys2Proof.Machine

/-- Port n: hold is asserted (word 0), turns of the CQF cycle (1), verification attempts (2), collisions of the frame being
sent on a T port (3), the FRC at which LPI began (4 to 6), the part of a microsecond that LPI_TIME has not counted (7). -/
def T.tsnPort : Nat := 0x10360
/-- Stream gate g: the change time of a pending list, in ns. -/
def T.gateCct : Nat := 0x10331

/-- The page of TSN[n]. -/
def tsnPage (n : Nat) : Nat := 0xB0000 + 0x1000 * n

/-- TSN_STAT.CFG_ERR. -/
def Dev.tsnErr (n : Nat) (s : Dev) : Dev := s.setBit (R.TSN_STAT n) 1 true

/-- The domain of port n's lists. -/
def Dev.tsnTd (s : Dev) (n : Nat) : Nat := s.fld (R.TSN_CTRL n) 2 0

/-- Preemption is active on port n (R348). -/
def Dev.preActive (s : Dev) (n : Nat) : Bool :=
  decide (n < 28) && s.bit (R.TSN_PREEMPT n) 31 &&
    (s.bit (R.TSN_PREEMPT n) 30 || s.fld (R.TSN_STAT n) 29 28 == 2)

/-- Class t of port n is preemptible. -/
def Dev.preClass (s : Dev) (n t : Nat) : Bool := s.preActive n && s.bit (R.TSN_PREEMPT n) t

/-- The operating list of port n runs: its length and cycle. -/
def Dev.oprLen (s : Dev) (n : Nat) : Nat := s.fld (R.TSN_OPR_LIST n) 10 0
/-- OPER_CYCLE. -/
def Dev.oprCycle (s : Dev) (n : Nat) : Nat := s.rd (R.TSN_OPR_CYCLE n)
/-- OPER_BASE in ns. -/
def Dev.oprBase (s : Dev) (n : Nat) : Nat := s.rd64 (R.TSN_OPR_BASE_S_LO n) * 10 ^ 9 + s.rd (R.TSN_OPR_BASE_NS n)
/-- CCT in ns. -/
def Dev.cctOf (s : Dev) (n : Nat) : Nat := s.rd64 (R.TSN_CCT_S_LO n) * 10 ^ 9 + s.rd (R.TSN_CCT_NS n)

/-- R345: a list gates the port now. -/
def Dev.listRuns (s : Dev) (n : Nat) : Bool :=
  s.bit (R.TSN_CTRL n) 31 && s.oprLen n != 0 && s.oprCycle n != 0 && s.domOn (s.tsnTd n)

/-- The operating list's interval k. -/
def Dev.oprIv (s : Dev) (n k : Nat) : Nat := s.tab (T.gclOpr n) k 1

/-- Where entry k of the operating list starts in its cycle. -/
def Dev.oprStart (s : Dev) (n k : Nat) : Nat := (List.range k).foldl (fun a j => a + s.oprIv n j) 0

/-- Account the credits of a port's classes. -/
def Dev.cbsPort (n : Nat) (s : Dev) : Dev := forN 8 (fun t s => s.cbsTouch (8 * n + t)) s

/-- Entry k of the operating list takes effect on port n: gates, Hold and Release (R343). -/
def Dev.gateSet (n k : Nat) (s : Dev) : Dev :=
  let w := s.tab (T.gclOpr n) k 0
  let s := (s.cbsPort n).wr (R.TSN_GATE n) (k * 65536 + w % 256)
  let op := if s.preActive n then bitsOf w 31 28 else 0
  if op = 1 then
    if s.tab T.tsnPort n 0 = 1 then s else (s.setTab T.tsnPort n 0 1).inc (C.TSN_MM_HOLD n)
  else if op = 2 then s.setTab T.tsnPort n 0 0
  else s

/-- All gates of port n open. -/
def Dev.gateAll (n : Nat) (s : Dev) : Dev := ((s.cbsPort n).wr (R.TSN_GATE n) 0xFF).setTab T.tsnPort n 0 0

/-- The time since the operating cycle of port n began, by the domain's time alone. -/
def Dev.cycPhase (s : Dev) (n : Nat) : Nat := (((s.domNow (s.tsnTd n) : Int) - s.oprBase n) % (s.oprCycle n : Int)).toNat

/-- R345: a cycle of port n that starts `ns` after the one in which the domain now stands would start less than OPER_CYC_EXT before the
pending change, or after it. -/
def Dev.noCycle (s : Dev) (n ns : Nat) : Bool :=
  s.bit (R.TSN_STAT n) 31 &&
    decide (s.cctOf n + s.cycPhase n < s.domNow (s.tsnTd n) + ns + s.rd (R.TSN_OPR_CYC_EXT n))

/-- The position of the present time in the operating cycle of port n; past its end where the cycle is extended to CCT (R345). -/
def Dev.oprPhase (s : Dev) (n : Nat) : Nat :=
  if s.noCycle n 0 = true ∧ s.oprLen n ≤ s.fld (R.TSN_GATE n) 25 16 + 1 then s.cycPhase n + s.oprCycle n else s.cycPhase n

/-- R345: the entry in force by the domain's time. -/
def Dev.gateShow (n : Nat) (s : Dev) : Dev :=
  let s := s.setBit (R.TSN_STAT n) 0 (s.bit (R.TSN_CTRL n) 31 && !s.domOn (s.tsnTd n))
  if s.listRuns n then s.gateSet n (listAt (s.oprIv n) (s.oprLen n) 0 (s.oprPhase n)) else s.gateAll n

/-- R344: an admin list is refused. -/
def Dev.admBad (s : Dev) (n : Nat) : Bool :=
  let len := s.fld (R.TSN_ADM_LIST n) 10 0
  let cyc := s.rd (R.TSN_ADM_CYCLE n)
  len == 0 || decide (1024 < len) || decide (cyc < 1000) || decide (4000000000 < cyc) ||
    (List.range len).any fun k => decide (2 < s.tfld (T.gclAdm n) k 0 31 28) || s.tab (T.gclAdm n) k 1 == 0

/-- R344: the first instant of base + N cycles that lies at least 2 µs ahead of now. -/
def cctFrom (base cyc now : Nat) : Nat :=
  if now + 2000 ≤ base then base else base + (now + 2000 - base + cyc - 1) / cyc * cyc

/-- R344: CONFIG_CHANGE is requested. -/
def Dev.changeReq (n : Nat) (s : Dev) : Dev :=
  if s.admBad n then (s.setBit (R.TSN_STAT n) 2 true).raise (tsnPage n) 1
  else
    let base := s.rd64 (R.TSN_ADM_BASE_S_LO n) * 10 ^ 9 + s.fld (R.TSN_ADM_BASE_NS n) 29 0
    let c := cctFrom base (s.rd (R.TSN_ADM_CYCLE n)) (s.domNow (s.tsnTd n))
    ((s.wr64 (R.TSN_CCT_S_LO n) (c / 10 ^ 9)).wr (R.TSN_CCT_NS n) (c % 10 ^ 9)).setBit (R.TSN_STAT n) 31 true

/-- R344: a write of TSN_ADM_LIST. -/
def Dev.admListWrite (n v : Nat) (s : Dev) : Dev :=
  if s.bit (R.TSN_STAT n) 31 then s.tsnErr n
  else
    let s := s.wr (R.TSN_ADM_LIST n) (v % 2048)
    if v.testBit 31 then s.changeReq n else s

/-- R344: a write of another admin register. -/
def Dev.admWrite (n off v : Nat) (s : Dev) : Dev := if s.bit (R.TSN_STAT n) 31 then s.tsnErr n else s.plainWrite off v

/-- CONFIG_CHANGE_REQ (R344): a write of TSN_ADM_LIST. -/
def execConfigChangeReq (r : Req) (n v : Nat) (s : State) : Host.Outcome State Fault Refusal :=
  onDev (fun s => if n < 38 then Dev.guarded r (R.TSN_ADM_LIST n) (Dev.admListWrite n v) s else s) s

/-- R344: the admin list and its parameters become operating. -/
def Dev.changeNow (n : Nat) (s : Dev) : Dev :=
  let s := forN (s.fld (R.TSN_ADM_LIST n) 10 0) (fun k s =>
    (s.setTab (T.gclOpr n) k 0 (s.tab (T.gclAdm n) k 0)).setTab (T.gclOpr n) k 1 (s.tab (T.gclAdm n) k 1)) s
  let s := forN 6 (fun k s => s.wr (R.TSN_OPR_BASE_S_LO n + 4 * k) (s.rd (R.TSN_ADM_BASE_S_LO n + 4 * k))) s
  (((s.setBit (R.TSN_STAT n) 31 false).inc (C.TSN_CONFIG_CHANGES n)).raise (tsnPage n) 0).jrnCommit 0x51 n 0

/-- CONFIG_CHANGE (R344): port n's CCT has come. -/
def execConfigChange (n : Nat) (s : State) : Host.Outcome State Fault Refusal :=
  onDev (fun s =>
    if s.bit (R.TSN_STAT n) 31 = true ∧ n < 38 ∧ s.cctOf n ≤ s.domNow (s.tsnTd n) then (s.changeNow n).gateShow n else s) s

/-- GCL_ENTRY_ADVANCE (R345): the interval in force on port n has ended, and the next entry takes effect, the first of the next cycle
after the last. -/
def execGclEntryAdvance (n : Nat) (s : State) : Host.Outcome State Fault Refusal :=
  onDev (fun s =>
    let k := s.fld (R.TSN_GATE n) 25 16
    if s.listRuns n = false ∨ 38 ≤ n ∨ listAt (s.oprIv n) (s.oprLen n) 0 (s.oprPhase n) = k then s
    else s.gateSet n (if s.oprLen n ≤ k + 1 ∨ s.oprCycle n ≤ s.oprStart n (k + 1) then 0 else k + 1)) s

/-- R345: domain k was stepped; the ports whose lists run on it. -/
def Dev.tsnStep (k : Nat) (s : Dev) : Dev :=
  forN 38 (fun n s =>
    if s.tsnTd n = k then
      let due := s.bit (R.TSN_STAT n) 31 && decide (s.cctOf n ≤ s.domNow k)
      let s := if due then s.changeNow n else s
      if s.listRuns n then ((s.gateShow n).inc (C.TSN_GATE_STEPS n)).raise (tsnPage n) 2 else s.gateShow n
    else s) s

/-- The domain k was enabled or disabled: gates and TD_OFF of its ports follow (R345). -/
def Dev.tsnDomain (k : Nat) (s : Dev) : Dev := forN 38 (fun n s => if s.tsnTd n = k then s.gateShow n else s) s

/-- A stream gate has a pending list change. -/
def Dev.sgPending (s : Dev) (g : Nat) : Bool := s.tfld T.gate g 0 30 30 == 1

/-- R332: an admin list of gate g is refused. -/
def Dev.sgBad (s : Dev) (g : Nat) : Bool :=
  let len := s.tfld T.gate g 5 6 0
  let at_ := s.tfld T.gate g 5 29 16
  let cyc := s.tab T.gate g 4
  len == 0 || decide (64 < len) || decide (16384 < at_ + len) || decide (cyc < 1000) || decide (4000000000 < cyc) ||
    (List.range len).any fun k => s.tab T.gpool (at_ + k) 1 == 0

/-- ADMIN_BASE of gate g in ns. -/
def Dev.sgBase (s : Dev) (g : Nat) : Nat :=
  (s.tab T.gate g 1 * 2 ^ 32 + s.tab T.gate g 2) * 10 ^ 9 + s.tfld T.gate g 3 29 0

/-- R332: gate g's admin list becomes operating. -/
def Dev.sgNow (g : Nat) (s : Dev) : Dev :=
  let s := (s.setTab T.gate g 6 (s.tab T.gate g 5 &&& 0x3FFF007F)).setTab T.gate g 7 (s.tab T.gate g 4)
  ((s.setTab96 T.gateBase g 0 (s.sgBase g)).setTfld T.gate g 0 30 30 0).raise 0xB0000 12

/-- R332, R333: a write of words 0 to 5 of stream gate g; answers false where the update class refuses it. While a change is
pending only a write with VALID 0 is taken, and it cancels the change (DEDUCED, log entry 41). -/
def Dev.gateWrite (g : Nat) (ws : List Nat) (s : Dev) : Bool × Dev :=
  let w0 := ws.getD 0 0
  if s.sgPending g = true ∧ w0.testBit 31 = true then (false, s)
  else
    let inv := w0.testBit 28 && s.tfld T.gate g 0 28 28 == 1
    let keep := (w0 &&& 0xA0070000) + if inv then 2 ^ 28 else 0
    let s := s.setEntry T.gate g ([keep, ws.getD 1 0, ws.getD 2 0, ws.getD 3 0 % 2 ^ 30, ws.getD 4 0, ws.getD 5 0 &&& 0x3FFF007F])
    if w0.testBit 30 = false ∨ w0.testBit 31 = false then (true, s)
    else if s.sgBad g then (true, s.raise 0xB0000 13)
    else (true, (s.setTab96 T.gateCct g 0
      (cctFrom (s.sgBase g) (s.tab T.gate g 4) (s.domNow (s.tfld T.gate g 0 18 16)))).setTfld T.gate g 0 30 30 1)

/-- SG_CHANGE (R332): gate g's change time has come. -/
def execSgChange (g : Nat) (s : State) : Host.Outcome State Fault Refusal :=
  onDev (fun s =>
    if s.sgPending g = true ∧ g < 1024 ∧ s.tab96 T.gateCct g 0 ≤ s.domNow (s.tfld T.gate g 0 18 16) then s.sgNow g else s) s

/-- R332, R345: a forward step of domain k past a pending change applies it at once. -/
def Dev.sgStep (k : Nat) (s : Dev) : Dev :=
  forN 1024 (fun g s =>
    if s.sgPending g = true ∧ s.tfld T.gate g 0 18 16 = k ∧ s.tab96 T.gateCct g 0 ≤ s.domNow k then s.sgNow g else s) s

/-- A pool entry that an operating or pending stream gate list uses. -/
def Dev.poolUsed (s : Dev) (i : Nat) : Bool :=
  (List.range 1024).any fun g =>
    let has (w : Nat) : Bool := decide (bitsOf w 29 16 ≤ i ∧ i < bitsOf w 29 16 + w % 128)
    has (s.tab T.gate g 6) || (s.sgPending g && has (s.tab T.gate g 5))

/-- A change of PRE_STATUS raises its event (R348). -/
def Dev.preStatus (n v : Nat) (s : Dev) : Dev :=
  if s.fld (R.TSN_STAT n) 29 28 = v then s else (s.setFld (R.TSN_STAT n) 29 28 v).raise (tsnPage n) 3

/-- R348: a write of TSN_PREEMPT of port n. -/
def Dev.preemptWrite (n v : Nat) (s : Dev) : Dev :=
  if 28 ≤ n then s
  else
    let was := s.bit (R.TSN_PREEMPT n) 31 && !s.bit (R.TSN_PREEMPT n) 30
    let now := v.testBit 31 && !v.testBit 30
    let s := s.plainWrite (R.TSN_PREEMPT n) v
    if now = false then s.preStatus n 0
    else if was then s
    else (s.setTab T.tsnPort n 2 0).preStatus n 1

/-- PREEMPT_VERIFY (R348): a verification attempt of port n ends; the third that fails ends the verification. -/
def execPreemptVerify (n : Nat) (ok : Bool) (s : State) : Host.Outcome State Fault Refusal :=
  onDev (fun s =>
    if 28 ≤ n ∨ s.fld (R.TSN_STAT n) 29 28 ≠ 1 ∨ s.portUp n = false then s
    else
      let k := s.tab T.tsnPort n 2 + 1
      let s := s.setTab T.tsnPort n 2 k
      if ok then s.preStatus n 2 else if 3 ≤ k then s.preStatus n 3 else s) s

/-- A write of TSN_CTRL of port n (R344, R345, R349). -/
def Dev.tsnCtrlWrite (n v : Nat) (s : Dev) : Dev :=
  let o := R.TSN_CTRL n
  let old := s.rd o
  let locked := old.testBit 31 || old.testBit 30
  let held : Nat := 0x07FF0007
  let differs := (v &&& held) != (old &&& held)
  let s := if locked = true ∧ differs = true then s.tsnErr n else s
  let s := s.cbsPort n
  let f := if locked then old &&& held else v &&& held
  let wantCqf := v.testBit 30 && decide (n < 34)
  let bad := wantCqf && bitsOf f 26 24 == 0
  let s := if bad then s.tsnErr n else s
  let cqf := wantCqf && !bad
  let s := s.wr o (f + (if cqf then 2 ^ 30 else 0) + if v.testBit 31 then 2 ^ 31 else 0)
  let s := if cqf = true ∧ old.testBit 30 = false then (s.setTab T.tsnPort n 1 0).setBit (R.TSN_STAT n) 30 false else s
  let s := if v.testBit 31 then s else s.setBit (R.TSN_STAT n) 31 false
  s.gateShow n

/-- R347: a write of TSN_CBSt of port n; ATS on the class refuses EN. -/
def Dev.cbsWrite (n t v : Nat) (s : Dev) : Dev :=
  let s := s.cbsTouch (8 * n + t)
  let bad := v.testBit 31 && s.bit (R.TSN_ATS_EN n) t
  let was := s.bit (R.TSN_CBS n t) 31
  let s := s.wr (R.TSN_CBS n t) (v % 2 ^ 25 + if v.testBit 31 && !bad then 2 ^ 31 else 0)
  let s := if s.bit (R.TSN_CBS n t) 31 = true ∧ was = false then s.cbsSet (8 * n + t) 0 else s
  if bad then s.tsnErr n else s

/-- R347: a write of TSN_ATS_EN of port n; a class with its shaper on keeps its bit clear. -/
def Dev.atsEnWrite (n v : Nat) (s : Dev) : Dev :=
  let no := (List.range 8).filter fun t => v.testBit t && s.bit (R.TSN_CBS n t) 31
  let s := s.wr (R.TSN_ATS_EN n) (no.foldl (fun v t => withBits v t t 0) (v % 256))
  if no = [] then s else s.tsnErr n

/-- Drop every waiting copy of a queue, each with a count of its own (R349). -/
def Dev.dropWaiting (q : Nat) (count : Dev → Dev) (s : Dev) : Dev :=
  let s := s.cbsTouch q
  let v := s.qst q
  let hs := s.heldOf q
  let s := s.setCk { s.ck with hold := s.ck.hold.filter fun h => h.1.q != q }
  let s := s.setQ q { v with sram := [], dram := [] }
  let s := forL (v.sram ++ hs) (fun c s => count (s.dropCopy c)) s
  forL v.dram (fun c s =>
    let s := count ((s.tsfDropped c).qDrop q)
    if c.saved.isSome then s else s.release c.frame) s.deepBusy

/-- R349: a turn edge on a port under CQF. -/
def Dev.cqfEdge (n : Nat) (s : Dev) : Dev :=
  if s.bit (R.TSN_CTRL n) 30 = false ∨ 34 ≤ n then s
  else
    let k := s.tab T.tsnPort n 1 + 1
    if k ≤ s.fld (R.TSN_CTRL n) 23 16 then s.setTab T.tsnPort n 1 k
    else
      let a := s.fld (R.TSN_CTRL n) 26 24
      let rx := s.bit (R.TSN_STAT n) 30
      let sends := if rx then a else a - 1
      let s := s.dropWaiting (8 * n + sends) (fun s => (s.inc (C.TSN_CQF_LATE n)).raise (tsnPage n) 4)
      ((s.cbsPort n).setTab T.tsnPort n 1 0).setBit (R.TSN_STAT n) 30 (!rx)

/-- R346: the length of a copy as it leaves its port, with FCS, R-TAG and MACsec. -/
def Dev.outLen (s : Dev) (c : Copy) (v : FrameSt) : Nat :=
  let n := c.q / 8
  let base := ((v.len : Int) + c.tagGrow).toNat + if (s.rtagOf c v).isSome then rtagGrow v.bytes else 0
  if n < 32 then max 64 (base + if n < 28 ∧ s.secBypass n (s.editCopy c v).1 = false then s.secOverhead n else 0) else base

/-- The nearer of two times, where there is one. -/
def nearer : Option Nat → Option Nat → Option Nat
  | some a, some b => some (min a b)
  | some a, none => some a
  | none, b => b

/-- R349: nanoseconds until the cycle ends in which class t of port n, of its CQF pair, sends: none for a class outside the pair. -/
def Dev.cqfLeft (s : Dev) (n t : Nat) : Option Nat :=
  let a := s.fld (R.TSN_CTRL n) 26 24
  if s.bit (R.TSN_CTRL n) 30 = false ∨ 34 ≤ n ∨ (t ≠ a ∧ t + 1 ≠ a) then none
  else
    let (now, _, u) := s.turnSpan
    let next := ((s.turn.phase + s.turnAim * s.turnNs) * u - now) / u
    let next := if s.passed s.turn.last (s.turnNs / 2) = true ∨ s.turnNs / 2 ≤ next then next else next + s.turnNs
    some (next + (s.fld (R.TSN_CTRL n) 23 16 - s.tab T.tsnPort n 1) * s.turnNs)

/-- Nanoseconds of the domain until the gate of class t of port n next closes: none while nothing closes it. (DEDUCED, log entry 37.) -/
def Dev.closeIn (s : Dev) (n t : Nat) : Option Nat :=
  let len := s.oprLen n
  let bit (k : Nat) : Bool := s.tfld (T.gclOpr n) k 0 t t == 1
  let list :=
    if s.listRuns n = false ∨ (List.range len).all bit = true ∨ s.oprCycle n ≤ s.oprPhase n then none
    else
      let k := s.fld (R.TSN_GATE n) 25 16
      let endOf (j : Nat) : Nat :=
        if j + 1 < len then min (s.oprCycle n) (s.oprStart n (j + 1)) else s.oprCycle n
      let ph := s.oprPhase n
      let rest := (List.range len).find? fun j => decide (k < j) && !bit j && decide (s.oprStart n j < s.oprCycle n)
      match rest with
      | some j => some (s.oprStart n j - ph)
      | none =>
        match (if s.noCycle n (s.oprCycle n) then none else (List.range len).find? fun j => !bit j) with
        | some j => some (endOf (len - 1) - ph + s.oprStart n j)
        | none => none
  let cct := s.cctOf n
  let now := s.domNow (s.tsnTd n)
  let chg := if s.bit (R.TSN_STAT n) 31 = true ∧ s.bit (R.TSN_CTRL n) 31 = true ∧ s.tfld (T.gclAdm n) 0 0 t t = 0 then some (cct - now) else none
  nearer (nearer list chg) (s.cqfLeft n t)

/-- R346: the longest time that the operating list keeps class t of port n open without a break: none where it never closes,
or never opens. -/
def Dev.widest (s : Dev) (n t : Nat) : Option Nat :=
  let len := s.oprLen n
  let bit (k : Nat) : Bool := s.tfld (T.gclOpr n) k 0 t t == 1
  let iv (k : Nat) : Nat :=
    if s.oprCycle n ≤ s.oprStart n k then 0
    else if k + 1 = len then s.oprCycle n - s.oprStart n k else min (s.oprIv n k) (s.oprCycle n - s.oprStart n k)
  if s.listRuns n = false ∨ (List.range len).all bit = true ∨ (List.range len).any bit = false then none
  else
    let r := (List.range (2 * len)).foldl (fun (a : Nat × Nat) j =>
      if bit (j % len) then (a.1 + iv (j % len), max a.2 (a.1 + iv (j % len))) else (0, a.2)) (0, 0)
    some r.2

/-- The time that `bits` take on port n, in domain units of its list against a length in domain ns. -/
def Dev.fitsIn (s : Dev) (n bits ns : Nat) : Bool :=
  let kb := s.portKbps n
  kb == 0 || decide (((bits * 10 ^ 6 * 2 ^ 16 : Nat) : Int) * s.slope (s.tsnTd n) ≤ ((ns * 2 ^ 64 * kb : Nat) : Int))

/-- Bits that count against a window: the copy, or its first fragment, with preamble and gap (R346). -/
def Dev.fitBits (s : Dev) (c : Copy) (v : FrameSt) : Nat :=
  let n := c.q / 8
  let len := s.outLen c v
  let frag := 64 * (1 + s.fld (R.TSN_PREEMPT n) 9 8)
  8 * ((if s.preClass n (c.q % 8) then min len frag else len) + 20)

/-- R346, R341, R167: what drops the head copy of a class: 0 nothing, 1 SDU_DROP, 2 GATE_DROP. -/
def Dev.headDrop (s : Dev) (c : Copy) : Nat :=
  let n := c.q / 8
  let v := s.frame c.frame
  let sdu := s.fld (R.TSN_MAXSDU n (c.q % 8)) 13 0
  if sdu ≠ 0 ∧ sdu < c.len then 1
  else if n < 32 ∧ ((s.rtagOf c v).isSome = true ∨ v.inPort = 34) ∧
      s.fld (R.ETH_MAX_FRAME n) 15 0 < ((v.len : Int) + c.tagGrow).toNat + (if (s.rtagOf c v).isSome then rtagGrow v.bytes else 0) then 1
  else
    match s.widest n (c.q % 8) with
    | some w => if s.fitsIn n (s.fitBits c v) w then 0 else 2
    | none => 0

/-- Take the head copy of a queue off its list. -/
def Dev.popHead (q : Nat) (s : Dev) : Dev :=
  let s := s.cbsTouch q
  let v := s.qst q
  s.setQ q { v with sram := v.sram.tail }

/-- A head copy may be looked at: its frame is complete, or it cuts through (R315). -/
def Dev.headReady (s : Dev) (c : Copy) : Bool := !(s.frame c.frame).more || c.ct

/-- Drop the head copies of a queue that R346 drops. -/
def Dev.cleanHead : Nat → Nat → Dev → Dev
  | 0, _, s => s
  | k + 1, q, s =>
    match (s.qst q).sram with
    | [] => s
    | c :: _ =>
      let d := if s.headReady c then s.headDrop c else 0
      if d = 0 then s
      else Dev.cleanHead k q (((s.popHead q).inc (if d = 1 then C.TSN_SDU_DROP (q / 8) else C.TSN_GATE_DROP (q / 8))).dropCopy c)

/-- R346: hold stops the preemptible classes of port n, HOLD_ADV ahead of a SET_AND_HOLD entry and until REL_ADV ahead of a
SET_AND_RELEASE entry (R348). -/
def Dev.holdOn (s : Dev) (n : Nat) : Bool :=
  let held := s.tab T.tsnPort n 0 == 1
  if s.preActive n = false then false
  else if s.listRuns n = false then held
  else
    let k := s.fld (R.TSN_GATE n) 25 16
    let wraps := decide (s.oprLen n ≤ k + 1) || decide (s.oprCycle n ≤ s.oprStart n (k + 1))
    let nx := if wraps then 0 else k + 1
    let left := (if wraps then s.oprCycle n else s.oprStart n (k + 1)) - s.oprPhase n
    let op := s.tfld (T.gclOpr n) nx 0 31 28
    if op = 1 ∧ left ≤ s.fld (R.TSN_HOLD_ADV n) 15 0 then true
    else if op = 2 ∧ left ≤ s.fld (R.TSN_REL_ADV n) 15 0 then false
    else held

/-- R44, R346: the head copy of class t of port n may start. -/
def Dev.eligible (s : Dev) (n t : Nat) : Bool :=
  match (s.qst (8 * n + t)).sram with
  | [] => false
  | c :: _ =>
    let v := s.frame c.frame
    s.pwr.xtalOk && s.headReady c && s.gateOpen n t && (!s.cbsOn c.q || decide (0 ≤ s.cbsNow c.q)) &&
      (match c.et with
       | some e => !s.bit (R.TSN_ATS_EN n) t || decide (e ≤ s.frcNow)
       | none => true) &&
      !(s.preClass n t && s.holdOn n) &&
      (match s.closeIn n t with
       | some w => s.fitsIn n (s.fitBits c v) w
       | none => true)

/-- R346: the class that port n sends from, after the drops at its heads. -/
def Dev.txPick (n : Nat) (s : Dev) : Option Nat × Dev :=
  let s := forN 8 (fun t s => s.cleanHead (s.qst (8 * n + t)).sram.length (8 * n + t)) s
  ((List.range 8).reverse.find? (s.eligible n), s)

/-- R347: an internal port takes a copy at its rate: the shaper of its class pays for it at once. -/
def Dev.cbsPay (c : Copy) (s : Dev) : Dev :=
  let kb := s.portKbps (c.q / 8)
  if s.cbsOn c.q = false ∨ kb = 0 then s
  else
    let idle : Int := s.fld (R.TSN_CBS (c.q / 8) (c.q % 8)) 24 0
    let d : Int := (c.len * 8 * 10 ^ 6 * 2 ^ 16 / kb : Nat)
    s.cbsSet c.q (s.cbsNow c.q + (idle - kb) * d)

/-- The next copy that an internal port n releases, taken off its queue. -/
def Dev.takeCopy (n : Nat) (s : Dev) : Option Copy × Dev :=
  match s.txPick n with
  | (none, s) => (none, s)
  | (some t, s) =>
    match (s.qst (8 * n + t)).sram with
    | [] => (none, s)
    | c :: _ => (some c, (s.popHead c.q).cbsPay c)

end Sys2Proof.Machine
end

