-- ==== Sys2Proof/Machine/Mirror.lean ====
section
/-! DEFINITION. Mirror sessions' configuration and the capture ring (chapter 15). -/

namespace Sys2Proof.Machine

/-- MIR table 0: the capture ring, 16 words in a unit (R356, R362). -/
def T.cap : Nat := 0x520

/-- MIR_STAT.CFG_ERR and its event. -/
def Dev.mirErr (s : Dev) : Dev := (s.setBit R.MIR_STAT 0 true).raise 0xE0000 2

/-- R355: a write of MIR_SCFG of session k. (DEDUCED, log entry 33.) -/
def Dev.mirScfgWrite (k v : Nat) (s : Dev) : Dev :=
  let w := v &&& 0xBF073FFF
  let dest := bitsOf v 29 24
  if v.testBit 31 = false then s.wr (R.MIR_SCFG k) w
  else if s.bit (R.MIR_SCFG k) 31 then s.mirErr
  else if (33 < dest ∧ dest ≠ 37) ∨ (bitsOf v 13 0 ≠ 0 ∧ dest ≠ 37) then s.mirErr
  else (((s.wr (R.MIR_SCFG k) w).setTab T.mirCount k 1 0)).mirDraw k

/-- MIR_SCFG_WRITE (R355). -/
def execMirScfgWrite (r : Req) (k v : Nat) (s : State) : Host.Outcome State Fault Refusal :=
  onDev (fun s => if k < 8 then Dev.guarded r (R.MIR_SCFG k) (Dev.mirScfgWrite k v) s else s) s

/-- R355: a write of another register of session k, refused while it is enabled. -/
def Dev.mirOtherWrite (k off v : Nat) (s : Dev) : Dev :=
  if s.bit (R.MIR_SCFG k) 31 then s.mirErr else s.plainWrite off v

/-- Units of a record of CAP_LEN bytes (R356). -/
def capUnits (len : Nat) : Nat := (32 + len + 63) / 64

/-- R358: the fill. -/
def Dev.capFill (s : Dev) : Nat := (s.rd R.CAP_WR + 2 ^ 21 - s.rd R.CAP_RD) % 2 ^ 21

/-- CAP_LEN of the oldest record. -/
def Dev.capOldest (s : Dev) : Nat :=
  let w := s.tab T.cap (s.rd R.CAP_RD % 2 ^ 20) 5
  bitsOf w 23 16 * 256 % 16384 + bitsOf w 31 24

/-- Advance CAP_RD over the oldest record. -/
def Dev.capSkip (s : Dev) : Dev :=
  (s.wr R.CAP_RD ((s.rd R.CAP_RD + capUnits s.capOldest) % 2 ^ 21)).wr R.CAP_RECS (s.rd R.CAP_RECS - 1)

/-- R359: discard oldest records until n units fit. -/
def Dev.capMakeRoom : Nat → Nat → Dev → Dev
  | 0, _, s => s
  | k + 1, n, s =>
    if s.capFill + n ≤ 2 ^ 20 ∨ s.rd R.CAP_RECS = 0 then s else Dev.capMakeRoom k n (s.capSkip.inc C.CAP_OVERWR)

/-- Write a record's bytes, padded, from CAP_WR on (R356, R358). -/
def Dev.capStore (bs : List Byte) (s : Dev) : Dev :=
  let n := (bs.length + 63) / 64
  let at_ := s.rd R.CAP_WR
  let s := forN n (fun u s => forN 16 (fun w s =>
    s.setTab T.cap ((at_ + u) % 2 ^ 20) w (leNat (takePad 4 (bs.drop (64 * u + 4 * w))))) s) s
  let s := ((s.wr R.CAP_WR ((at_ + n) % 2 ^ 21)).wr R.CAP_RECS (s.rd R.CAP_RECS + 1)).add64 C.CAP_RECORDS 1
  s.add64 C.CAP_OCTETS (64 * n)

/-- The stored bytes of a copy's frame (R299), with the FCS that belongs to them. -/
def storedBytes (v : FrameSt) : List Byte := if v.eth then v.bytes ++ fcsOf v.bytes else v.bytes

/-- A copy is handed over in full: DEQ counters, its reference (R300, R323). -/
def Dev.handedOver (c : Copy) (s : Dev) : Dev :=
  ((s.add64 (C.BUFQ_DEQ_FRAMES c.q) 1).add64 (C.BUFQ_DEQ_OCTETS c.q) (s.frame c.frame).len).release c.frame

/-- R322: a copy to P32 to P37 with an uncorrectable codeword is dropped; answers whether it stays. -/
def Dev.readCopy (c : Copy) (ecc info : Nat) (s : Dev) : Bool × Dev :=
  if ecc = 2 then (false, (s.cellRead 2 info).dropCopy c) else (true, s.cellRead ecc info)

/-- R356, R359, R360: the next copy of P37 and the capture ring. -/
def Dev.capRecord (c : Copy) (reading : Bool) (s : Dev) : Dev :=
  let v := s.frame c.frame
  let len := v.len
  let cap := if c.snap = 0 ∨ len ≤ c.snap then len else c.snap
  let n := capUnits cap
  let s := s.handedOver c
  if s.bit R.CAP_CTRL 31 = false ∨ s.bit R.CAP_CTRL 29 = true then s.inc C.CAP_DROP
  else
    let fits := decide (s.capFill + n ≤ 2 ^ 20)
    let ovw := s.bit R.CAP_CTRL 30 && !(reading && s.bit R.CAP_DRAIN 31)
    if fits = false ∧ ovw = false then (s.inc C.CAP_DROP).raiseOnce 0xE0000 0
    else
      let s := if fits then s else (s.capMakeRoom (2 ^ 20) n).raiseOnce 0xE0000 0
      let h := c.mir
      let h := h.set 1 ((h.getD 1 0) ||| (if cap < len then 0x80 else 0))
      let h := ((h.set 2 (BitVec.ofNat 8 (len / 256))).set 3 (BitVec.ofNat 8 len)).set 22 (BitVec.ofNat 8 (cap / 256))
      let h := h.set 23 (BitVec.ofNat 8 cap)
      s.capStore (h ++ (storedBytes v).take cap)

/-- CAP_RECORD_WRITE (R356): the head copy of P37's highest class leaves its queue. `ecc` and `info` say what its cells
show; `reading` that the drain is reading the oldest record (R359). (DESIGN CHOICE, log entry 31.) (DEDUCED, log entry 34.) -/
def execCapRecordWrite (reading : Bool) (ecc info : Nat) (s : State) : Host.Outcome State Fault Refusal :=
  onDev (fun s =>
    match s.takeCopy 37 with
    | (none, s) => s
    | (some c, s) =>
      match s.readCopy c ecc info with
      | (false, s) => s
      | (true, s) => s.capRecord c reading) s

/-- A write of CAP_CTRL: EN and FREEZE are taken, OVERWRITE only while EN is 0; FREEZE raises CAP_FROZEN (R359, R360). -/
def Dev.capCtrlWrite (v : Nat) (s : Dev) : Dev :=
  let locked := s.bit R.CAP_CTRL 31 && (v.testBit 30 != s.bit R.CAP_CTRL 30)
  let was := s.bit R.CAP_CTRL 29
  let s := if locked then s.mirErr else s.setBit R.CAP_CTRL 30 (v.testBit 30)
  let s := (s.setBit R.CAP_CTRL 31 (v.testBit 31)).setBit R.CAP_CTRL 29 (v.testBit 29)
  if v.testBit 29 = true ∧ was = false then s.raise 0xE0000 1 else s

/-- CAP_FREEZE (R360): a write of CAP_CTRL. -/
def execCapFreeze (r : Req) (v : Nat) (s : State) : Host.Outcome State Fault Refusal :=
  onDev (Dev.guarded r R.CAP_CTRL (Dev.capCtrlWrite v)) s

/-- R361: advance over `n` records, or all. -/
def Dev.capReleaseN : Nat → Dev → Dev
  | 0, s => s
  | n + 1, s => if s.rd R.CAP_RECS = 0 then s else Dev.capReleaseN n s.capSkip

/-- R361: a write of CAP_RELEASE. -/
def Dev.capRelease (n : Nat) (s : Dev) : Dev :=
  if s.bit R.CAP_DRAIN 31 then s.mirErr else s.capReleaseN (n % 65536)

/-- CAP_RELEASE (R361). -/
def execCapRelease (r : Req) (n : Nat) (s : State) : Host.Outcome State Fault Refusal :=
  onDev (Dev.guarded r R.CAP_RELEASE (Dev.capRelease n)) s

end Sys2Proof.Machine
end

