-- ==== Sys2Proof/Machine/Trueing.lean ====
section
/-! DEFINITION. The Trueing unit (chapter 17): published corrections, calibration state, faults, and the stamps they give. -/

namespace Sys2Proof.Machine

/-- Port n: frames of the turn (0), the sum of their residuals (magnitude 1 to 3, sign 4), consecutive misses (5), turns
without the fault's cause (6), the SENSE cause in this turn (7), the snapshot held (8: 1 present, 2 converged, 4 no taps), its
centroid (9), the lock offset (10), whether the turn so far was spent in LPI in transmit (11) and in receive (12). -/
def T.tru : Nat := 0x10370

/-- ETH_MODE.SPEED of a port. -/
def Dev.ethMode (s : Dev) (n : Nat) : Nat := s.fld (R.ETH_MODE n) 15 12

/-- The symbol period of a mode as a fraction in ns (R400): 1000BASE-T1 as the spec's example gives it, the others as their
clauses of IEEE 802.3 do (PRESUMED, log entry 42). -/
def symPeriod (mode : Nat) : Nat × Nat :=
  if mode = 4 then (4, 3) else if mode = 5 then (15, 1) else if mode = 1 then (8, 45) else if mode = 2 then (16, 45) else (32, 45)

/-- R400: the receive delay of a centroid in 2^-12 taps. -/
def rxDelay (n mode c : Nat) : Int :=
  let p := symPeriod mode
  Config.rxFuse n mode 0 +
    (Config.rxFuse n mode 1 * ((c : Int) - Config.rxFuse n mode 2) * (p.1 * 2 ^ 16 : Nat)) / (2 ^ 12 * 2 ^ 16 * p.2 : Nat)

/-- R400: the tap centroid in 2^-12 taps; none where all taps are zero. -/
def centroid (taps : List Int) : Option Nat :=
  let d := taps.foldl (fun a w => a + w.natAbs) 0
  let m := taps.zipIdx.foldl (fun a p => a + p.2 * p.1.natAbs) 0
  if d = 0 then none else some (m * 2 ^ 12 / d % 2 ^ 20)

/-- R409: port n enters TRAINING: uncalibrated, the fused base values of its mode. -/
def Dev.truTraining (n : Nat) (s : Dev) : Dev :=
  let m := s.ethMode n
  let s := (s.wr (R.TRU_RX_CORR n) (unsgn 32 (Config.rxFuse n m 0))).wr (R.TRU_TX_LAT n) (unsgn 32 (Config.txFuse n m))
  let s := (s.setBit (R.TRU_PSTAT n) 31 false).setBit R.TRU_CAL_MAP n false
  s.setEntry T.tru n [0, 0, 0, 0, 0, 0, s.tab T.tru n 6, 0, 0, 0, 0, 0, 0]

/-- R407: an S port locks with a deserialiser offset. -/
def Dev.truLock (n align : Nat) (s : Dev) : Dev := s.setTab T.tru n 10 align

/-- R410: port n enters a fault. -/
def Dev.truFault (n code : Nat) (s : Dev) : Dev :=
  let s := s.setTab T.tru n 6 0
  if s.fld (R.TRU_PSTAT n) 29 28 = code then s
  else
    let s := ((s.setBit (R.TRU_PSTAT n) 31 false).setBit R.TRU_CAL_MAP n false).setFld (R.TRU_PSTAT n) 29 28 code
    let s := s.setBit R.TRU_FAULT_MAP n true
    (if code = 2 then s.inc C.TRU_MODEL_FAULT else s).raise 0x14000 1

/-- R409: calibrated. -/
def Dev.truCal (n : Nat) (s : Dev) : Dev :=
  if s.bit (R.TRU_PSTAT n) 31 then s
  else ((s.setBit (R.TRU_PSTAT n) 31 true).setBit R.TRU_CAL_MAP n true).raise 0x14000 0

/-- R402: publish RX_CORR. (DEDUCED, log entry 52.) -/
def Dev.truRx (n : Nat) (v : Int) (s : Dev) : Dev :=
  let old := s.rd (R.TRU_RX_CORR n)
  let w := unsgn 32 v
  let d := (sgn 32 w - sgn 32 old).natAbs
  let s := s.wr (R.TRU_RX_CORR n) w
  if s.fld R.TRU_TOL 31 16 * 4096 < d then
    ((s.inc C.TRU_RX_JUMP).setBit (R.TRU_PSTAT n) 2 true).raise 0x14000 2
  else s

/-- R403: publish TX_LAT from the residuals of the turn. -/
def Dev.truTx (n : Nat) (s : Dev) : Dev :=
  let k := s.tab T.tru n 0
  if k < max 1 (s.fld R.TRU_CTRL 15 8) ∨ s.tab T.tru n 11 = 1 then s
  else
    let sum : Int := if s.tab T.tru n 4 = 0 then s.tab96 T.tru n 1 else -(s.tab96 T.tru n 1 : Int)
    s.wr (R.TRU_TX_LAT n) (unsgn 32 ((s.rd (R.TRU_TX_LAT n) : Int) + sum / k / 2 ^ s.fld R.TRU_CTRL 6 4))

/-- The MODEL cause of the snapshot held (R410). -/
def Dev.truModel (s : Dev) (n : Nat) : Bool :=
  let f := s.tab T.tru n 8
  let c : Int := s.tab T.tru n 9
  decide (4 ≤ n ∧ n < 28) && f.testBit 0 &&
    (f.testBit 2 || decide (c < Config.rxFuse n (s.ethMode n) 3) || decide (Config.rxFuse n (s.ethMode n) 4 < c))

/-- R410: after 16 turns without the cause the fault ends. -/
def Dev.truClean (n : Nat) (s : Dev) : Dev :=
  let code := s.fld (R.TRU_PSTAT n) 29 28
  if code = 0 then s
  else
    let cause := if code = 2 then s.truModel n else s.tab T.tru n 7 == 1
    if cause then s.setTab T.tru n 6 0
    else if 15 ≤ s.tab T.tru n 6 then
      ((s.setTab T.tru n 6 0).setFld (R.TRU_PSTAT n) 29 28 0).setBit R.TRU_FAULT_MAP n false
    else s.setTab T.tru n 6 (s.tab T.tru n 6 + 1)

/-- R407, R408: an external PHY's delay counts on an S port, but for P3 in EPMEL mode. -/
def Dev.truExt (s : Dev) (n : Nat) : Bool := decide (n < 4) && s.bit (R.TRU_PCFG n) 31 && s.ethMode n != 0xC

/-- Port n publishes at this edge (R411). -/
def Dev.truPublishes (s : Dev) (n : Nat) : Bool :=
  s.bit R.TRU_CTRL 0 && !s.bit (R.TRU_PCFG n) 0 && s.portUp n && s.fld (R.TRU_PSTAT n) 29 28 == 0

/-- R400 to R411: port n at a turn edge; answers whether it published. -/
def Dev.truPort (n : Nat) (s : Dev) : Bool × Dev :=
  let s := if s.truModel n then s.truFault n 2 else s
  let s := s.truClean n
  let f := s.tab T.tru n 8
  let m := s.ethMode n
  if s.truPublishes n = false then (false, s)
  else if n < 4 then
    let ext := s.truExt n
    let a : Int := s.tab T.tru n 10
    let rx := Config.rxFuse n m 0 + a + if ext then sgn 32 (s.rd (R.TRU_EXT_RX n)) else 0
    let tx := Config.txFuse n m + a + if ext then sgn 32 (s.rd (R.TRU_EXT_TX n)) else 0
    (true, (((s.truRx n rx).wr (R.TRU_TX_LAT n) (unsgn 32 tx))).truCal n)
  else if 28 ≤ n then (true, ((s.truTx n).truRx n (Config.rxFuse n m 0)).truCal n)
  else
    let s := s.truTx n
    let s := if f.testBit 0 = true ∧ s.tab T.tru n 12 = 0 then s.truRx n (rxDelay n m (s.tab T.tru n 9)) else s
    (true, if f.testBit 0 = true ∧ f.testBit 1 = true then s.truCal n else s)

/-- R400: latch the snapshot of this edge and begin a new turn's residuals. -/
def Dev.truLatch (obs : List TruObs) (n : Nat) (s : Dev) : Dev :=
  let s := forN 5 (fun w s => s.setTab T.tru n w 0) (s.setTab T.tru n 7 0)
  let s := (s.setTab T.tru n 11 (s.fld (R.ETH_STAT n) 6 6)).setTab T.tru n 12 (s.fld (R.ETH_STAT n) 5 5)
  match obs.find? fun o => o.port == n with
  | none => s.setTab T.tru n 8 0
  | some o =>
    if n < 4 ∨ 28 ≤ n ∨ s.portUp n = false then s
    else
      let q := if o.conv then 2 else 0
      match centroid o.taps with
      | none => s.setTab T.tru n 8 (5 + q)
      | some c => ((s.setTab T.tru n 8 (1 + q)).setTab T.tru n 9 c).wr (R.TRU_CENTROID n) c

/-- Step 5 of R54: the edge's publications, of the ports that take part (R55). -/
def Dev.truEdge (only : Nat → Bool) (obs : List TruObs) (s : Dev) : Dev :=
  let r := ((List.range 32).filter only).foldl (fun (p : Bool × Dev) n =>
    let q := p.2.truPort n
    (p.1 || q.1, q.2.truLatch obs n)) (false, s)
  if r.1 then r.2.add64 C.TRU_PUBLISH 1 else r.2

/-- A stamp in FRC units rounded to 1/16 ns (R398). -/
def roundStamp (f : Int) : Nat := (((f + 2048) / 4096 * 4096) % (2 ^ 96 : Nat)).toNat

/-- R398: the ingress stamp of a frame captured `sub` units into the present cycle on port n. -/
def Dev.stampRx (s : Dev) (n sub : Nat) : Nat :=
  roundStamp ((s.time.frc + min sub (cycleU - 1) : Nat) - sgn 32 (s.rd (R.TRU_RX_CORR n)))

/-- R398: the predicted departure of a frame that port n's MAC commits now. -/
def Dev.departAt (s : Dev) (n : Nat) : Nat :=
  (((s.time.frc : Int) + sgn 32 (s.rd (R.TRU_TX_LAT n))) % (2 ^ 96 : Nat)).toNat

/-- R398, R403, R404: the egress stamp of a frame of port n with its predicted departure and what its sense tap saw: the
residual in 2^-16 ns, or nothing. -/
def Dev.truSent (n pred : Nat) (tap : Option Int) (s : Dev) : Nat × Dev :=
  if n < 4 then (roundStamp pred, s)
  else
    match tap with
    | some r =>
      let m := r.natAbs
      let sum : Int := (if s.tab T.tru n 4 = 0 then (s.tab96 T.tru n 1 : Int) else -(s.tab96 T.tru n 1 : Int)) + r
      let s := ((s.setTab T.tru n 0 (s.tab T.tru n 0 + 1)).setTab96 T.tru n 1 sum.natAbs).setTab T.tru n 4 (if sum < 0 then 1 else 0)
      let s := s.setTab T.tru n 5 0
      let s := s.setFld (R.TRU_TXRES_MAX n) 15 0 (max (s.fld (R.TRU_TXRES_MAX n) 15 0) (min 0xFFFF (m / 4096)))
      let s := if s.fld R.TRU_TOL 15 0 * 4096 < m then (s.inc C.TRU_TX_RESID).setBit (R.TRU_PSTAT n) 1 true else s
      (roundStamp ((pred : Int) + r), s)
    | none =>
      let k := s.tab T.tru n 5 + 1
      let s := ((s.inc C.TRU_SENSE_MISS).setBit (R.TRU_PSTAT n) 0 true).setTab T.tru n 5 (if 8 ≤ k then 0 else k)
      (roundStamp pred, if 8 ≤ k then (s.setTab T.tru n 7 1).truFault n 1 else s)

end Sys2Proof.Machine
end

