-- ==== Sys2Proof/Machine/Slots.lean ====
section
/-! DEFINITION. Legacy frames and their internal header (R214), and the schedule matrix: slot entries, hold buffers, windows and
error levels (R170 to R182). -/

namespace Sys2Proof.Machine

/-- R214: the internal legacy header of a frame of a channel. -/
def legHeader (chan : Nat) (origin : Bool) (f : LegFrame) : List Byte :=
  let b (x : Bool) (k : Nat) : Nat := if x then 2 ^ k else 0
  let can := f.kind == 1 || f.kind == 2
  let xl := f.kind == 3
  let flags := b (f.ide && can) 7 + b (f.rtr && f.kind == 1) 6 + b (f.brs && f.kind == 2) 5 + b (f.esi && f.kind == 2) 4 +
    b (f.sec && xl) 3 + b (f.rrs && xl) 2 + b origin 1
  let id := if f.kind = 3 then f.id % 2048 else if f.kind = 4 then f.id % 64 else if f.kind = 5 then 0 else f.id % 2 ^ 29
  beBytes 1 (16 + f.kind % 16) ++ beBytes 1 (chan % 64) ++ beBytes 1 flags ++ beBytes 1 (if xl then f.sdt % 256 else 0) ++
    beBytes 4 id ++ beBytes 2 (f.data.length % 4096) ++ beBytes 1 (if xl then f.vcid % 256 else 0) ++
    beBytes 1 (if can then f.dlc % 16 else 0) ++ beBytes 4 (if xl then f.af else 0)

/-- R214: a frame read back from its header and payload. -/
def legFrame (bs : List Byte) : LegFrame :=
  let flags := beAt bs 2 1
  { kind := beAt bs 0 1 % 16, ide := flags.testBit 7, rtr := flags.testBit 6, brs := flags.testBit 5, esi := flags.testBit 4,
    sec := flags.testBit 3, rrs := flags.testBit 2, sdt := beAt bs 3 1, id := beAt bs 4 4 % 2 ^ 29, vcid := beAt bs 10 1,
    dlc := beAt bs 11 1 % 16, af := beAt bs 12 4, data := (bs.drop 16).take (beAt bs 8 2 % 4096) }

/-- A schedule's record. -/
def Dev.ttsCh (s : Dev) (n : Nat) : TtsCh := smGet (fun _ => ({} : TtsCh)) s.tts n
/-- Store a schedule's record. -/
def Dev.setTts (n : Nat) (v : TtsCh) (s : Dev) : Dev := { s with tts := smSet (fun _ => ({} : TtsCh)) s.tts n v }
/-- A hold buffer's record, by its global index. -/
def Dev.hold (s : Dev) (j : Nat) : HoldBuf := smGet (fun _ => ({} : HoldBuf)) s.hbuf j
/-- Store a hold buffer's record. -/
def Dev.setHold (j : Nat) (v : HoldBuf) (s : Dev) : Dev := { s with hbuf := smSet (fun _ => ({} : HoldBuf)) s.hbuf j v }

/-- TTS_CH_STAT.STATE: 0 TT_OFF, 1 LISTEN, 2 FOLLOWING, 3 MASTER, 4 HALTED. -/
def Dev.ttsState (s : Dev) (n : Nat) : Nat := s.fld (R.TTS_CH_STAT n) 31 28

/-- An event of a schedule, marked in TTS_EV_CH. -/
def Dev.ttsRaise (n ev : Nat) (s : Dev) : Dev := (s.raise 0x74000 ev).setBit R.TTS_EV_CH n true

/-- The slot entries of the active matrix of channel n (R171). -/
def Dev.slotsOf (s : Dev) (n : Nat) : List Nat :=
  (List.range (s.ttsCh n).count).filterMap fun k =>
    let i := (s.ttsCh n).base + k
    if i < 8192 ∧ s.tfld T.slot i 0 31 31 = 1 then some i else none

/-- R182: the error level by its conditions. (DEDUCED, log entry 49.) -/
def Dev.errLvl (s : Dev) (n : Nat) : Nat :=
  if s.ttsState n = 4 then 3
  else if (s.ttsCh n).s2 then 2
  else if (s.slotsOf n).any fun i => s.tfld T.slot i 2 18 16 == 7 then 1 else 0

/-- R182: ERRLVL follows, each change an event. -/
def Dev.ttsLevel (n : Nat) (s : Dev) : Dev :=
  let l := s.errLvl n
  if s.fld (R.TTS_CH_STAT n) 25 24 = l then s else (s.setFld (R.TTS_CH_STAT n) 25 24 l).ttsRaise n 3

/-- A change of the schedule's state; entering or leaving MASTER is an event (R181). -/
def Dev.ttsGoto (n st : Nat) (s : Dev) : Dev :=
  let was := s.ttsState n
  if was = st then s
  else
    let s := s.setFld (R.TTS_CH_STAT n) 31 28 st
    let v := s.ttsCh n
    let v := if st = 0 ∨ st = 1 ∨ st = 4 then { v with win := none, refs := 0, moved := false, begun := false } else v
    let v := if st = 1 then { v with since := s.time.frc } else { v with s2 := false }
    let s := s.setTts n { v with disc := v.disc || st == 3 }
    let free := decide (s.fld (R.TTS_CH_CFG n) 21 20 = 0)
    let s := s.setBit (R.TTS_CH_STAT n) 0 (st == 3 && free)
    let s := if was = 3 ∨ st = 3 then (s.inc (C.TTS_MASTER_CHG n)).ttsRaise n 2 else s
    s.ttsLevel n

/-- MSC of a slot entry counts up or down within 0 to 7 (R178, R180). -/
def Dev.msc (n i : Nat) (up : Bool) (s : Dev) : Dev :=
  let m := s.tfld T.slot i 2 18 16
  (s.setTfld T.slot i 2 18 16 (if up then min 7 (m + 1) else m - 1)).ttsLevel n

/-- R178: a miss of slot entry i. -/
def Dev.slotMiss (n i : Nat) (s : Dev) : Dev :=
  let s := s.setTts n { s.ttsCh n with resolved := true }
  ((s.inc (C.TTS_SLOT_MISS n)).ttsRaise n 0).msc n i true

/-- The basic cycle of a channel in NTU, as its master counts it (R170). -/
def Dev.basicNtu (s : Dev) (n : Nat) : Nat :=
  if s.fld (R.TTS_CH_CFG n) 21 20 = 1 then
    (s.fld (R.TTS_CH_CYCLE n) 19 16 + 1) * s.turnNs / max 1 (s.fld (R.TTS_CH_NTU n) 13 0)
  else s.fld (R.TTS_CH_CYCLE n) 15 0

/-- MCYC and the number of basic cycles in a matrix cycle. -/
def Dev.matrixCycles (s : Dev) (n : Nat) : Nat := 2 ^ s.fld (R.TTS_CH_CFG n) 10 8

/-- The NTU of channel n in ns, as configured. -/
def Dev.ntuNs (s : Dev) (n : Nat) : Nat := s.fld (R.TTS_CH_NTU n) 13 0

/-- R170, R186: `k` NTU of channel n in FRC units, as a fraction: of NTU_NS, or, while it follows a master, at the rate measured
between the last two reference messages, by their marks (an eighth of an NTU each) and their SOFs. -/
def Dev.ntuSpan (s : Dev) (n k : Nat) : Nat × Nat :=
  let v := s.ttsCh n
  let dm := (v.mark + 2 ^ 19 - v.markPrev % 2 ^ 19) % 2 ^ 19
  if s.ttsState n = 2 ∧ v.sofPrev < v.sof ∧ v.sofPrev ≠ 0 ∧ dm ≠ 0 then (k * 8 * (v.sof - v.sofPrev), dm)
  else (k * s.ntuNs n * 2 ^ 16, 1)

/-- `k` NTU after the last reference SOF of channel n, FRC instant `f` has come. -/
def Dev.ntuCome (s : Dev) (n k f : Nat) : Bool :=
  let (a, b) := s.ntuSpan n k
  decide ((s.ttsCh n).sof ≤ f ∧ a ≤ (f - (s.ttsCh n).sof) * b)

/-- FRC instant `f` is no later than `k` NTU after the last reference SOF of channel n. -/
def Dev.ntuWithin (s : Dev) (n k f : Nat) : Bool :=
  let (a, b) := s.ntuSpan n k
  decide ((f - (s.ttsCh n).sof) * b ≤ a)

/-- The basic cycle of a channel in FRC units, as its master counts it (R170). -/
def Dev.basicFrc (s : Dev) (n : Nat) : Nat :=
  if s.fld (R.TTS_CH_CFG n) 21 20 = 1 then (s.fld (R.TTS_CH_CYCLE n) 19 16 + 1) * s.turnNs * 2 ^ 16
  else s.fld (R.TTS_CH_CYCLE n) 15 0 * s.ntuNs n * 2 ^ 16

/-- Word 1 and TXEN of slot entry i: START, LENGTH and TXEN in NTU (R173). -/
def Dev.slotTimes (s : Dev) (i : Nat) : Nat × Nat × Nat :=
  (s.tab T.slot i 1 / 65536, s.tab T.slot i 1 % 65536, s.tab T.slot i 2 % 65536)

/-- The TXEN span of slot entry i of channel n has closed (R178). -/
def Dev.spanOver (s : Dev) (n i : Nat) : Bool :=
  let (a, _, x) := s.slotTimes i
  s.ntuCome n (a + x) s.time.frc

/-- CYCLE_CNT. -/
def Dev.cycleCnt (s : Dev) (n : Nat) : Nat := s.fld (R.TTS_CH_STAT n) 13 8

/-- R171: a slot entry's word 0 serves a cycle count. -/
def serves (w0 cnt : Nat) : Bool := w0.testBit 31 && cnt % 2 ^ bitsOf w0 10 8 == bitsOf w0 21 16

/-- The buffer that a slot entry names, by its global index. -/
def Dev.slotBuf (s : Dev) (n i : Nat) : Nat := 64 * n + s.tfld T.slot i 0 5 0

/-- R176: a buffer sends nothing: empty, or stale with STALE_ACT. -/
def Dev.bufSilent (s : Dev) (j : Nat) : Bool :=
  !(s.hold j).full || ((s.hold j).stale && s.tfld T.hbuf j 0 29 29 == 1)

/-- The open window, unresolved, with its type (R172). -/
def Dev.openSlot (s : Dev) (n : Nat) : Option (Nat × Nat) :=
  let v := s.ttsCh n
  match v.win with
  | some i => if v.resolved then none else some (i, s.tfld T.slot i 0 30 28)
  | none => none

/-- R174: the hold buffer that takes a copy for channel n: none when it goes to the pool. -/
def Dev.bufFor (s : Dev) (n : Nat) (f : LegFrame) : Option Nat :=
  if s.bit (R.TTS_CH_CFG n) 31 = false then none
  else
    (List.range 64).find? fun k =>
      let j := 64 * n + k
      s.tfld T.hbuf j 0 31 31 == 1 && (s.tfld T.hbuf j 1 31 31 == 1) == f.ide && s.tfld T.hbuf j 1 28 0 == f.id &&
        !((s.slotsOf n).any fun i => s.tfld T.slot i 0 30 28 == 3 && s.slotBuf n i == j)

/-- R174, R176: a payload overwrites hold buffer j. -/
def Dev.bufWrite (j : Nat) (f : LegFrame) (s : Dev) : Dev :=
  (s.setHold j { fr := f, full := true, recent := true, edges := 0, stale := false }).jrn 8
    ((f.data.length * 2 ^ 16 + j) :: bytesWords f.data)

/-- Empty a hold buffer; the turn edges since its last write go on (R176). -/
def Dev.bufEmpty (j : Nat) (s : Dev) : Dev := s.setHold j { edges := (s.hold j).edges, stale := (s.hold j).stale }

/-- R180: a received frame whose SOF came at FRC instant `sof` meets an open RX_CHECK window. -/
def Dev.rxCheck (n : Nat) (f : LegFrame) (sof : Nat) (s : Dev) : Dev :=
  match s.openSlot n with
  | some (i, 3) =>
    let j := s.slotBuf n i
    let (a, _, x) := s.slotTimes i
    if (s.tfld T.hbuf j 1 31 31 == 1) == f.ide ∧ s.tfld T.hbuf j 1 28 0 = f.id ∧ s.ntuCome n a sof = true ∧ s.ntuWithin n (a + x) sof = true then
      (s.setTts n { s.ttsCh n with resolved := true }).msc n i false
    else s
  | _ => s

/-- R181: the channel left ERROR_ACTIVE and ERROR_PASSIVE. -/
def Dev.ttsChannelDown (n : Nat) (s : Dev) : Dev := if s.ttsState n = 2 ∨ s.ttsState n = 3 then s.ttsGoto n 1 else s

/-- R176: the stale check of a turn edge, over the active buffers in use whose STALE_TURNS is not 0, full or empty. -/
def Dev.staleEdge (s : Dev) : Dev :=
  forL (s.listed T.hbuf 0) (fun j s =>
    let v := s.hold j
    let lim := s.tfld T.hbuf j 0 23 16
    if lim = 0 ∨ s.tfld T.hbuf j 0 31 31 = 0 then s
    else
      let k := min 255 (v.edges + 1)
      let s := s.setHold j { v with edges := k, stale := v.stale || decide (lim ≤ k) }
      if lim ≤ k ∧ v.stale = false then s.ttsRaise (j / 64) 7 else s) s

end Sys2Proof.Machine
end

