-- ==== Sys2Proof/Machine/Can.lean ====
section
/-! DEFINITION. CAN channels (R143 to R162, R169): states, the transmit pool, attempts, cancels, errors, reception, selective
wake; and the network-management engines (R546 to R548). -/

namespace Sys2Proof.Machine

/-- The page of CAN[n]. -/
def canPage (n : Nat) : Nat := 0x50000 + 0x1000 * n
/-- A channel's record. -/
def Dev.canCh (s : Dev) (n : Nat) : CanSt := smGet (fun _ => ({} : CanSt)) s.can n
/-- CAN_STAT.STATE (R150). -/
def Dev.canState (s : Dev) (n : Nat) : Nat := s.fld (R.CAN_STAT n) 31 28
/-- TEC and REC. -/
def Dev.canTec (s : Dev) (n : Nat) : Nat := s.fld (R.CAN_ERRC n) 24 16
/-- REC. -/
def Dev.canRec (s : Dev) (n : Nat) : Nat := s.fld (R.CAN_ERRC n) 7 0
/-- CAN_CTRL.MODE (R151). -/
def Dev.canMode (s : Dev) (n : Nat) : Nat := s.fld (R.CAN_CTRL n) 10 8

/-- Store a channel's record; CAN_TXQ and TX_ACTIVE follow (the entry in attempt is pending until it leaves). -/
def Dev.setCan (n : Nat) (v : CanSt) (s : Dev) : Dev :=
  let s := { s with can := smSet (fun _ => ({} : CanSt)) s.can n v }
  let own := match v.att with
    | some a => if a.src = 0 then 1 else 0
    | none => 0
  (s.wr (R.CAN_TXQ n) (v.pool.length + own)).setBit (R.CAN_STAT n) 1 v.att.isSome

/-- Pool entries pending. -/
def Dev.poolUsedCan (s : Dev) (n : Nat) : Nat := s.rd (R.CAN_TXQ n)

/-- RX_ACTIVE: another node's frame is on the bus, known from a lost arbitration (R154) to that frame's end. -/
def Dev.rxActive (n : Nat) (b : Bool) (s : Dev) : Dev := s.setBit (R.CAN_STAT n) 0 b

/-- A change of state (R150, R181). -/
def Dev.canGoto (n st : Nat) (s : Dev) : Dev :=
  if s.canState n = st then s
  else
    let s := (s.setFld (R.CAN_STAT n) 31 28 st).raise (canPage n) 0
    let s := if st = 2 ∨ st = 3 ∨ st = 6 then s else s.rxActive n false
    if st = 2 ∨ st = 3 then s else s.ttsChannelDown n

/-- R154: a rank under which the frame that wins arbitration is smallest: dominant levels are 0. -/
def arbKey (f : LegFrame) : Nat :=
  let b (x : Bool) (k : Nat) : Nat := if x then 2 ^ k else 0
  if f.kind = 3 then f.id % 2048 * 2 ^ 21 + b f.rrs 20
  else if f.ide then f.id / 2 ^ 18 % 2048 * 2 ^ 21 + 2 ^ 20 + 2 ^ 19 + f.id % 2 ^ 18 * 2 + b f.rtr 0
  else f.id % 2048 * 2 ^ 21 + b f.rtr 20

/-- R154: the entry that would win against all others, the oldest of equals. -/
def poolBest (l : List CanEnt) : Option CanEnt :=
  l.foldl (fun b e => match b with
    | none => some e
    | some x => if arbKey e.fr < arbKey x.fr then some e else b) none

/-- R153: an entry joins a pool that has room. -/
def Dev.poolAdd (n : Nat) (f : LegFrame) (s : Dev) : Dev :=
  let v := s.canCh n
  if 32 ≤ s.poolUsedCan n then s.inc (C.CAN_TX_POOL_FULL n)
  else s.setCan n { v with pool := v.pool ++ [{ age := v.next, fr := f }], next := v.next + 1 }

/-- Put an entry back by its age (R154). -/
def poolBack (e : CanEnt) (l : List CanEnt) : List CanEnt :=
  l.takeWhile (fun x => decide (x.age < e.age)) ++ e :: l.dropWhile (fun x => decide (x.age < e.age))

/-- R156: every covered entry has resolved; `sent` when the entry in attempt completed. -/
def Dev.cancelDone (n : Nat) (sent : Bool) (s : Dev) : Dev :=
  let v := s.canCh n
  let k := v.cancel.getD 0
  let code := if sent then 0x0C else if 0 < k then 0x0D else 0x0B
  ((s.setCan n { v with cancel := none }).wr (R.CAN_CANCEL n) (2 ^ 30 + code * 65536 + k % 64)).raise (canPage n) 2

/-- The attempt in progress ends without success (R154, R155, R178). -/
def Dev.attFail (n : Nat) (s : Dev) : Dev :=
  let v := s.canCh n
  match v.att with
  | none => s
  | some a =>
    if a.src = 0 then
      if a.ent.covered then
        ((s.setCan n { v with att := none, cancel := v.cancel.map (· + 1) }).inc (C.CAN_TX_CANCELLED n)).cancelDone n false
      else s.setCan n { v with att := none, pool := poolBack a.ent v.pool }
    else if a.src = 1 then
      let s := s.setCan n { v with att := none }
      let w := s.ttsCh n
      let counted := a.missed || s.ttsState n == 0 || (w.win == some a.slot && (!w.closed || w.resolved))
      if counted then s else s.slotMiss n a.slot
    else
      let w := s.ttsCh n
      (s.setCan n { v with att := none }).setTts n { w with due := true, disc := w.disc || a.disc }

/-- R148: the attempt has reached its FDF-to-res edge: TDCV takes the loop delay measured there. -/
def Dev.tdcvStore (n : Nat) (s : Dev) : Dev :=
  match (s.canCh n).att with
  | some { tdcv := some d, .. } => if s.bit (R.CAN_TDC n) 31 then s.setFld (R.CAN_TDC n) 23 16 d else s
  | _ => s

/-- R157: the channel enters BUS_OFF. -/
def Dev.busOff (n : Nat) (s : Dev) : Dev :=
  let s := (((s.attFail n).canGoto n 4).inc (C.CAN_BUS_OFF_CNT n)).raise (canPage n) 1
  let v := s.canCh n
  let s := if s.bit (R.CAN_CTRL n) 14 then
    let k := v.pool.length
    let cov := (v.pool.filter fun e => e.covered).length
    let s := (s.setCan n { v with pool := [] }).incBy (C.CAN_TX_DISCARD n) k
    if cov ≠ 0 then s.cancelDone n false else s
  else s
  let v := s.canCh n
  let run := v.run + 1
  let max := s.fld (R.CAN_BOFF n) 7 0
  let stuck := max != 0 && decide (max ≤ run)
  let s := s.setCan n { v with run := run, stuck := stuck, boffAt := s.time.frc }
  if stuck then s.raise (canPage n) 5 else s

/-- The state that TEC and REC give (R150). -/
def Dev.canCount (n : Nat) (s : Dev) : Dev :=
  if s.canState n ≠ 2 ∧ s.canState n ≠ 3 then s
  else if 255 < s.canTec n then s.busOff n
  else if 127 < s.canTec n ∨ 127 < s.canRec n then s.canGoto n 3
  else s.canGoto n 2

/-- NM_STAT.STATE (R546). -/
def Dev.nmState (s : Dev) (n : Nat) : Nat := s.fld (R.NM_STAT n) 31 28

/-- R547: the engine's own message joins the pool; on a held channel it sends nothing (R558). -/
def Dev.nmSend (n : Nat) (s : Dev) : Dev :=
  if s.gatedLeg n then s else
  let f : LegFrame := { kind := 1, ide := s.bit (R.NM_ID n) 31, id := s.fld (R.NM_ID n) 28 0, dlc := 8, data := leBytes 4 (s.rd (R.NM_DATA0 n)) ++ leBytes 4 (s.rd (R.NM_DATA1 n)) }
  (s.poolAdd n f).add64 C.NM_TX 1

/-- R546, R547: the timer of channel n's engine starts anew. -/
def Dev.nmRestart (n : Nat) (s : Dev) : Dev :=
  { s with pwr := { s.pwr with nm := smSet (fun _ => (0, 0)) s.pwr.nm n (s.time.frc, 0) } }

/-- R546: how long the timer of channel n's engine has run, in FRC units. -/
def Dev.nmRan (s : Dev) (n : Nat) : Nat :=
  (s.time.frc + 2 ^ 96 - (smGet (fun _ => (0, 0)) s.pwr.nm n).1 % 2 ^ 96) % 2 ^ 96

/-- R546: in WAKE_ARMED the timer holds; `arm` that the channel enters it, else leaves it. -/
def Dev.nmHold (n : Nat) (arm : Bool) (s : Dev) : Dev :=
  let t := smGet (fun _ => (0, 0)) s.pwr.nm n
  let t := if arm then (t.1, s.nmRan n) else ((s.time.frc + 2 ^ 96 - t.2 % 2 ^ 96) % 2 ^ 96, 0)
  { s with pwr := { s.pwr with nm := smSet (fun _ => (0, 0)) s.pwr.nm n t } }

/-- R546, R548: a change of the engine's state. -/
def Dev.nmGoto (n st : Nat) (s : Dev) : Dev :=
  let was := s.nmState n
  if was = st then s
  else
    let s := ((s.setFld (R.NM_STAT n) 31 28 st).raise 0xA000 8).nmRestart n
    if st = 1 then
      let v := s.canCh n
      let pat := was == 3 || (was == 0 && v.fresh)
      (s.setCan n { v with pattern := v.pattern || pat, fresh := false }).nmSend n
    else s

/-- R546: the state that EN and REQ give; held while the channel is in WAKE_ARMED. -/
def Dev.nmSync (n : Nat) (s : Dev) : Dev :=
  if s.canState n = 7 then s
  else if s.bit (R.NM_CFG n) 31 = false then s.nmGoto n 0
  else if s.bit (R.NM_CTRL n) 0 then s.nmGoto n 1
  else if s.nmState n = 0 ∨ s.nmState n = 1 then s.nmGoto n 2
  else s

/-- R547: a received frame is an NM message. -/
def Dev.nmMatch (s : Dev) (n : Nat) (f : LegFrame) : Bool :=
  let m := s.fld (R.NM_MASK n) 28 0
  s.bit (R.NM_CFG n) 31 && decide (f.kind ≤ 3) && s.bit (R.NM_ID n) 31 == f.ide && f.id &&& m == s.fld (R.NM_ID n) 28 0 &&& m

/-- R546: an NM message received: it ends NM_AGREED, and in NM_READY the timeout runs anew. -/
def Dev.nmRx (n : Nat) (f : LegFrame) (s : Dev) : Dev :=
  if s.nmMatch n f = false then s
  else if s.nmState n = 3 then s.nmGoto n 2
  else if s.nmState n = 2 then s.nmRestart n else s

/-- Bytes that a frame takes in the receive buffer: its header and payload (DESIGN CHOICE, log entry 43). -/
def rxBytes (f : LegFrame) : Nat := 16 + f.data.length

/-- R158: the time-stamp of a frame whose SOF came at the receive input of channel n at FRC instant `sof`. -/
def canStamp (n : Nat) (sof : Int) : Nat := roundStamp (sof - Config.canDelay n)

/-- R162: the CPE handles a frame of channel n: XL frames with SEC on a CANSEC channel, others on an AUTH one. -/
def Dev.canSecures (s : Dev) (n : Nat) (f : LegFrame) : Bool :=
  if f.kind == 3 then s.bit (R.CAN_SEC n) 0 && f.sec else s.bit (R.CAN_SEC n) 1

/-- R487: the frame's use of its key waits for a held change. -/
def Dev.canWaits (s : Dev) (n : Nat) (f : LegFrame) : Bool :=
  s.canSecures n f &&
    s.canSecWaits n (if f.kind == 3 then 1 else 0) (if f.ide then 1 else 0) (if f.kind == 3 then f.vcid else f.id)

/-- R158, R162, R471, R473: a frame received with its time-stamp is verified where its channel says so and joins the receive buffer,
or waits for a held change of its key (R487). -/
def Dev.rxSecure (n : Nat) (f : LegFrame) (stamp : Nat) (s : Dev) : Dev :=
  if s.canWaits n f then s.setCan n { s.canCh n with secRx := (s.canCh n).secRx ++ [(f, stamp)] }
  else
    match (if s.canSecures n f then s.canVerify n (f.kind == 3) (if f.ide then 1 else 0) f.id f.vcid f.data
      else (some f.data, s)) with
    | (none, s) => (s.inc (C.CAN_RX_SEC_FAIL n)).raise (canPage n) 7
    | (some d, s) =>
      let f := { f with data := d }
      let v := s.canCh n
      if 8192 < v.rx.foldl (fun a e => a + rxBytes e.1) 0 + rxBytes f then
        (s.inc (C.CAN_RX_OVERRUN n)).raise (canPage n) 4
      else s.setCan n { v with rx := v.rx ++ [(f, stamp)] }

/-- R487: the received frames of channel n that waited for a key start their use where no change is held. (DESIGN CHOICE, log entry 126.) -/
def Dev.secRxResume (n : Nat) (s : Dev) : Dev :=
  let v := s.canCh n
  if v.secRx = [] then s
  else forL v.secRx (fun e s => s.rxSecure n e.1 e.2) (s.setCan n { v with secRx := [] })

/-- R158, R162, R547, R180: a frame received without error, its SOF at FRC instant `sof`. (DESIGN CHOICE, log entry 51.) -/
def Dev.canReceive (n : Nat) (f : LegFrame) (sof : Int) (s : Dev) : Dev :=
  let s := (s.add64 (C.CAN_RX_FRAMES n) 1).add64 (C.CAN_RX_BYTES n) f.data.length
  let rec_ := s.canRec n
  let s := if s.canState n = 6 ∨ s.gatedLeg n = true ∨ rec_ = 0 then s
    else if rec_ ≤ 127 then s.setFld (R.CAN_ERRC n) 7 0 (rec_ - 1)
    else s.draw.2.setFld (R.CAN_ERRC n) 7 0 (119 + s.draw.1.toNat % 9)
  let s := ((s.canCount n).nmRx n f).rxCheck n f sof.toNat
  s.rxSecure n f (canStamp n sof)

/-- R152: the formats that PROTO supports. -/
def Dev.canFormat (s : Dev) (n kind : Nat) : Bool := decide (1 ≤ kind ∧ kind ≤ s.fld (R.CAN_CTRL n) 7 6 + 1)

/-- NOT_READY (R24). -/
def Dev.notReady (s : Dev) (n : Nat) : Bool := s.bit (R.CAN_STAT n) 27

/-- R24, R111, R144: the legacy channels work on their buses: after data-plane or legacy release, while the die-to-die link holds
and the line die is fully powered. -/
def Dev.legRuns (s : Dev) : Bool :=
  s.pwr.dieLink && !(s.pwr.phase == .boot || s.pwr.phase == .wake || s.pwr.phase == .ponr || s.pwr.phase == .sleep)

/-- R44, R144, R192, R558: legacy channel c may drive its bus of its own accord. -/
def Dev.legDrives (s : Dev) (c : Nat) : Bool := s.legRuns && s.pwr.xtalOk && !s.gatedLeg c

/-- R150, R148: a bus error, after which TDCV holds the loop delay where the attempt had reached its FDF-to-res edge: an error in
the data phase or a FORM, ACK or CRC error (DESIGN CHOICE, log entry 116): 1 STUFF, 2 FORM, 3 ACK, 4 BIT1, 5 BIT0, 6 CRC; as transmitter or receiver, in the data phase; `plain` when
ISO 11898-1 leaves TEC unchanged; `dom` when a receiver sees a dominant bit after its error flag. A held channel's TEC and REC hold
(R558). -/
def Dev.canError (n code : Nat) (data tx plain dom : Bool) (s : Dev) : Dev :=
  let s := if tx = true ∧ (data = true ∨ code = 2 ∨ code = 3 ∨ code = 6) then s.tdcvStore n else s
  let s := if data then s.setFld (R.CAN_STAT n) 18 16 code else s.setFld (R.CAN_STAT n) 22 20 code
  let s := if code = 1 then s.inc (C.CAN_ERR_STUFF n) else if code = 2 then s.inc (C.CAN_ERR_FORM n)
    else if code = 3 then s.inc (C.CAN_ERR_ACK n) else if code = 6 then s.inc (C.CAN_ERR_CRC n) else s.inc (C.CAN_ERR_BIT n)
  if s.canState n = 6 then (if s.canMode n = 2 then s.canGoto n 1 else s)
  else if s.gatedLeg n then (if tx then s.attFail n else s)
  else
    let s := if tx then (if plain then s else s.setFld (R.CAN_ERRC n) 24 16 (min 511 (s.canTec n + 8)))
      else s.setFld (R.CAN_ERRC n) 7 0 (min 255 (s.canRec n + if dom then 9 else 1))
    (if tx then s.attFail n else s).canCount n

/-- CAN_FRAME_RX (R158): a frame ends whose SOF fell `ago` FRC units before. -/
def execCanFrameRx (n : Nat) (f : LegFrame) (ago : Nat) (s : State) : Host.Outcome State Fault Refusal :=
  onDev (fun s =>
    let st := s.canState n
    let s := if n < 24 then s.rxActive n false else s
    if 24 ≤ n ∨ (st ≠ 2 ∧ st ≠ 3 ∧ st ≠ 6) ∨ s.notReady n = true then s
    else if s.canFormat n f.kind = false then
      if s.bit (R.CAN_CTRL n) 5 then (((s.inc (C.CAN_PROTO_EXC n)).attFail n).canGoto n 1) else s.canError n 2 false false false false
    else s.canReceive n f ((s.time.frc : Int) - ago)) s

/-- CAN_BUS_ERROR (R150, R157). -/
def execCanBusError (n code : Nat) (data tx plain dom : Bool) (s : State) : Host.Outcome State Fault Refusal :=
  onDev (fun s =>
    let st := s.canState n
    if 24 ≤ n ∨ (st ≠ 2 ∧ st ≠ 3 ∧ st ≠ 6) ∨ s.notReady n = true ∨ code = 0 ∨ 6 < code then s
    else (s.rxActive n false).canError n code data tx plain dom) s

/-- CAN_INTEGRATED (R150, R160). -/
def execCanIntegrated (n : Nat) (s : State) : Host.Outcome State Fault Refusal :=
  onDev (fun s =>
    if 24 ≤ n ∨ s.canState n ≠ 1 ∨ s.legRuns = false then s
    else if s.canMode n = 1 ∨ s.canMode n = 2 then s.canGoto n 6
    else
      let v := s.canCh n
      if v.boff then (s.setCan n { v with boff := false }).canGoto n 5
      else if 255 < s.canTec n then s.busOff n
      else if 127 < s.canTec n ∨ 127 < s.canRec n then s.canGoto n 3 else s.canGoto n 2) s

/-- CAN_RECOVERY_DONE (R150): 128 occurrences of 11 recessive bits. -/
def execCanRecoveryDone (n : Nat) (s : State) : Host.Outcome State Fault Refusal :=
  onDev (fun s => if 24 ≤ n ∨ s.canState n ≠ 5 then s else (s.wr (R.CAN_ERRC n) 0).canGoto n 2) s

/-- BOFF_DELAY_EXPIRY (R157): DELAY ms have passed since the bus-off. -/
def execBoffDelayExpiry (n : Nat) (s : State) : Host.Outcome State Fault Refusal :=
  onDev (fun s =>
    if 24 ≤ n ∨ s.canState n ≠ 4 ∨ s.bit (R.CAN_CTRL n) 13 = false ∨ (s.canCh n).stuck = true ∨
        s.passed (s.canCh n).boffAt (s.fld (R.CAN_BOFF n) 31 16 * 1000000) = false then s
    else s.canGoto n 5) s

/-- R157: a write of RECOVER in BUS_OFF, where recovery is not automatic or has stopped. (DEDUCED, log entry 39.) -/
def Dev.canRecover (n : Nat) (s : Dev) : Dev :=
  if s.canState n = 4 ∧ (s.bit (R.CAN_CTRL n) 13 = false ∨ (s.canCh n).stuck = true) then
    (s.setCan n { s.canCh n with stuck := false }).canGoto n 5
  else s

/-- R145, R146: the divisor of a timing register and whether it is in order. -/
def Dev.canDiv (s : Dev) (o : Nat) : Nat := (s.fld o 31 24 + 1) * (3 + s.fld o 23 16 + s.fld o 14 8)
/-- R146: TSEG1 and SJW of a phase. -/
def Dev.canPhaseOk (s : Dev) (o : Nat) : Bool := decide (1 ≤ s.fld o 23 16) && decide (s.fld o 6 0 ≤ s.fld o 14 8)

/-- R146: the checks of a channel that is enabled with these MODE and PROTO. -/
def Dev.canConfigOk (s : Dev) (n mode proto : Nat) : Bool :=
  let nb := R.CAN_NBT n
  let db := R.CAN_DBT n
  let xb := R.CAN_XBT n
  let dn := s.canDiv nb
  let fd := proto == 1 || proto == 2
  let xl := proto == 2
  let tdc := s.bit (R.CAN_TDC n) 31
  let xlMin := if s.bit (R.CAN_XLPWM n) 31 then 8 else 20
  decide (mode ≤ 4) && decide (proto ≤ 2) && s.canPhaseOk nb && decide (160 ≤ dn ∧ dn ≤ 3200) &&
    (!fd || (s.canPhaseOk db && decide (20 ≤ s.canDiv db ∧ s.canDiv db ≤ dn) && (!tdc || decide (s.fld db 31 24 ≤ 1)))) &&
    (!xl || (s.canPhaseOk xb && decide (xlMin ≤ s.canDiv xb ∧ s.canDiv xb ≤ dn) && (!tdc || decide (s.fld xb 31 24 ≤ 1))))

/-- CAN_STAT.CFG_ERR and its event (R146, R147). -/
def Dev.canErr (n : Nat) (s : Dev) : Dev := (s.setBit (R.CAN_STAT n) 9 true).raise (canPage n) 6

/-- R150, R160: the channel enters WAKE_ARMED. (DESIGN CHOICE, log entry 54.) -/
def Dev.canArm (n : Nat) (s : Dev) : Dev :=
  let st := s.canState n
  if st = 0 ∨ st = 7 then s
  else
    let s := s.attFail n
    let s := s.setCan n { s.canCh n with boff := (s.canCh n).boff || st == 4 || st == 5 }
    let s := if s.fld (R.CAN_SWK_CTRL n) 1 0 < 2 then s.setFld (R.CAN_SWK_STAT n) 5 0 0 else s
    (s.nmHold n true).canGoto n 7

/-- R159: the channel leaves WAKE_ARMED with a reason. -/
def Dev.canDisarm (n reason : Nat) (s : Dev) : Dev :=
  if s.canState n ≠ 7 then s
  else
    ((((s.setFld (R.CAN_SWK_STAT n) 31 28 reason).setBit (R.CAN_CTRL n) 12 false).nmHold n false).canGoto n 1).nmSync n

/-- R146, R147, R150, R157, R159: a write of CAN_CTRL of channel n. (DEDUCED, log entry 38.) With CH_EN 1, a write that leaves MODE,
PROTO and PXE as they are is no CFG_ERR (DESIGN CHOICE, log entry 115). -/
def Dev.canCtrl (n v : Nat) (s : Dev) : Dev :=
  let o := R.CAN_CTRL n
  let old := s.rd o
  let en := old.testBit 0
  let s := if en = true ∧ v &&& 0x7E0 ≠ old &&& 0x7E0 then s.canErr n else s
  let new := (v &&& 0x7000) + (if en then old &&& 0x7E0 else v &&& 0x7E0)
  if en = false ∧ v.testBit 0 = true then
    if s.canConfigOk n (bitsOf new 10 8) (bitsOf new 7 6) then
      let s := (s.wr o (new + 1)).canGoto n 1
      if new.testBit 12 then s.canArm n else s
    else (s.wr o new).canErr n
  else if en = true ∧ v.testBit 0 = false then
    let s := (s.wr o new).attFail n
    (((s.setCan n { s.canCh n with boff := false }).canGoto n 0)).nmSync n
  else if en = false then s.wr o new
  else
    let s := s.wr o (new + 1)
    let s := if v.testBit 15 then s.canRecover n else s
    if new.testBit 12 = true ∧ old.testBit 12 = false then s.canArm n
    else if new.testBit 12 = false ∧ old.testBit 12 = true then s.canDisarm n 4
    else s

/-- R147: a write of a timing register. -/
def Dev.canTiming (n off v : Nat) (s : Dev) : Dev := if s.bit (R.CAN_CTRL n) 0 then s.canErr n else s.plainWrite off v

/-- R160: a write of CAN_SWK_CTRL: with a MODE that decodes no wake-up frame, the frame error counter holds zero. -/
def Dev.swkCtrlWrite (n v : Nat) (s : Dev) : Dev :=
  let s := s.plainWrite (R.CAN_SWK_CTRL n) v
  if s.fld (R.CAN_SWK_CTRL n) 1 0 < 2 then s.setFld (R.CAN_SWK_STAT n) 5 0 0 else s

/-- CH_EN_WRITE (R146): a write of CAN_CTRL. -/
def execChEnWrite (r : Req) (n v : Nat) (s : State) : Host.Outcome State Fault Refusal :=
  onDev (fun s => if n < 24 then Dev.guarded r (R.CAN_CTRL n) (Dev.canCtrl n v) s else s) s

/-- RECOVER (R157): a write of CAN_CTRL with RECOVER set, its other fields as they stand. -/
def execRecover (r : Req) (n : Nat) (s : State) : Host.Outcome State Fault Refusal :=
  onDev (fun s =>
    if n < 24 then Dev.guarded r (R.CAN_CTRL n) (fun s => s.canCtrl n (s.rd (R.CAN_CTRL n) ||| 0x8000)) s else s) s

/-- CH_SLEEP_WRITE (R159): a write of CAN_CTRL that changes CH_SLEEP only. -/
def execChSleepWrite (r : Req) (n : Nat) (v : Bool) (s : State) : Host.Outcome State Fault Refusal :=
  onDev (fun s =>
    if n < 24 then
      Dev.guarded r (R.CAN_CTRL n) (fun s => s.canCtrl n (withBits (s.rd (R.CAN_CTRL n)) 12 12 (if v then 1 else 0))) s
    else s) s

/-- SWK_FRAME_DECODED (R160): a CC frame decoded in WAKE_ARMED, with or without error; an FD or XL frame freezes the counter. -/
def execSwkFrameDecoded (n : Nat) (cc err : Bool) (s : State) : Host.Outcome State Fault Refusal :=
  onDev (fun s =>
    if 24 ≤ n ∨ s.canState n ≠ 7 ∨ s.fld (R.CAN_SWK_CTRL n) 1 0 < 2 ∨ cc = false then s
    else
      let c := s.fld (R.CAN_SWK_STAT n) 5 0
      s.setFld (R.CAN_SWK_STAT n) 5 0 (if err then min 63 (c + 1) else c - 1)) s

/-- R159: what the transceiver reports is enabled: 1 WUP, 2 the wake-up frame `f`, 3 an overflow of the frame error counter. -/
def Dev.swkWakes (s : Dev) (n reason : Nat) (f : LegFrame) : Bool :=
  let mode := s.fld (R.CAN_SWK_CTRL n) 1 0
  if reason = 1 then decide (1 ≤ mode)
  else if reason = 2 then
    let mask := s.fld (R.CAN_SWK_MASK n) 28 0
    let data := leBytes 4 (s.rd (R.CAN_SWK_DATA0 n)) ++ leBytes 4 (s.rd (R.CAN_SWK_DATA1 n))
    decide (2 ≤ mode) && decide (s.fld (R.CAN_SWK_CTRL n) 6 4 ≤ 3) && f.kind == 1 && !f.rtr && s.bit (R.CAN_SWK_ID n) 31 == f.ide &&
      f.id &&& mask == s.fld (R.CAN_SWK_ID n) 28 0 &&& mask && f.dlc == s.fld (R.CAN_SWK_DLC n) 3 0 &&
      (!s.bit (R.CAN_SWK_CTRL n) 8 || (f.data.zip data).any fun p => p.1 &&& p.2 != 0)
  else decide (2 ≤ mode) && decide (31 < s.fld (R.CAN_SWK_STAT n) 5 0)

/-- R24, R44, R151, R558: the channel may begin an attempt. -/
def Dev.canSends (s : Dev) (n : Nat) : Bool :=
  (s.canState n == 2 || s.canState n == 3) && !s.notReady n && s.legDrives n && (s.canCh n).att.isNone &&
    (s.canMode n == 0 || s.canMode n == 3 || s.canMode n == 4)

/-- Begin an attempt, its SOF `a.sof` FRC units into the present cycle (R148: the loop delay is measured on a frame with FDF). -/
def Dev.attBegin (n tdcv : Nat) (a : CanAtt) (s : Dev) : Dev :=
  let d := if a.ent.fr.kind = 2 ∨ a.ent.fr.kind = 3 then some tdcv else none
  (s.setCan n { s.canCh n with att := some { a with sof := s.time.frc + a.sof, tdcv := d } }).rxActive n false

/-- R184: a reference mark: the domain's time at an FRC instant in NTU with three fraction bits, modulo 2^16 NTU. -/
def Dev.refMark (s : Dev) (n f : Nat) : Nat :=
  s.domAt (s.fld (R.TTS_CH_CFG n) 18 16) f * 8 / (max 1 (s.fld (R.TTS_CH_NTU n) 13 0) * 2 ^ 64) % 2 ^ 19

/-- R183 to R185: a reference message of channel n and what it carries; its four bytes are those of ISO 11898-4 level 2
(PRESUMED, log entry 44). -/
def Dev.refFrame (s : Dev) (n sub : Nat) : CanAtt :=
  let cnt := if s.ttsState n = 1 then 0 else (s.cycleCnt n + 1) % s.matrixCycles n
  let nb := R.CAN_NBT n
  let mark := s.refMark n (canStamp n (s.time.frc + sub : Nat) + (s.fld nb 31 24 + 1) * (2 + s.fld nb 23 16) * 0x64000)
  let ref := R.TTS_CH_REF n
  let id := s.fld ref 28 0 / 8 * 8 + s.fld (R.TTS_CH_CFG n) 26 24
  let disc := (s.ttsCh n).disc
  { src := 2, count := cnt, mark := mark, disc := disc, sof := sub
    ent := { fr := { kind := 1, ide := s.bit ref 31, id := id, dlc := 4, data := beBytes 1 cnt ++ beBytes 1 (mark % 8 * 32 + if disc then 1 else 0) ++ leBytes 2 (mark / 8) } } }

/-- R183, R185: an attempt at the reference message, its SOF `sub` FRC units into the present cycle, which takes a due discontinuity bit with it. -/
def Dev.refBegin (n sub : Nat) (s : Dev) : Dev :=
  (s.attBegin n 0 (s.refFrame n (sub % 0x28000))).setTts n { s.ttsCh n with due := false, disc := false }

/-- R175: an attempt from a hold buffer. -/
def Dev.slotBegin (n i tdcv : Nat) (s : Dev) : Dev :=
  let j := s.slotBuf n i
  let h := s.hold j
  (s.setHold j { h with recent := false }).attBegin n tdcv { src := 1, slot := i, buf := j, ent := { fr := h.fr } }

/-- R154: an attempt from the pool. -/
def Dev.poolBegin (n tdcv : Nat) (s : Dev) : Dev :=
  let v := s.canCh n
  match poolBest v.pool with
  | none => s
  | some e => (s.setCan n { v with pool := v.pool.filter fun x => x.age != e.age }).attBegin n tdcv { ent := e }

/-- CAN_TX_START (R154, R172, R178, R183, R548): the bus is idle and the channel begins what it has: a wake pattern, a
reference message, the hold buffer of the open window, or the pool's winner. -/
def execCanTxStart (n tdcv : Nat) (s : State) : Host.Outcome State Fault Refusal :=
  onDev (fun s =>
    if 24 ≤ n ∨ s.canSends n = false then s
    else
      let v := s.canCh n
      if v.pattern then
        let s := s.setCan n { v with pattern := false }
        if s.canMode n = 3 then s else s.emit (.leg n 0x20000000 [])
      else if (s.ttsCh n).due = true ∧ s.ttsState n ≠ 0 ∧ s.ttsState n ≠ 4 then s.refBegin n 0
      else if s.ttsState n = 0 then s.poolBegin n tdcv
      else if s.ttsState n = 1 ∨ s.ttsState n = 4 ∨ (s.ttsCh n).closed = true then s
      else
        match s.openSlot n with
        | some (i, 4) => let _ := i; s.poolBegin n tdcv
        | some (i, t) => if (t = 1 ∨ t = 2) ∧ s.bufSilent (s.slotBuf n i) = false then s.slotBegin n i tdcv else s
        | none => s) s

/-- R170, R188: the cycle that `v` times begins a new one at reference SOF `sof` with mark `mark`. -/
def TtsCh.reference (v : TtsCh) (sof mark : Nat) (gap : Bool) : TtsCh :=
  { v with sofPrev := v.sof, markPrev := v.mark, sof := sof, mark := mark, gap := gap, due := false, win := none }

/-- R181: own reference message `a` makes the channel master: in LISTEN only after a basic cycle free of reference messages. -/
def Dev.refMasters (s : Dev) (n : Nat) (a : CanAtt) : Bool :=
  s.ttsState n != 1 || decide ((s.ttsCh n).since + s.basicFrc n ≤ a.sof)

/-- R181, R183: the channel's own reference message was sent. -/
def Dev.refWon (n : Nat) (a : CanAtt) (s : Dev) : Dev :=
  let prio := s.fld (R.TTS_CH_CFG n) 26 24
  let s := s.add64 (C.TTS_REF_TX n) 1
  let v := (s.ttsCh n).reference a.sof a.mark false
  if s.refMasters n a = false then s
  else
  let s := s.setTts n (if s.ttsState n = 3 then v else { v with edges := 0, begun := false, moved := false })
  let s := (s.setFld (R.TTS_CH_STAT n) 13 8 a.count).wr (R.TTS_CH_LASTREF n) a.mark
  let changed := s.fld (R.TTS_CH_STAT n) 22 20 != prio && s.ttsState n == 3
  let s := s.setFld (R.TTS_CH_STAT n) 22 20 prio
  let s := if changed then (s.inc (C.TTS_MASTER_CHG n)).ttsRaise n 2 else s
  (s.ttsGoto n 3).ttsLevel n

/-- R178, R173: a hold buffer's frame was sent. -/
def Dev.slotSent (n : Nat) (a : CanAtt) (s : Dev) : Dev :=
  let s := s.add64 (C.TTS_SLOT_TX n) 1
  let v := s.ttsCh n
  let s := if v.win = some a.slot then s.setTts n { v with resolved := true } else s
  let s := s.msc n a.slot false
  let h := s.hold a.buf
  if s.tfld T.hbuf a.buf 0 30 30 = 0 ∧ h.recent = false then s.bufEmpty a.buf else s

/-- CAN_TX_DONE (R154, R155): the attempt completes. -/
def execCanTxDone (n : Nat) (s : State) : Host.Outcome State Fault Refusal :=
  onDev (fun s =>
    let v := s.canCh n
    match v.att with
    | none => s
    | some a =>
      let f := a.ent.fr
      let s := (s.tdcvStore n).setCan n { v with att := none, run := 0 }
      let s := if s.canMode n = 3 then s else s.emit (.leg n f.id (legHeader n false f ++ f.data))
      let s := (s.add64 (C.CAN_TX_FRAMES n) 1).add64 (C.CAN_TX_BYTES n) f.data.length
      let s := (s.setFld (R.CAN_ERRC n) 24 16 (s.canTec n - 1)).canCount n
      let s := if a.src = 2 then s.refWon n a else if a.src = 1 then s.slotSent n a else s
      let s := if a.ent.covered then s.cancelDone n true else s
      if s.canMode n = 3 ∨ s.canMode n = 4 then s.canReceive n f a.sof else s) s

/-- ARB_LOST (R154, R155). -/
def execArbLost (n : Nat) (s : State) : Host.Outcome State Fault Refusal :=
  onDev (fun s => if (s.canCh n).att.isSome then ((s.inc (C.CAN_ARB_LOST n)).attFail n).rxActive n true else s) s

/-- R155: an entry has the identifier that CAN_CANCEL_ID names. -/
def Dev.cancelHits (s : Dev) (n : Nat) (e : CanEnt) : Bool :=
  let w := R.CAN_CANCEL_ID n
  let id := if e.fr.kind = 3 then e.fr.id % 2048 else e.fr.id
  s.bit w 31 == (e.fr.ide && e.fr.kind != 3) && s.fld w 28 0 == id

/-- R155, R156: a write of CAN_CANCEL.REQ. -/
def Dev.canCancel (n v : Nat) (s : Dev) : Dev :=
  if v.testBit 31 = false ∨ s.bit (R.CAN_CANCEL n) 31 = true then s
  else
    let c := s.canCh n
    let out := c.pool.filter (s.cancelHits n)
    let k := out.length
    let s := s.wr (R.CAN_CANCEL n) (2 ^ 31)
    let hit := match c.att with
      | some a => if a.src = 0 ∧ s.cancelHits n a.ent = true then some { a with ent := { a.ent with covered := true } } else none
      | none => none
    let pool := c.pool.filter fun e => !s.cancelHits n e
    let s := s.setCan n { c with pool := pool, cancel := some k, att := if hit.isSome then hit else c.att }
    let s := s.incBy (C.CAN_TX_CANCELLED n) k
    if hit.isSome then s else s.cancelDone n false

/-- CAN_CANCEL (R155): a write of CAN_CANCEL. -/
def execCanCancel (r : Req) (n v : Nat) (s : State) : Host.Outcome State Fault Refusal :=
  onDev (fun s => if n < 24 then Dev.guarded r (R.CAN_CANCEL n) (Dev.canCancel n v) s else s) s

/-- NM_EN_WRITE (R546): a write of NM_CFG. -/
def execNmEnWrite (r : Req) (n v : Nat) (s : State) : Host.Outcome State Fault Refusal :=
  onDev (fun s => if n < 24 then Dev.guarded r (R.NM_CFG n) (fun s => (s.plainWrite (R.NM_CFG n) v).nmSync n) s else s) s

/-- NM_REQ_WRITE (R546): a write of NM_CTRL. -/
def execNmReqWrite (r : Req) (n v : Nat) (s : State) : Host.Outcome State Fault Refusal :=
  onDev (fun s => if n < 24 then Dev.guarded r (R.NM_CTRL n) (fun s => (s.plainWrite (R.NM_CTRL n) v).nmSync n) s else s) s

/-- NM_CYCLE (R546): CYCLE ms have passed since NM_AWAKE was entered or the last own message. -/
def execNmCycle (n : Nat) (s : State) : Host.Outcome State Fault Refusal :=
  onDev (fun s =>
    if 24 ≤ n ∨ s.nmState n ≠ 1 ∨ s.canState n = 7 ∨ s.nmRan n < max 1 (s.fld (R.NM_TIMING n) 31 16) * 1000000 * 2 ^ 16 then s
    else (s.nmRestart n).nmSend n) s

/-- NM_TIMEOUT (R546): TIMEOUT ms have passed since NM_READY was entered or the last NM message. -/
def execNmTimeout (n : Nat) (s : State) : Host.Outcome State Fault Refusal :=
  onDev (fun s =>
    if 24 ≤ n ∨ s.nmState n ≠ 2 ∨ s.canState n = 7 ∨ s.nmRan n < max 1 (s.fld (R.NM_TIMING n) 15 0) * 1000000 * 2 ^ 16 then s
    else s.nmGoto n 3) s

/-- SOFT_RST of a CAN page: CONFIG, empty pool and receive buffer, error counters zero. -/
def Dev.canSoftRst (n : Nat) (s : Dev) : Dev :=
  let s := s.canGoto n 0
  let v := s.canCh n
  ((s.setCan n { pattern := v.pattern, fresh := v.fresh }).wr (R.CAN_ERRC n) 0).setBit (R.CAN_CTRL n) 0 false

end Sys2Proof.Machine
end

