-- ==== Sys2Proof/Machine/Tts.lean ====
section
/-! DEFINITION. The commands of the schedule matrix (R170 to R191). -/

namespace Sys2Proof.Machine

/-- R181, R189: a write of TTS_CH_CFG of channel n. -/
def Dev.ttsCfgWrite (n v : Nat) (s : Dev) : Dev :=
  let o := R.TTS_CH_CFG n
  let en := s.bit o 31
  let fields := if en then s.rd o % 2 ^ 31 else v &&& 0x37370700
  if v.testBit 31 = false then
    let s := s.wr o fields
    if en then (s.ttsGoto n 0).setTts n { s.ttsCh n with due := false, s2 := false, win := none, refs := 0 } else s
  else if en then s
  else if 1 < bitsOf fields 29 28 ∨ bitsOf fields 21 20 = 3 ∨ bitsOf fields 10 8 = 7 then
    (s.wr o fields).setBit (R.TTS_CH_STAT n) 2 true
  else
    let s := (s.wr o (fields + 2 ^ 31)).setBit (R.TTS_CH_STAT n) 2 false
    if s.bit R.TTS_CTRL 0 then s.ttsGoto n 1 else s

/-- TTS_EN_WRITE (R181): a write of TTS_CH_CFG. -/
def execTtsEnWrite (r : Req) (n v : Nat) (s : State) : Host.Outcome State Fault Refusal :=
  onDev (fun s => if n < 24 then Dev.guarded r (R.TTS_CH_CFG n) (Dev.ttsCfgWrite n v) s else s) s

/-- A write of TTS_CTRL: EN 0 takes every schedule to TT_OFF, EN 1 starts those whose channel is enabled. -/
def Dev.ttsCtrlWrite (v : Nat) (s : Dev) : Dev :=
  let s := s.wr R.TTS_CTRL (v % 2)
  forN 24 (fun n s =>
    if v.testBit 0 = false then s.ttsGoto n 0
    else if s.bit (R.TTS_CH_CFG n) 31 = true ∧ s.ttsState n = 0 then s.ttsGoto n 1 else s) s

/-- The channel is in ERROR_ACTIVE or ERROR_PASSIVE. -/
def Dev.canRuns (s : Dev) (n : Nat) : Bool := s.canState n == 2 || s.canState n == 3

/-- R183, R558: the channel is a potential time master; a held one runs as FOLLOWER. -/
def Dev.ttsPotential (s : Dev) (n : Nat) : Bool := s.fld (R.TTS_CH_CFG n) 29 28 == 1 && !s.gatedLeg n

/-- TTS_CH_STAT.ALIGNED. -/
def Dev.ttsAligned (s : Dev) (n : Nat) : Bool := s.bit (R.TTS_CH_STAT n) 0

/-- TTS_CH_CFG.ALIGN: 0 FREE, 1 TURN, 2 TD0. -/
def Dev.ttsAlign (s : Dev) (n : Nat) : Nat := s.fld (R.TTS_CH_CFG n) 21 20

/-- REF_OFFSET in ns. -/
def Dev.refOffset (s : Dev) (n : Nat) : Nat := s.fld (R.TTS_CH_PHASE n) 20 0

/-- R188: the running cycle of channel n ends with a changed spacing: its transmit windows whose span has not closed are missed, and
ALIGN_CHG is raised. A window that has resolved is not missed again (DEDUCED, log entry 94). -/
def Dev.cycleCut (n : Nat) (s : Dev) : Dev :=
  let late := (s.slotsOf n).filter fun i =>
    let w0 := s.tab T.slot i 0
    serves w0 (s.cycleCnt n) && decide (1 ≤ bitsOf w0 30 28 ∧ bitsOf w0 30 28 ≤ 2) && !s.spanOver n i &&
      !((s.ttsCh n).win == some i && (s.ttsCh n).resolved)
  let s := forL late (fun i s => s.slotMiss n i) s
  let v := s.canCh n
  let s := s.setCan n { v with att := v.att.map fun a => { a with missed := a.missed || (a.src == 1 && late.contains a.slot) } }
  (s.setTts n { s.ttsCh n with moved := false }).ttsRaise n 6

/-- R170: TD0, in 2^-64 ns, at an FRC instant no later than now, on the scale that TD0 has now. -/
def Dev.td0At (s : Dev) (f : Nat) : Int := ((s.dom 0).t : Int) - (s.time.frc - f : Nat) * 2 ^ 48

/-- R170: the first aligned TD0 instant that is not skipped, half a basic cycle or more after the last reference SOF, has come. -/
def Dev.td0Come (s : Dev) (n : Nat) : Bool :=
  let c : Int := s.basicFrc n * 2 ^ 48
  let from_ := s.td0At (s.ttsCh n).sof + c / 2
  decide (from_ + ((s.refOffset n : Int) * 2 ^ 64 - from_) % c ≤ (s.dom 0).t)

/-- R187: how far the aligned instant of R170 that is nearest to the end of the basic cycle lies from it, in FRC units: for TURN an
instant REF_OFFSET after an edge, for TD0 one at which T − REF_OFFSET is a multiple of the basic cycle. -/
def Dev.alignErr (s : Dev) (n : Nat) : Int :=
  let c : Int := s.basicFrc n
  let off : Int := s.refOffset n * 2 ^ 16
  let sof := (s.ttsCh n).sof
  let turn := s.ttsAlign n = 1
  let step : Int := if turn then s.turnNs * 2 ^ 16 else c
  let r := (if turn then (sof : Int) + c - s.turn.last - off else s.td0At sof / 2 ^ 48 + c - off) % step
  if 2 * r ≤ step then -r else step - r

/-- R187: the nearest aligned instant lies within 1/64 of a basic cycle. -/
def Dev.alignNear (s : Dev) (n : Nat) : Bool := decide (64 * (s.alignErr n).natAbs ≤ s.basicFrc n)

/-- R170, R183, R187: an expected reference instant has come: in MASTER the end of the basic cycle, or the aligned instant, or, on the way
to it, an instant at most 1/64 of a basic cycle nearer to it; in FOLLOWING the instant that the master's cycle predicts. A potential
master in LISTEN attempts at any instant (DESIGN CHOICE, log entry 117). -/
def Dev.refCome (s : Dev) (n : Nat) : Bool :=
  let v := s.ttsCh n
  let now := s.time.frc
  let c := s.basicFrc n
  if s.ttsState n = 2 then decide (v.sofPrev = 0 ∨ 2 * v.sof ≤ now + v.sofPrev)
  else if s.ttsState n ≠ 3 then true
  else if s.ttsAlign n = 0 then decide (v.sof + c ≤ now)
  else if s.ttsAlign n = 1 ∧ v.begun = true then decide (v.cycEdge + s.refOffset n * 2 ^ 16 ≤ now)
  else if s.ttsAligned n = false then decide ((v.sof : Int) + c + clampInt (-(c / 64 : Nat)) (c / 64 : Nat) (s.alignErr n) ≤ now)
  else s.ttsAlign n == 2 && s.td0Come n

/-- R170, R187, R188: a reference message falls due in MASTER: ALIGNED sets at an aligned instant, the count of edges starts with the
edge that begins the cycle, and with ALIGN TD0 a step of TD0 ends the cycle here. -/
def Dev.refMastered (n : Nat) (s : Dev) : Dev :=
  let v := s.ttsCh n
  let turn := s.ttsAlign n == 1
  let near := s.alignNear n || v.begun
  let edges := if turn = true ∧ v.begun = false then (if near then s.refOffset n / max 1 s.turnNs else 0) else v.edges
  let fresh := s.ttsAlign n != 0 && !s.ttsAligned n && near
  let s := s.setTts n { v with begun := false, edges := edges }
  let s := if fresh then (s.setBit (R.TTS_CH_STAT n) 0 true).ttsRaise n 6 else s
  if v.moved = true ∧ turn = false then s.cycleCut n else s

/-- TTS_REF_DUE (R170, R183, R187): the attempt at a reference message once its expected instant has come; `idle` that the bus is
idle, so that its SOF leaves `sub` FRC units into the present cycle. -/
def execTtsRefDue (n sub : Nat) (idle : Bool) (s : State) : Host.Outcome State Fault Refusal :=
  onDev (fun s =>
    let st := s.ttsState n
    if 24 ≤ n ∨ st = 0 ∨ st = 4 ∨ s.ttsPotential n = false ∨ s.canRuns n = false ∨ s.refCome n = false then s
    else
      let s := if st = 3 then s.refMastered n else s
      if idle = true ∧ s.canSends n = true then s.refBegin n sub else s.setTts n { s.ttsCh n with due := true }) s

/-- R186: GTOFS at a reference message: the master's global time less the own domain time, in ns, at the sample point of its SOF. -/
def Dev.gtofs (s : Dev) (n mark sof : Nat) : Nat :=
  let ntu := s.ntuNs n
  let nb := R.CAN_NBT n
  let at_ := canStamp n sof + (s.fld nb 31 24 + 1) * (2 + s.fld nb 23 16) * 0x64000
  let half : Int := (2 ^ 18 * ntu : Nat)
  let own : Nat := domNs (s.domAt (s.fld (R.TTS_CH_CFG n) 18 16) at_) * 8
  let d : Int := ((mark % 2 ^ 19 * ntu : Nat) : Int) - (own : Int)
  let w : Int := if ntu = 0 then 0 else (d + half) % (2 * half) - half
  unsgn 32 (clampInt (-(2 ^ 31 - 1)) (2 ^ 31 - 1) (w / 8))

/-- R186, R191: a reference message of another master is taken: cycle count, mark, master, GTOFS; `leaves` that the schedule leaves MASTER
with it, which counts MASTER_CHG once. -/
def Dev.refTaken (n prio cnt mark sof : Nat) (gap leaves : Bool) (s : Dev) : Dev :=
  let s := s.setTts n { (s.ttsCh n).reference sof (mark % 2 ^ 19) gap with edges := 0, begun := false, moved := false }
  let s := (s.setFld (R.TTS_CH_STAT n) 13 8 (cnt % s.matrixCycles n)).wr (R.TTS_CH_LASTREF n) (mark % 2 ^ 19)
  let changed := s.fld (R.TTS_CH_STAT n) 22 20 != prio % 8 && !leaves
  let s := s.setFld (R.TTS_CH_STAT n) 22 20 prio
  let s := if changed then (s.inc (C.TTS_MASTER_CHG n)).ttsRaise n 2 else s
  s.wr (R.TTS_CH_GTOFS n) (s.gtofs n mark sof)

/-- R181: in LISTEN, a reference message of count `cnt` with its SOF at FRC instant `sof` comes one basic cycle after the last: the next count,
and where the basic cycle is configured, between half a cycle and one and a half later (DESIGN CHOICE, log entry 117). -/
def Dev.refFollows (s : Dev) (n cnt sof : Nat) : Bool :=
  let v := s.ttsCh n
  let c := s.basicFrc n
  decide (0 < v.refs) && cnt == (s.cycleCnt n + 1) % s.matrixCycles n &&
    (c == 0 || decide (c < 2 * (sof - v.sof) ∧ 2 * (sof - v.sof) < 3 * c))

/-- TTS_REF_RX (R181, R182, R183, R186): a reference message of another master with its priority, count, next-is-gap bit and mark, its
SOF `ago` FRC units before. An own message that still waits gives way to it until the next expected instant. -/
def execTtsRefRx (n prio cnt : Nat) (gap : Bool) (mark ago : Nat) (s : State) : Host.Outcome State Fault Refusal :=
  onDev (fun s =>
    let st := s.ttsState n
    if 24 ≤ n ∨ st = 0 ∨ st = 4 ∨ s.canRuns n = false then s
    else
      let s := (s.add64 (C.TTS_REF_RX n) 1).setTts n { s.ttsCh n with due := false }
      let own := s.fld (R.TTS_CH_CFG n) 26 24
      let pot := s.ttsPotential n
      let sof := s.time.frc - ago
      if pot = true ∧ prio = own then s.ttsGoto n 4
      else if st = 3 then (if prio < own ∨ pot = false then (s.refTaken n prio cnt mark sof gap true).ttsGoto n 2 else s)
      else if st = 2 then s.refTaken n prio cnt mark sof gap false
      else
        let follows := s.refFollows n cnt sof
        let s := s.refTaken n prio cnt mark sof gap false
        if follows then s.ttsGoto n 2 else s.setTts n { s.ttsCh n with refs := 1, since := sof }) s

/-- TTS_REF_TIMEOUT (R182): no reference message started within a basic cycle after its expected SOF. -/
def execTtsRefTimeout (n : Nat) (s : State) : Host.Outcome State Fault Refusal :=
  onDev (fun s =>
    let st := s.ttsState n
    if 24 ≤ n ∨ (st ≠ 2 ∧ st ≠ 3) ∨ (s.ttsCh n).gap = true then s
    else
      let s := s.setTts n { s.ttsCh n with s2 := true }
      s.ttsGoto n 1) s

/-- TTS_WINDOW_START (R171, R172, R176, R179): slot entry i of channel n opens, no earlier than its START (R186); `busy` that a frame is
still on the bus. Windows of a channel that BUS_OFF, RECOVERING, INTEGRATING or MONITOR keeps in LISTEN open only to be missed (R179, DEDUCED, log entry 45). -/
def execTtsWindowStart (n i tdcv : Nat) (busy : Bool) (s : State) : Host.Outcome State Fault Refusal :=
  onDev (fun s =>
    let st := s.ttsState n
    let dead := st == 1 && !s.canRuns n && s.canState n != 0 && s.canState n != 7
    let w0 := s.tab T.slot i 0
    if 24 ≤ n ∨ (st ≠ 2 ∧ st ≠ 3 ∧ dead = false) ∨ (s.slotsOf n).contains i = false ∨ serves w0 (s.cycleCnt n) = false ∨
        (dead = false ∧ s.ntuCome n (s.slotTimes i).1 s.time.frc = false) then s
    else
      let t := bitsOf w0 30 28
      let s := if busy = true ∧ dead = false then s.inc (C.TTS_WIN_OVERLAP n) else s
      let s := s.setTts n { s.ttsCh n with win := some i, closed := false, resolved := false }
      if t = 1 ∨ t = 2 then
        if s.bufSilent (s.slotBuf n i) then
          (s.setTts n { s.ttsCh n with resolved := true }).inc (C.TTS_SLOT_EMPTY n)
        else if busy = false ∧ s.canSends n = true then s.slotBegin n i tdcv else s
      else s) s

/-- TTS_TXEN_CLOSE (R178, R179): the TXEN span of the open window closes. -/
def execTtsTxenClose (n : Nat) (s : State) : Host.Outcome State Fault Refusal :=
  onDev (fun s =>
    match s.openSlot n with
    | none => s
    | some (i, t) =>
      if s.ttsState n ≠ 1 ∧ s.spanOver n i = false then s
      else
      let s := s.setTts n { s.ttsCh n with closed := true }
      let mine := match (s.canCh n).att with
        | some a => a.src == 1 && a.slot == i
        | none => false
      if (t = 1 ∨ t = 2) ∧ mine = false then s.slotMiss n i else s) s

/-- RX_MISS (R180): an RX_CHECK span closes unmet. -/
def execRxMiss (n : Nat) (s : State) : Host.Outcome State Fault Refusal :=
  onDev (fun s =>
    match s.openSlot n with
    | some (i, 3) =>
      if s.ttsState n ≠ 1 ∧ s.spanOver n i = false then s
      else
      let s := s.setTts n { s.ttsCh n with resolved := true, closed := true }
      ((s.inc (C.TTS_RX_MISS n)).ttsRaise n 1).msc n i true
    | _ => s) s

/-- The staged BASE and COUNT of channel n. -/
def Dev.stagedRange (s : Dev) (n : Nat) : Nat × Nat := (s.fld (R.TTS_CH_MATRIX n) 28 16, s.fld (R.TTS_CH_MATRIX n) 12 0)

/-- R189: a staged entry is not in order by itself. -/
def Dev.slotBad (s : Dev) (n i : Nat) : Bool :=
  let w0 := s.tab T.slotStaged i 0
  let w1 := s.tab T.slotStaged i 1
  let t := bitsOf w0 30 28
  let rep := bitsOf w0 10 8
  let j := 64 * n + w0 % 64
  w0.testBit 31 && (decide (t = 0 ∨ 4 < t) || decide (2 ^ rep ≤ bitsOf w0 21 16) || decide (s.fld (R.TTS_CH_CFG n) 10 8 < rep) ||
    decide (w1 % 65536 < s.tab T.slotStaged i 2 % 65536) || decide (s.basicNtu n < w1 / 65536 + w1 % 65536) ||
    (decide (t ≤ 3) && (s.tfld T.hbufStaged j 0 31 31 == 0 || s.tfld T.hbufStaged j 0 27 26 == 3)))

/-- R189: two staged entries serve a common basic cycle and overlap. -/
def Dev.slotClash (s : Dev) (n i k : Nat) : Bool :=
  let a := s.tab T.slotStaged i 0
  let b := s.tab T.slotStaged k 0
  let p := s.tab T.slotStaged i 1
  let q := s.tab T.slotStaged k 1
  (List.range (s.matrixCycles n)).any (fun c => serves a c && serves b c) &&
    decide (p / 65536 < q / 65536 + q % 65536 ∧ q / 65536 < p / 65536 + p % 65536)

/-- R189: the staged schedule of channel n fails its check. -/
def Dev.swapBad (s : Dev) (n : Nat) : Bool :=
  let r := s.stagedRange n
  let all := ((List.range r.2).map fun k => r.1 + k).filter fun i => decide (i < 8192)
  all.any (s.slotBad n) ||
    all.any (fun i => all.any fun k => decide (i < k) && s.slotClash n i k) ||
    (List.range 64).any fun j => s.tfld T.hbufStaged (64 * n + j) 0 31 31 == 1 && s.tfld T.hbufStaged (64 * n + j) 0 27 26 == 3

/-- R189: a write of TTS_CH_CTRL of channel n. -/
def Dev.ttsSwap (n v : Nat) (s : Dev) : Dev :=
  if v.testBit 0 = false ∨ s.bit (R.TTS_CH_STAT n) 1 = true then s
  else if s.swapBad n then s.ttsRaise n 5
  else (s.setBit (R.TTS_CH_STAT n) 1 true).setTts n { s.ttsCh n with skip := true }

/-- TTS_SWAP (R189). -/
def execTtsSwap (r : Req) (n v : Nat) (s : State) : Host.Outcome State Fault Refusal :=
  onDev (fun s => if n < 24 then Dev.guarded r (R.TTS_CH_CTRL n) (Dev.ttsSwap n v) s else s) s

/-- R189: the staged schedule becomes active; MSC starts at 0 (DEDUCED, log entry 46); payloads survive where the identifier does. -/
def Dev.swapNow (n : Nat) (s : Dev) : Dev :=
  let r := s.stagedRange n
  let s := forN r.2 (fun k s =>
    let i := r.1 + k
    if 8192 ≤ i then s else s.setEntry T.slot i [s.tab T.slotStaged i 0, s.tab T.slotStaged i 1, s.tab T.slotStaged i 2 % 65536]) s
  let s := forN 64 (fun k s =>
    let j := 64 * n + k
    let same := s.tab T.hbuf j 1 == s.tab T.hbufStaged j 1
    let s := s.setEntry T.hbuf j [s.tab T.hbufStaged j 0, s.tab T.hbufStaged j 1]
    if same then s else s.setHold j {}) s
  let s := s.setTts n { s.ttsCh n with base := r.1, count := r.2, win := none }
  (((s.setBit (R.TTS_CH_STAT n) 1 false).ttsRaise n 4).ttsLevel n).jrnCommit 0x33 n 0

/-- SWAP_DONE (R189): the next basic cycle with count 0 starts, or no schedule runs. -/
def execSwapDone (n : Nat) (s : State) : Host.Outcome State Fault Refusal :=
  onDev (fun s =>
    let st := s.ttsState n
    if 24 ≤ n ∨ s.bit (R.TTS_CH_STAT n) 1 = false ∨ ((st = 2 ∨ st = 3) ∧ s.cycleCnt n ≠ 0) then s else s.swapNow n) s

/-- R177: a write of TTS_CH_HBCLR of channel n. An attempt in progress goes on; a retry finds the buffer empty. -/
def Dev.hbClear (n v : Nat) (s : Dev) : Dev :=
  let s := s.setFld (R.TTS_CH_HBCLR n) 5 0 (v % 64)
  if v.testBit 31 = false then s else s.bufEmpty (64 * n + v % 64)

/-- TTS_HBCLR (R177). (DEDUCED, log entry 53.) -/
def execTtsHbclr (r : Req) (n v : Nat) (s : State) : Host.Outcome State Fault Refusal :=
  onDev (fun s => if n < 24 then Dev.guarded r (R.TTS_CH_HBCLR n) (Dev.hbClear n v) s else s) s

/-- R170, R188: a turn edge in a channel that is MASTER with ALIGN TURN; `moved` that the period changed or the edge was placed after a
step. The CYC_TURNS-th edge begins the next cycle of an aligned channel, and of any whose cycle had a moved edge. -/
def Dev.turnCycle (n : Nat) (moved : Bool) (s : Dev) : Dev :=
  if s.ttsState n ≠ 3 ∨ s.ttsAlign n ≠ 1 then s
  else
    let v := s.ttsCh n
    let m := v.moved || moved
    let k := v.edges + 1
    if (m || s.ttsAligned n) = true ∧ s.fld (R.TTS_CH_CYCLE n) 19 16 + 1 ≤ k then
      let s := s.setTts n { v with edges := 0, begun := true, cycEdge := s.time.frc, moved := m }
      if m then s.cycleCut n else s
    else s.setTts n { v with edges := k, moved := m }

/-- R170, R176, R188, R190: a turn edge on the schedules. -/
def Dev.ttsEdge (moved : Bool) (s : Dev) : Dev :=
  forN 24 (fun n s =>
    let v := s.ttsCh n
    (if v.skip = true ∧ s.bit (R.TTS_CH_STAT n) 1 = false then s.setTts n { v with skip := false } else s).turnCycle n moved) s.staleEdge

/-- R185, R188: domain k was stepped. -/
def Dev.ttsStep (k : Nat) (s : Dev) : Dev :=
  forN 24 (fun n s =>
    if s.ttsState n = 0 then s
    else
      let v := s.ttsCh n
      s.setTts n { v with
        disc := v.disc || s.fld (R.TTS_CH_CFG n) 18 16 == k
        moved := v.moved || (k == 0 && s.ttsState n == 3 && s.ttsAlign n == 2) }) s

/-- SOFT_RST of the TTS pages: every schedule to TT_OFF, every hold buffer empty. -/
def Dev.ttsSoftRst (s : Dev) : Dev :=
  let s := forN 24 (fun n s =>
    (s.ttsGoto n 0).setBit (R.TTS_CH_CFG n) 31 false) s
  { s with hbuf := [] }

end Sys2Proof.Machine
end

