-- ==== Sys2Proof/Machine/Bus.lean ====
section
/-! DEFINITION. LIN and RS-485 channels (R192 to R203). -/

namespace Sys2Proof.Machine

/-- A LIN channel's record. -/
def Dev.linCh (s : Dev) (n : Nat) : LinSt := smGet (fun _ => ({} : LinSt)) s.lin n
/-- Store a LIN channel's record. -/
def Dev.setLin (n : Nat) (v : LinSt) (s : Dev) : Dev := { s with lin := smSet (fun _ => ({} : LinSt)) s.lin n v }
/-- An RS-485 channel's record. -/
def Dev.serCh (s : Dev) (n : Nat) : SerSt := smGet (fun _ => ({} : SerSt)) s.ser n
/-- Store an RS-485 channel's record. -/
def Dev.setSer (n : Nat) (v : SerSt) (s : Dev) : Dev := { s with ser := smSet (fun _ => ({} : SerSt)) s.ser n v }
/-- The page of LIN[n]. -/
def linPage (n : Nat) : Nat := 0x68000 + 0x1000 * n
/-- The page of SER[n]. -/
def serPage (n : Nat) : Nat := 0x70000 + 0x1000 * n
/-- LIN_STAT.STATE: 0 CONFIG, 1 RUN, 2 SLEEP, 3 WAKING. -/
def Dev.linState (s : Dev) (n : Nat) : Nat := s.fld (R.LIN_STAT n) 31 28
/-- A change of LIN_STAT.STATE. -/
def Dev.linGoto (n st : Nat) (s : Dev) : Dev := s.setFld (R.LIN_STAT n) 31 28 st
/-- LIN_CTRL.ROLE: the channel is commander. -/
def Dev.linCmd (s : Dev) (n : Nat) : Bool := s.bit (R.LIN_CTRL n) 1
/-- CFG_ERR and its event (R193, R196). -/
def Dev.linErr (n : Nat) (s : Dev) : Dev := (s.setBit (R.LIN_STAT n) 9 true).raise (linPage n) 0
/-- CFG_ERR and its event (R193). -/
def Dev.serErr (n : Nat) (s : Dev) : Dev := (s.setBit (R.SER_STAT n) 9 true).raise (serPage n) 0

/-- R524: heads are not taken, so a frame received on a LIN or RS-485 channel is dropped. -/
def Dev.headsStopped (s : Dev) : Bool :=
  s.pwr.phase == .restEntry || s.pwr.phase == .rest || s.pwr.phase == .restExit || s.pwr.phase == .sleepEntry

/-- R198: the channel wakes: a commander waits in WAKING, a responder runs (DEDUCED, log entry 47). -/
def Dev.linWake (n : Nat) (s : Dev) : Dev :=
  if s.linState n = 2 then s.linGoto n (if s.linCmd n then 3 else 1) else s

/-- R192, R198: the wake pulse of channel n, where it may drive its bus. -/
def Dev.linPulse (n : Nat) (s : Dev) : Dev :=
  if s.legDrives (24 + n) then s.emit (.leg (24 + n) 0x20000000 []) else s

/-- R194: the checksum of a response, classic over its data, enhanced over the protected identifier too; 0x3C and 0x3D are classic
(PRESUMED of ISO 17987-3, log entry 118). -/
def linSum (classic : Bool) (id : Nat) (data : List Byte) : Byte :=
  let b (k : Nat) : Nat := id / 2 ^ k % 2
  let pid := id % 64 + (b 0 + b 1 + b 2 + b 4) % 2 * 64 + (1 + b 1 + b 3 + b 4 + b 5) % 2 * 128
  let add (a x : Nat) : Nat := if 255 < a + x then a + x - 255 else a + x
  BitVec.ofNat 8 (255 - data.foldl (fun a x => add a x.toNat) (if classic = true ∨ id = 0x3C ∨ id = 0x3D then 0 else pid))

/-- R194: data and checksum of a response of channel n to identifier `id`. -/
def Dev.linResponse (s : Dev) (n id : Nat) (data : List Byte) : List Byte :=
  data ++ [linSum (s.bit (R.LIN_ID n id) 28) id data]

/-- The go-to-sleep command's data (R198). -/
def sleepData : List Byte := 0x00 :: List.replicate 7 0xFF

/-- The FRC units of `k` bit times of LIN channel n (R193). -/
def Dev.linBits (s : Dev) (n k : Nat) : Nat := k * s.fld (R.LIN_RATE n) 23 0 * 25600

/-- R198: a commander begins the go-to-sleep command: a header of 34 bits and nine bytes of ten (PRESUMED of ISO 17987-3, log entry 118),
after whose last bit the channel enters SLEEP. -/
def Dev.linBye (n : Nat) (s : Dev) : Dev :=
  let s := if s.legDrives (24 + n) then s.emit (.leg (24 + n) 0x3C (s.linResponse n 0x3C sleepData)) else s
  s.setLin n { s.linCh n with bye := some (s.time.frc + s.linBits n 124, false), held := [] }

/-- R198: the go-to-sleep command of channel n has completed: SLEEP, or where a wake cancelled it, a wake pulse and WAKING. -/
def Dev.linByeEnd (n : Nat) (s : Dev) : Dev :=
  match (s.linCh n).bye with
  | none => s
  | some (_, cancelled) =>
    let s := s.setLin n { s.linCh n with bye := none }
    if cancelled then (s.linPulse n).linGoto n 3 else s.linGoto n 2

/-- R198: the go-to-sleep commands whose last bit has passed. -/
def Dev.linTick (s : Dev) : Dev :=
  forN 8 (fun n s =>
    match (s.linCh n).bye with
    | some (t, _) => if t ≤ s.time.frc then s.linByeEnd n else s
    | none => s) s

/-- R198: a wake request or wake pulse before the last bit of the go-to-sleep command cancels the sleep. -/
def Dev.linCancel (n : Nat) (s : Dev) : Dev :=
  let v := s.linCh n
  s.setLin n { v with bye := v.bye.map fun b => (b.1, true), diag := v.diag.map fun _ => true }

/-- R524, R529: each channel in SLEEP enters WAKING, a commander sending a pulse unless the wake was its own; a go-to-sleep command in
progress is cancelled. -/
def Dev.linResume (own : Option Nat) (s : Dev) : Dev :=
  forN 8 (fun n s =>
    if s.linState n ≠ 2 then s.linCancel n
    else (if s.linCmd n = true ∧ own ≠ some n then s.linPulse n else s).linGoto n 3) s

/-- R193, R198: a write of LIN_CTRL of channel n. (DEDUCED, log entry 50.) -/
def Dev.linCtrl (n v : Nat) (s : Dev) : Dev :=
  let o := R.LIN_CTRL n
  let old := s.rd o
  let en := old.testBit 0
  let div := s.fld (R.LIN_RATE n) 23 0
  let role := if en then bitsOf old 1 1 else bitsOf v 1 1
  let fields := bitsOf v 4 4 * 16 + role * 2
  let s := if en = true ∧ bitsOf v 1 1 ≠ bitsOf old 1 1 then s.linErr n else s
  if v.testBit 0 = false then ((s.wr o fields).linGoto n 0).setLin n { s.linCh n with wait := none, held := [], bye := none, diag := none }
  else if en = false then
    if div < 128000 ∨ 2560000 < div then (s.wr o fields).linErr n
    else ((s.wr o (fields + 1)).linGoto n 1).setLin n { s.linCh n with pos := 0, wait := none, tbl := v.testBit 4 }
  else
    let s := s.wr o (fields + 1)
    if v.testBit 8 = false then s
    else if s.linState n = 2 then (s.linPulse n).linWake n else s.linCancel n

/-- LIN_EN_WRITE (R193): a write of LIN_CTRL. -/
def execLinEnWrite (r : Req) (n v : Nat) (s : State) : Host.Outcome State Fault Refusal :=
  onDev (fun s => if n < 8 then Dev.guarded r (R.LIN_CTRL n) (Dev.linCtrl n v) s else s) s

/-- LIN_WAKE_REQ (R198): a write of LIN_CTRL with WAKE_REQ set, its other fields as they stand. -/
def execLinWakeReq (r : Req) (n : Nat) (s : State) : Host.Outcome State Fault Refusal :=
  onDev (fun s =>
    if n < 8 then Dev.guarded r (R.LIN_CTRL n) (fun s => s.linCtrl n (s.rd (R.LIN_CTRL n) ||| 0x100)) s else s) s

/-- R193, R196: a write of a configuration register of channel n: identifiers and the rate while EN is 0; entries of the table
that is not in force at any time. -/
def Dev.linCfgWrite (n off v : Nat) (s : Dev) : Dev :=
  let o := off % 0x1000
  let en := s.bit (R.LIN_CTRL n) 0
  if 0x300 ≤ o ∧ o < 0x400 then
    (if en = true ∧ (s.linCh n).tbl = decide (0x380 ≤ o) then s.linErr n else s.plainWrite off v)
  else if en then s.linErr n else s.plainWrite off v

/-- LEN of an identifier's entry. -/
def Dev.linLen (s : Dev) (n id : Nat) : Nat :=
  let l := s.fld (R.LIN_ID n id) 3 0
  if l = 0 ∨ 8 < l then 8 else l

/-- R195: the response buffer of identifier `id`: what it has held, newest first, from which FRC instant on. -/
def LinSt.buf (v : LinSt) (id : Nat) : List (Nat × Option (List Byte)) := smGet (fun _ => []) v.bufs id

/-- R195: its content at FRC instant `t`. -/
def LinSt.at (v : LinSt) (id t : Nat) : Option (List Byte) :=
  match (v.buf id).find? fun e => decide (e.1 ≤ t) with
  | some e => e.2
  | none => none

/-- R195: the content from instant `t` on, until the next copy; what lay before `t` is forgotten. -/
def LinSt.put (v : LinSt) (id t : Nat) (d : Option (List Byte)) : LinSt :=
  { v with bufs := smSet (fun _ => []) v.bufs id ((v.buf id).filter (fun e => decide (t < e.1)) ++ [(t, d)]) }

/-- R197: a header of identifier `id` is resolved, its break `ago` FRC units before: the response is what the buffer held then. -/
def Dev.linHeader (n id ago : Nat) (s : Dev) : Dev :=
  let w := s.rd (R.LIN_ID n id)
  let v := { s.linCh n with wait := none }
  let t := s.time.frc - ago
  if w.testBit 31 = false ∨ (bitsOf w 30 29 ≠ 1 ∧ bitsOf w 30 29 ≠ 2) then s.setLin n v
  else if bitsOf w 30 29 = 2 then s.setLin n { v with wait := some (id, t) }
  else
    match v.at id t with
    | some d =>
      ((s.setLin n (v.put id t (if w.testBit 27 then some d else none))).emit (.leg (24 + n) id (s.linResponse n id d))).add64
        (C.LIN_TX_FRAMES n) 1
    | none => (s.setLin n v).inc (C.LIN_EMPTY n)

/-- A schedule entry of the table in force. -/
def Dev.linEntry (s : Dev) (n k : Nat) : Nat :=
  s.rd (if (s.linCh n).tbl then R.LIN_SCHED_B n k else R.LIN_SCHED_A n k)

/-- R196: the next valid entry from a position on, wrapping. -/
def Dev.linNext (s : Dev) (n from_ : Nat) : Option Nat :=
  ((List.range 32).map fun k => (from_ + k) % 32).find? fun k => (s.linEntry n k).testBit 31

/-- R196, R198: the header of schedule entry word `w` is sent. -/
def Dev.linSend (n w : Nat) (s : Dev) : Dev :=
  if w.testBit 29 then s.linBye n
  else (s.emit (.leg (24 + n) (bitsOf w 21 16) [])).linHeader n (bitsOf w 21 16) 0

/-- LIN_SLOT_START (R196, R198): a slot of the commander's table starts; `busy` that a frame is still on the bus, which delays the
slot's header. With a delayed header waiting and the bus idle, that header is sent and no slot starts (DESIGN CHOICE, log entry 127). -/
def execLinSlotStart (n : Nat) (busy : Bool) (s : State) : Host.Outcome State Fault Refusal :=
  onDev (fun s =>
    if 8 ≤ n ∨ s.linState n ≠ 1 ∨ s.linCmd n = false ∨ (s.linCh n).bye.isSome ∨ s.legDrives (24 + n) = false then s
    else
    match (if busy then [] else (s.linCh n).held) with
    | w :: rest => (s.setLin n { s.linCh n with held := rest }).linSend n w
    | [] =>
      let sw := s.bit (R.LIN_CTRL n) 4 != (s.linCh n).tbl
      let s := if sw then s.setLin n { s.linCh n with tbl := s.bit (R.LIN_CTRL n) 4, pos := 0 } else s
      match s.linNext n (s.linCh n).pos with
      | none => s
      | some k =>
        let w := s.linEntry n k
        let s := s.setLin n { s.linCh n with pos := (k + 1) % 32 }
        if busy then (s.setLin n { s.linCh n with held := (s.linCh n).held ++ [w] }).inc (C.LIN_OVERRUN n)
        else s.linSend n w) s

/-- LIN_HEADER_RX (R197): a responder receives a header. -/
def execLinHeaderRx (n id ago : Nat) (s : State) : Host.Outcome State Fault Refusal :=
  onDev (fun s =>
    if 8 ≤ n ∨ s.linState n ≠ 1 ∨ s.linCmd n = true ∨ s.legDrives (24 + n) = false then s
    else
      (s.setLin n { s.linCh n with diag := if id % 64 = 0x3C then some false else none }).linHeader n (id % 64) ago) s

/-- LIN_RESPONSE_RX (R194, R197, R524): LEN bytes and the checksum byte after them; fewer are no response yet. -/
def execLinResponseRx (n : Nat) (data : List Byte) (sum : Byte) (s : State) : Host.Outcome State Fault Refusal :=
  onDev (fun s =>
    let v := s.linCh n
    match v.wait with
    | none => s
    | some (id, t) =>
      let d := data.take (s.linLen n id)
      if s.legRuns = false ∨ data.length < s.linLen n id then s
      else
      let s := s.setLin n { v with wait := none }
      if (data ++ [sum]).take (d.length + 1) ≠ s.linResponse n id d then s.inc (C.LIN_CSUM_ERR n)
      else if s.headsStopped then s.inc C.PWR_REST_IN_DROP
      else
        (s.setLin n { s.linCh n with rx := v.rx ++ [({ kind := 4, id := id, data := d }, t - t % 4096)] }).add64 (C.LIN_RX_FRAMES n) 1) s

/-- LIN_NO_RESP (R197). -/
def execLinNoResp (n : Nat) (s : State) : Host.Outcome State Fault Refusal :=
  onDev (fun s =>
    if (s.linCh n).wait.isSome then (s.setLin n { s.linCh n with wait := none }).inc (C.LIN_NO_RESP n) else s) s

/-- LIN_SLEEP_CMD_RX (R198): a responder receives the go-to-sleep command, whole. -/
def execLinSleepCmdRx (n : Nat) (s : State) : Host.Outcome State Fault Refusal :=
  onDev (fun s =>
    if 8 ≤ n ∨ s.linState n ≠ 1 ∨ s.linCmd n = true ∨ s.legRuns = false then s
    else
      let v := s.linCh n
      let s := s.setLin n { v with diag := none }
      if v.diag = some true then (s.linPulse n).linGoto n 3 else s.linGoto n 2) s

/-- LIN_IDLE_TIMEOUT (R198): 4 s without bus activity. -/
def execLinIdleTimeout (n : Nat) (s : State) : Host.Outcome State Fault Refusal :=
  onDev (fun s => if 8 ≤ n ∨ s.linState n ≠ 1 ∨ s.linCmd n = true then s else s.linGoto n 2) s

/-- LIN_WAKING_DONE (R198): 100 ms in WAKING have passed. -/
def execLinWakingDone (n : Nat) (s : State) : Host.Outcome State Fault Refusal :=
  onDev (fun s =>
    if 8 ≤ n ∨ s.linState n ≠ 3 then s else (s.linGoto n 1).setLin n { s.linCh n with pos := 0 }) s

/-- R524, R528: commanders in RUN send the go-to-sleep command, after which they enter SLEEP. -/
def Dev.linSleep (s : Dev) : Dev :=
  forN 8 (fun n s => if s.linState n = 1 ∧ s.linCmd n = true ∧ (s.linCh n).bye = none then s.linBye n else s) s

/-- SER_STAT.STATE: 0 CONFIG, 1 IDLE, 2 RX, 3 TX. -/
def Dev.serState (s : Dev) (n : Nat) : Nat := s.fld (R.SER_STAT n) 31 28

/-- R193: a write of SER_CTRL of channel n. -/
def Dev.serCtrl (n v : Nat) (s : Dev) : Dev :=
  let o := R.SER_CTRL n
  let old := s.rd o
  let en := old.testBit 0
  let m := 0x03FF0036
  let s := if en = true ∧ v &&& m ≠ old &&& m then s.serErr n else s
  let fields := if en then old &&& m else v &&& m
  let div := s.fld (R.SER_RATE n) 23 0
  if v.testBit 0 = false then (s.wr o fields).setFld (R.SER_STAT n) 31 28 0
  else if en then s.wr o (fields + 1)
  else if div < 256 ∨ 2133333 < div then (s.wr o fields).serErr n
  else (s.wr o (fields + 1)).setFld (R.SER_STAT n) 31 28 1

/-- SER_EN_WRITE (R193): a write of SER_CTRL. -/
def execSerEnWrite (r : Req) (n v : Nat) (s : State) : Host.Outcome State Fault Refusal :=
  onDev (fun s => if n < 4 then Dev.guarded r (R.SER_CTRL n) (Dev.serCtrl n v) s else s) s

/-- R193: a write of SER_RATE or SER_TURN of channel n. -/
def Dev.serCfgWrite (n off v : Nat) (s : Dev) : Dev := if s.bit (R.SER_CTRL n) 0 then s.serErr n else s.plainWrite off v

/-- R199: the data bits of a byte: seven or eight. -/
def Dev.serBits (s : Dev) (n : Nat) (bs : List Byte) : List Byte :=
  if s.bit (R.SER_CTRL n) 1 then bs.map fun b => b &&& 0x7F else bs

/-- R199: the character format in force, BITS7, STOP2 and PARITY as SER_CTRL [5:1] holds them: what the line shows of it is one number. -/
def Dev.serFormat (s : Dev) (n : Nat) : Nat := s.fld (R.SER_CTRL n) 5 1

/-- SER_FRAME_RX (R199, R200, R524): a frame ends at an idle line or at its 1,024th byte, with an error in a byte of it: 1 framing, 2
parity, which a format without a parity bit never meets; the first start bit `ago` FRC units before. -/
def execSerFrameRx (n : Nat) (bytes : List Byte) (err ago : Nat) (s : State) : Host.Outcome State Fault Refusal :=
  onDev (fun s =>
    let par := s.fld (R.SER_CTRL n) 5 4
    if 4 ≤ n ∨ s.serState n = 0 ∨ s.serState n = 3 ∨ s.legRuns = false ∨ bytes = [] then s
    else
      let t := s.time.frc - ago
      let s := s.setFld (R.SER_STAT n) 31 28 1
      let s := if 1024 ≤ bytes.length then s.inc (C.SER_RX_SPLIT n) else s
      if err = 1 then s.inc (C.SER_FRAME_ERR n)
      else if err = 2 ∧ (par = 1 ∨ par = 2) then s.inc (C.SER_PARITY_ERR n)
      else if s.headsStopped then s.inc C.PWR_REST_IN_DROP
      else
        let f : LegFrame := { kind := 5, data := (s.serBits n bytes).take 1024 }
        (s.setSer n { s.serCh n with rx := (s.serCh n).rx ++ [(f, t - t % 4096)] }).add64 (C.SER_RX_FRAMES n) 1) s

/-- SER_TX_START (R201): the line was idle for IDLE bit times; `defer` that a start bit is received during TURN_PRE:
STATE is RX until that frame's end. -/
def execSerTxStart (n : Nat) (defer : Bool) (s : State) : Host.Outcome State Fault Refusal :=
  onDev (fun s =>
    if 4 ≤ n ∨ s.serState n ≠ 1 ∨ (s.serCh n).queue = [] ∨ s.legDrives (32 + n) = false then s
    else if defer then (s.setFld (R.SER_STAT n) 31 28 2).inc (C.SER_DEFER n)
    else s.setFld (R.SER_STAT n) 31 28 3) s

/-- SER_TX_DONE (R201): the frame is sent, or a read-back collision ends it after byte `coll`. -/
def execSerTxDone (n : Nat) (coll : Option Nat) (s : State) : Host.Outcome State Fault Refusal :=
  onDev (fun s =>
    if 4 ≤ n ∨ s.serState n ≠ 3 then s
    else
      match (s.serCh n).queue with
      | [] => s.setFld (R.SER_STAT n) 31 28 1
      | f :: rest =>
        let s := (s.setSer n { s.serCh n with queue := rest }).setFld (R.SER_STAT n) 31 28 1
        match coll with
        | none => (s.emit (.leg (32 + n) (s.serFormat n) (s.serBits n f.data))).add64 (C.SER_TX_FRAMES n) 1
        | some k => (s.emit (.leg (32 + n) (s.serFormat n) (s.serBits n (f.data.take (k + 1))))).inc (C.SER_COLL n)) s

end Sys2Proof.Machine
end

