-- ==== Sys2Proof/Machine/Gateway.lean ====
section
/-! DEFINITION. The gateway at P34 (R34 to R36, R163 to R168, R195, R201, R202): legacy frames in and out, IEEE 1722
encapsulation and decapsulation. The layouts of IEEE 1722 that the spec names without giving are PRESUMED, log entry 48. -/

namespace Sys2Proof.Machine

/-- GWY table 0: encapsulation profiles, six words each (R168). -/
def T.gwyProf : Nat := 0x340

/-- A frame enters at P34 (R34, R163). -/
def Dev.enter34 (eth : Bool) (bytes : List Byte) (stamp : Nat) (s : Dev) : Dev :=
  s.enterFrame { bytes := bytes, eth := eth, inPort := 34, stamp := stamp, tc := if eth then ingressClass bytes else 0 }

/-- The oldest complete frame of legacy channel c with its stamp, taken from its buffer. -/
def Dev.takeLeg (c : Nat) (s : Dev) : Option (LegFrame × Nat) × Dev :=
  if c < 24 then
    match (s.canCh c).rx with
    | [] => (none, s)
    | f :: r => (some f, s.setCan c { s.canCh c with rx := r })
  else if c < 32 then
    match (s.linCh (c - 24)).rx with
    | [] => (none, s)
    | f :: r => (some f, s.setLin (c - 24) { s.linCh (c - 24) with rx := r })
  else
    match (s.serCh (c - 32)).rx with
    | [] => (none, s)
    | f :: r => (some f, s.setSer (c - 32) { s.serCh (c - 32) with rx := r })

/-- R163: the next channel in turn that has a frame. -/
def Dev.nextLeg (s : Dev) : Option Nat :=
  ((List.range 36).map fun k => (s.gwy.last + 1 + k) % 36).find? fun c => (s.takeLeg c).1.isSome

/-- GWY_ENTER_FRAME (R163, R34). -/
def execGwyEnterFrame (s : State) : Host.Outcome State Fault Refusal :=
  onDev (fun s =>
    if s.pwr.phase ≠ .active ∨ s.pwr.xtalOk = false then s
    else
      let s := forN 24 Dev.secRxResume s
      match s.nextLeg with
      | none => s
      | some c =>
        match s.takeLeg c with
        | (none, s) => s
        | (some (f, t), s) =>
          let s := { s with gwy := { s.gwy with last := c } }
          s.enter34 false (legHeader c false f ++ f.data) t) s

/-- Zero bytes up to a whole quadlet, and how many. -/
def quadPad (n : Nat) : Nat := (4 - n % 4) % 4

/-- The first quadlet's high half of an ACF message: type and length in quadlets. -/
def acfHead (type bytes : Nat) : List Byte := beBytes 2 (type * 512 + bytes / 4 % 512)

/-- R164: the message_timestamp of a frame in a profile's domain, zero without TS_EN. -/
def Dev.acfTime (s : Dev) (p stamp : Nat) : Nat :=
  if s.tfld T.gwyProf p 5 3 3 = 1 then domNs (s.domAt (s.tfld T.gwyProf p 5 2 0) stamp) else 0

/-- R166: an ACF message of a part of a CAN XL frame. -/
def acfXl (chan seg time mtv : Nat) (f : LegFrame) (data : List Byte) : List Byte :=
  let pad := quadPad data.length
  let b (x : Bool) (k : Nat) : Nat := if x then 2 ^ k else 0
  acfHead 0x78 (20 + data.length + pad) ++ beBytes 2 (pad * 2 ^ 14 + mtv * 2 ^ 13 + seg * 2 ^ 11 + chan % 32) ++ beBytes 8 time ++
    beBytes 4 (f.id % 2048 * 2 ^ 21 + f.sdt % 256 * 2 ^ 13 + f.vcid % 256 * 2 ^ 5 + b f.sec 4 + b f.rrs 3) ++ beBytes 4 f.af ++
    data ++ List.replicate pad 0

/-- R164, R166, R202: the ACF messages that a legacy frame of a channel becomes: two for an XL payload over 1,024 bytes. -/
def Dev.acfOf (s : Dev) (p chan stamp : Nat) (f : LegFrame) : List (List Byte) :=
  let mtv := s.tfld T.gwyProf p 5 3 3
  let time := s.acfTime p stamp
  let pad := quadPad f.data.length
  let tail := f.data ++ List.replicate pad 0
  let b (x : Bool) (k : Nat) : Nat := if x then 2 ^ k else 0
  if f.kind = 3 then
    if 1024 < f.data.length then [acfXl chan 2 time mtv f (f.data.take 1024), acfXl chan 1 time mtv f (f.data.drop 1024)]
    else [acfXl chan 0 time mtv f f.data]
  else if f.kind = 4 then
    [acfHead 3 (12 + tail.length) ++ beBytes 2 (pad * 2 ^ 14 + mtv * 2 ^ 13 + (chan - 24) % 32 * 256 + f.id % 256) ++
      beBytes 8 time ++ tail]
  else if f.kind = 5 then
    [acfHead 0x79 (12 + tail.length) ++ beBytes 2 (pad * 2 ^ 14 + mtv * 2 ^ 13 + (chan - 32) % 4) ++ beBytes 8 time ++ tail]
  else
    [acfHead 1 (16 + tail.length) ++
      beBytes 2 (pad * 2 ^ 14 + mtv * 2 ^ 13 + b f.rtr 12 + b f.ide 11 + b f.brs 10 + b (f.kind == 2) 9 + b f.esi 8 + chan % 32) ++
      beBytes 8 time ++ beBytes 4 (f.id % 2 ^ 29) ++ tail]

/-- The Ethernet header of a profile's frames (R164, R168). -/
def Dev.profHeader (s : Dev) (p : Nat) : List Byte :=
  let w2 := s.tab T.gwyProf p 2
  beBytes 4 (s.tab T.gwyProf p 1) ++ beBytes 2 (w2 / 65536) ++ beBytes 2 (s.fld R.GWY_SA_HI 15 0) ++ beBytes 4 (s.rd R.GWY_SA_LO) ++
    (if w2.testBit 15 then beBytes 2 0x8100 ++ beBytes 2 (bitsOf w2 14 12 * 8192 + w2 % 4096) else []) ++ beBytes 2 0x22F0

/-- A profile's stream ID. -/
def Dev.profSid (s : Dev) (p : Nat) : List Byte := beBytes 4 (s.tab T.gwyProf p 3) ++ beBytes 4 (s.tab T.gwyProf p 4)

/-- Take a profile's next sequence number. -/
def Dev.acfSeq (p : Nat) (s : Dev) : Nat × Dev :=
  let n := smGet (fun _ => 0) s.gwy.seq p
  (n, { s with gwy := { s.gwy with seq := smSet (fun _ => 0) s.gwy.seq p ((n + 1) % 256) } })

/-- R164: the open NTSCF frame of profile p is closed and entered at P34. -/
def Dev.closeOpen (p : Nat) (s : Dev) : Dev :=
  let msgs := smGet (fun _ => []) s.gwy.open_ p
  if msgs = [] then s
  else
    let s := { s with gwy := { s.gwy with open_ := smSet (fun _ => []) s.gwy.open_ p [] } }
    match s.acfSeq p with
    | (n, s) =>
      let data := msgs.flatten
      let bs := s.profHeader p ++ [0x82] ++ beBytes 2 (2 ^ 15 + data.length % 2048) ++ beBytes 1 n ++ s.profSid p ++ data
      (s.add64 C.GWY_ENC_FRAMES 1).enter34 true bs 0

/-- R164: GWY_ENCAPSULATE, a message joins profile p's open frame. -/
def Dev.addMsg (p : Nat) (m : List Byte) (s : Dev) : Dev :=
  let cur := smGet (fun _ => []) s.gwy.open_ p
  let s := if 1500 < cur.flatten.length + m.length then s.closeOpen p else s
  let now := smGet (fun _ => []) s.gwy.open_ p ++ [m]
  let at_ := if now = [m] then s.time.frc else smGet (fun _ => 0) s.gwy.openAt p
  let s := { s with gwy := { s.gwy with open_ := smSet (fun _ => []) s.gwy.open_ p now,
                                        openAt := smSet (fun _ => 0) s.gwy.openAt p at_ } }
  if max 1 (s.tfld T.gwyProf p 0 23 16) ≤ now.length ∨ s.tfld T.gwyProf p 0 15 0 = 0 then s.closeOpen p else s

/-- R164, R167: a legacy frame is encapsulated under profile p. -/
def Dev.encapsulate (p : Nat) (bs : List Byte) (stamp : Nat) (s : Dev) : Dev :=
  match s.acfOf p (beAt bs 1 1 % 64) stamp (legFrame bs) with
  | [m] => s.addMsg p m
  | ms =>
    let s := s.closeOpen p
    match s.acfSeq p with
    | (n, s) =>
      let data := ms.flatten
      let h := [0x05, 0x80] ++ beBytes 1 n ++ [0x00] ++ s.profSid p ++ List.replicate 8 0 ++ beBytes 2 data.length ++ [0, 0]
      (s.add64 C.GWY_ENC_FRAMES 1).enter34 true (s.profHeader p ++ h ++ data) 0

/-- The DLC of a CC or FD payload length. -/
def dlcOf (n : Nat) : Nat :=
  if n ≤ 8 then n else 9 + ((([12, 16, 20, 24, 32, 48, 64] : List Nat).findIdx? fun k => decide (n ≤ k)).getD 6)

/-- A frame extracted from an ACF message enters at P34 (R36, R165). -/
def Dev.acfEnter (chan : Nat) (f : LegFrame) (s : Dev) : Dev :=
  (s.add64 C.GWY_DEC_MSGS 1).enter34 false (legHeader chan true f ++ f.data) (s.frcNow * 2 ^ 16)

/-- R165: a message of CAN, CAN_BRIEF, LIN or RS-485 type, its bytes whole. -/
def Dev.acfPlain (type : Nat) (m : List Byte) (s : Dev) : Dev :=
  let h := beAt m 2 2
  let pad := h / 2 ^ 14
  let off := if type = 1 then 16 else if type = 2 then 8 else 12
  let data := (m.drop off).take (m.length - off - pad)
  if m.length < off + pad then s.inc C.GWY_ACF_BAD
  else if type = 3 then
    if 8 ≤ bitsOf h 12 8 then s.inc C.GWY_BAD_CHANNEL
    else if data.length = 0 ∨ 8 < data.length then s.inc C.GWY_ACF_BAD
    else s.acfEnter (24 + bitsOf h 12 8) { kind := 4, id := h % 64, data := data }
  else if type = 0x79 then
    if data.length = 0 ∨ 1024 < data.length then s.inc C.GWY_ACF_BAD
    else s.acfEnter (32 + h % 4) { kind := 5, data := data }
  else
    let fd := h.testBit 9
    if 24 ≤ h % 32 then s.inc C.GWY_BAD_CHANNEL
    else if (if fd then 64 else 8) < data.length then s.inc C.GWY_ACF_BAD
    else
      s.acfEnter (h % 32) { kind := if fd then 2 else 1, ide := h.testBit 11, rtr := h.testBit 12, brs := h.testBit 10,
                            esi := h.testBit 8, id := beAt m (off - 4) 4 % 2 ^ 29, dlc := dlcOf data.length, data := data }

/-- R166: the frame of a CAN XL message. -/
def xlOf (m : List Byte) : LegFrame :=
  let w := beAt m 12 4
  { kind := 3, id := w / 2 ^ 21, sdt := bitsOf w 20 13, vcid := bitsOf w 12 5, sec := w.testBit 4, rrs := w.testBit 3,
    af := beAt m 16 4, data := (m.drop 20).take (m.length - 20 - beAt m 2 2 / 2 ^ 14) }

/-- R166: a message's payload length is in order. -/
def xlOk (m : List Byte) : Bool :=
  let n := m.length - beAt m 2 2 / 2 ^ 14
  decide (21 ≤ n ∧ n ≤ 1044)

/-- R165, R166: the messages of a 1722 frame in order, with a first part that waits for its partner. -/
def Dev.acfWalk : Nat → List Byte → Option (List Byte) → Dev → Dev
  | 0, _, part, s => if part.isSome then s.inc C.GWY_ACF_BAD else s
  | k + 1, bs, part, s =>
    let len := beAt bs 0 2 % 512 * 4
    let m := bs.take len
    let type := beAt bs 0 2 / 512
    let seg := bitsOf (beAt bs 2 2) 12 11
    let last := match part with
      | some p => type == 0x78 && seg == 1 && xlOk m && beAt p 2 2 % 32 == beAt m 2 2 % 32
      | none => false
    if bs = [] then (if part.isSome then s.inc C.GWY_ACF_BAD else s)
    else if len = 0 ∨ bs.length < len then s.inc C.GWY_ACF_BAD
    else
      let rest := bs.drop len
      match part, last with
      | some p, true =>
        let f := xlOf p
        let s := if 24 ≤ beAt m 2 2 % 32 then s.inc C.GWY_BAD_CHANNEL
          else s.acfEnter (beAt m 2 2 % 32) { f with data := f.data ++ (xlOf m).data }
        Dev.acfWalk k rest none s
      | _, _ =>
        let s := if part.isSome then s.inc C.GWY_ACF_BAD else s
        if type = 0x78 then
          if seg = 2 ∧ xlOk m = true ∧ (xlOf m).data.length = 1024 then Dev.acfWalk k rest (some m) s
          else if seg ≠ 0 ∨ xlOk m = false then Dev.acfWalk k rest none (s.inc C.GWY_ACF_BAD)
          else if 24 ≤ beAt m 2 2 % 32 then Dev.acfWalk k rest none (s.inc C.GWY_BAD_CHANNEL)
          else Dev.acfWalk k rest none (s.acfEnter (beAt m 2 2 % 32) (xlOf m))
        else if type = 1 ∨ type = 2 ∨ type = 3 ∨ type = 0x79 then Dev.acfWalk k rest none (s.acfPlain type m)
        else Dev.acfWalk k rest none (s.inc C.GWY_ACF_SKIP)

/-- R165: GWY_DECAPSULATE, a 1722 frame sent to P34; its messages start at the first ACF header that the parser recorded (R212), or, where it
recorded none, after the 1722 header (DESIGN CHOICE, log entry 119). -/
def Dev.decapsulate (bs : List Byte) (acf : Option Nat) (s : Dev) : Dev :=
  let e := etherOff bs
  let sub := beAt bs (e + 2) 1
  if beAt bs e 2 ≠ 0x22F0 ∨ (sub ≠ 0x82 ∧ sub ≠ 0x05) then s.inc C.GWY_ACF_BAD
  else
    let head := e + 2 + if sub = 0x82 then 12 else 24
    let last := head + if sub = 0x82 then beAt bs (e + 3) 2 % 2048 else beAt bs (e + 22) 2
    let off := acf.getD head
    if bs.length < last then s.inc C.GWY_ACF_BAD else s.acfWalk ((last - off) / 4 + 1) ((bs.take last).drop off) none

/-- R153, R162, R174, R470, R473, R487: a frame for CAN channel n. One of a wrong format counts TX_FMT_DROP alone, whether the pool is full
or not (DESIGN CHOICE, log entry 115). -/
def Dev.toCan (n : Nat) (f : LegFrame) (s : Dev) : Dev :=
  let buf := s.bufFor n f
  let wrong := match buf with
    | some k => s.tfld T.hbuf (64 * n + k) 0 27 26 + 1 != f.kind || decide (64 < f.data.length)
    | none => !s.canFormat n f.kind
  if wrong then s.inc (C.CAN_TX_FMT_DROP n)
  else if buf = none ∧ 32 ≤ s.poolUsedCan n then s.inc (C.CAN_TX_POOL_FULL n)
  else if s.canWaits n f then s.setCan n { s.canCh n with secTx := (s.canCh n).secTx ++ [f] }
  else
    let xl := f.kind == 3
    let sec := s.canSecures n f
    match (if sec then s.canProtect n (f.kind == 2) xl (if f.ide then 1 else 0) f.id f.vcid f.data else (some f.data, s)) with
    | (none, s) => s.inc (C.CAN_TX_SEC_DROP n)
    | (some d, s) =>
      let f := { f with data := d, dlc := if sec = true ∧ xl = false then dlcOf d.length else f.dlc }
      match buf with
      | some k => s.bufWrite (64 * n + k) f
      | none => s.poolAdd n f

/-- R487: the copies for channel n that waited for a key start their use where no change is held. (DESIGN CHOICE, log entry 126.) -/
def Dev.secTxResume (n : Nat) (s : Dev) : Dev :=
  let v := s.canCh n
  if v.secTx = [] then s else forL v.secTx (fun f s => s.toCan n f) (s.setCan n { v with secTx := [] })

/-- R195: a frame for LIN channel n. -/
def Dev.toLin (n : Nat) (f : LegFrame) (s : Dev) : Dev :=
  let w := s.rd (R.LIN_ID n (f.id % 64))
  if 64 ≤ f.id ∨ w.testBit 31 = false ∨ bitsOf w 30 29 ≠ 1 ∨ s.linLen n f.id < f.data.length then s.inc (C.LIN_TX_DROP n)
  else
    let v := s.linCh n
    s.setLin n { v with bufs := smSet (fun _ => []) v.bufs f.id ((s.time.frc, some f.data) :: v.buf f.id) }

/-- R201: a frame for RS-485 channel n. -/
def Dev.toSer (n : Nat) (f : LegFrame) (s : Dev) : Dev :=
  let v := s.serCh n
  if 16 ≤ v.queue.length then s.inc (C.SER_TX_DROP n) else s.setSer n { v with queue := v.queue ++ [f] }

/-- GWY_COPY_IN (R35): P34 releases its next copy to the gateway. -/
def execGwyCopyIn (ecc info : Nat) (s : State) : Host.Outcome State Fault Refusal :=
  onDev (fun s =>
    let s := forN 24 Dev.secTxResume s
    match s.takeCopy 34 with
    | (none, s) => s
    | (some c, s) =>
      match s.readCopy c ecc info with
      | (false, s) => s
      | (true, s) =>
        let v := s.frame c.frame
        let tunnel := decide (64 ≤ c.dest)
        if (tunnel = true ∧ s.bit R.GWY_CTRL 0 = false) ∨ (64 ≤ c.dest ∧ c.dest < 128 ∧ s.tfld T.gwyProf (c.dest - 64) 0 31 31 = 0) then
          s.dropCopy c
        else
          let s := s.handedOver c
          let f := legFrame v.bytes
          if c.dest = 128 then s.decapsulate v.bytes c.acf
          else if tunnel then s.encapsulate (c.dest - 64) v.bytes v.stamp
          else if c.dest < 24 then s.toCan c.dest f
          else if c.dest < 32 then s.toLin (c.dest - 24) f
          else if c.dest < 36 then s.toSer (c.dest - 32) f
          else s.inc C.GWY_BAD_CHANNEL) s

/-- GWY_BATCH_TIMEOUT (R164): BATCH_US have passed since the first message of profile p's open frame. -/
def execGwyBatchTimeout (p : Nat) (s : State) : Host.Outcome State Fault Refusal :=
  onDev (fun s =>
    if s.passed (smGet (fun _ => 0) s.gwy.openAt p) (s.tfld T.gwyProf p 0 15 0 * 1000) then s.closeOpen p else s) s

end Sys2Proof.Machine
end

