-- ==== Sys2Proof/Machine/Wake.lean ====
section
/-! DEFINITION. Wake events (R522, R527, R529 to R531, R539 to R544) and what a cancelled entry restores. -/

namespace Sys2Proof.Machine

/-- The Tailstock's power record replaced. -/
def Dev.setPwr (p : PwrSt) (s : Dev) : Dev := { s with pwr := p }

/-- 32.768 kHz ticks that the FRC spans. -/
def frcTicks (f : Nat) : Nat := f * 32768 / (10 ^ 9 * 2 ^ 16)

/-- The Tailstock's tick count: kept by the FRC while the time clock runs. -/
def Dev.tailTick (s : Dev) : Nat := (s.pwr.ticks + if s.time.run then frcTicks s.time.frc else 0) % 2 ^ 32

/-- ETH_STAT of a port in a state at a rate code; the W1C bits and PHY_LINK of a polled port stay (R124, R130). -/
def Dev.portShow (n st rate : Nat) (s : Dev) : Dev :=
  let o := R.ETH_STAT n
  let poll := decide (n < 4) && s.bit (R.ETH_MDIO_CFG n) 0
  let phy := if st = 0 then 0 else if poll then s.fld o 4 4 else 1
  let lf := if st = 1 ∨ st = 4 ∨ st = 5 then 4 else 0
  let up := if st = 2 ∨ st = 3 then 1 else 0
  let s := s.wr o ((s.rd o &&& 0x300) + st * 2 ^ 20 + rate * 2 ^ 16 + phy * 16 + lf + up)
  if up = 1 then s else s.wr (R.ETH_SQI n) 0

/-- R131, R409: a port enters TRAINING. -/
def Dev.portTrain (n : Nat) (s : Dev) : Dev := (s.portShow n 1 0).truTraining n

/-- R539, R544: a source is enabled and not blocked. -/
def Dev.wakeOn (s : Dev) (cls idx : Nat) : Bool :=
  if cls = 1 then s.bit R.PWR_WAKE_CAN idx && !s.bit R.PWR_FW_BLOCK0 idx
  else if cls = 2 then s.bit R.PWR_WAKE_LEG idx && !s.bit R.PWR_FW_BLOCK1 idx
  else if cls = 3 then s.bit R.PWR_WAKE_LEG (8 + idx) && !s.bit R.PWR_FW_BLOCK1 (8 + idx)
  else if cls = 4 then
    s.bit R.PWR_WAKE_TC10 idx && (if s.pwr.phase = .active then s.bit (R.ETH_TC10 (12 + idx)) 3 else s.pwr.tc10.testBit idx)
  else if cls = 5 then s.bit R.PWR_WAKE_EN idx && !s.bit R.PWR_FW_BLOCK1 (16 + idx)
  else if cls = 6 then s.bit R.PWR_WAKE_EN 4
  else if cls = 7 then s.bit R.PWR_WAKE_EN 5 && s.rd R.PWR_TIMER != 0
  else if cls = 8 then s.bit R.PWR_WAKE_EN (6 + idx)
  else if cls = 9 then s.bit R.PWR_WAKE_EN 8
  else if cls = 0xC then s.bit R.PWR_TAMPER_WAKE 0
  else true

/-- R540: the first wake event of a transition is recorded. -/
def Dev.wakeRecord (cls idx swk : Nat) (ponr : Bool) (s : Dev) : Dev :=
  if s.pwr.recorded then s
  else
    let w := 2 ^ 31 + (if ponr then 2 ^ 30 else 0) + cls % 32 * 2 ^ 24 + idx % 64 * 2 ^ 16 + swk % 16
    ((s.wr R.PWR_WAKE_REASON w).wr R.PWR_WAKE_TICK s.tailTick).setPwr { s.pwr with recorded := true }

/-- R548: a wake event sets REQ on every channel whose WAKE_REQ is set. -/
def Dev.nmWake (s : Dev) : Dev :=
  forN 24 (fun n s => if s.bit (R.NM_CFG n) 30 then (s.setBit (R.NM_CTRL n) 0 true).nmSync n else s) s

/-- ENTRY_CANCELLED and its count. -/
def Dev.entryCancelled (s : Dev) : Dev := (s.raise 0xA000 1).inc C.PWR_ENTRY_CANCELS

/-- R526 step 4, R529: every CAN channel leaves WAKE_ARMED, LOCAL unless it woke the device. -/
def Dev.canResume (s : Dev) : Dev := forN 24 (fun n s => s.canDisarm n 4) s

/-- The LIN channel whose wake this was. -/
def linOwn (cls idx : Nat) : Option Nat := if cls = 2 then some idx else none

/-- The level that an INH output takes in a state: 0 ACTIVE, 1 REST, 2 SLEEP (R542). -/
def Dev.inhTo (k : Nat) (s : Dev) : Dev :=
  { s with pins := { s.pins with inh0 := s.bit R.PWR_INH_CFG k, inh1 := s.bit R.PWR_INH_CFG (8 + k) } }

/-- R529: a SLEEP entry is cancelled before its point of no return. -/
def Dev.sleepCancel (cls idx : Nat) (s : Dev) : Dev :=
  let s := (s.setPwr { s.pwr with phase := .active, step := 0, recorded := false }).setFld R.PWR_STAT 31 24 0
  let s := (s.canResume.linResume (linOwn cls idx))
  let s := forN 16 (fun g s => if s.portState (12 + g) = 4 then (s.emit (.pins "TC10_WUP" [12 + g])).portTrain (12 + g) else s) s
  (s.entryCancelled.nmWake).inhTo 0

/-- R533 step 1: the wake sequence starts. -/
def Dev.wakeBegin (s : Dev) : Dev := (s.setPwr { s.pwr with phase := .wake, step := 0, latched := false, from_ := 2 }).inhTo 0

/-- Where a class acts beside entry sequences (R539). -/
def actsIn (cls : Nat) (p : Phase) : Bool :=
  if cls = 8 then p != .rest && p != .restExit
  else if cls = 9 ∨ cls = 0xB then p != .sleep && p != .ponr
  else if cls = 0xA then p != .sleep && p != .ponr
  else if cls = 7 then p == .rest || p == .sleep
  else true

/-- R522, R527, R529 to R531: a wake event of a class and index. -/
def Dev.wakeEvent (cls idx swk : Nat) (s : Dev) : Dev :=
  if s.wakeOn cls idx = false ∨ actsIn cls s.pwr.phase = false then s
  else
    match s.pwr.phase with
    | .active =>
      if s.bit R.PWR_STAT 27 then
        let s := (s.wakeRecord cls idx swk false).setPwr { (s.wakeRecord cls idx swk false).pwr with recorded := false }
        ((s.setFld R.PWR_STAT 27 24 0).entryCancelled).nmWake
      else s
    | .restEntry =>
      let s := s.wakeRecord cls idx swk false
      ((s.setPwr { s.pwr with phase := .restExit, from_ := 0 }).setFld R.PWR_STAT 31 24 0x30).entryCancelled
    | .sleepEntry => (s.wakeRecord cls idx swk false).sleepCancel cls idx
    | .rest =>
      let s := s.wakeRecord cls idx swk false
      { (s.setPwr { s.pwr with phase := .restExit, from_ := 1 }).setFld R.PWR_STAT 31 28 3 with
        pins := { s.pins with inh0 := true, inh1 := true } }
    | .restExit => if s.bit R.PWR_STAT 27 then ((s.setFld R.PWR_STAT 27 24 0).entryCancelled).nmWake else s
    | .ponr =>
      let s := s.wakeRecord cls idx swk true
      s.setPwr { s.pwr with latched := true }
    | .sleep =>
      let s := s.wakeRecord cls idx swk false
      if cls = 0xC ∨ s.pwr.minDone = true then s.wakeBegin else s.setPwr { s.pwr with latched := true }
    | _ => s

/-- R544: ACTIVE is reached from REST or SLEEP: WOKE, and the false-wake window of the classes it watches. -/
def Dev.reachActive (s : Dev) : Dev :=
  let cls := s.fld R.PWR_WAKE_REASON 28 24
  let s := (s.setPwr { s.pwr with phase := .active, step := 0, recorded := false }).setFld R.PWR_STAT 31 28 0
  let s := (s.raise 0xA000 0).inhTo 0
  if s.fld R.PWR_FW_CFG 15 0 ≠ 0 ∧ s.pwr.from_ ≠ 0 ∧ (cls = 1 ∨ cls = 2 ∨ cls = 3 ∨ cls = 5) ∧ s.bit R.PWR_WAKE_REASON 31 = true then
    (s.setPwr { s.pwr with fwAt := s.time.frc }).setBit R.PWR_STAT 1 true
  else s

/-- CAN_WAKE_DETECT (R159, R539, R543): the transceiver of channel n reports 1 WUP, 2 a wake-up frame or 3 FEC_OVERFLOW. In
the line die's safe state a detection wakes nothing (R545). -/
def execCanWakeDetect (n reason : Nat) (f : LegFrame) (s : State) : Host.Outcome State Fault Refusal :=
  onDev (fun s =>
    let low := s.pwr.phase == .rest || s.pwr.phase == .sleep || s.pwr.phase == .ponr || s.headsStopped
    if 24 ≤ n ∨ s.pwr.lineSafe = true ∨ s.canState n ≠ 7 ∨ s.swkWakes n reason f = false ∨ reason = 0 ∨ 3 < reason ∨
        (low = true ∧ s.bit R.PWR_WAKE_CAN n = false) then s
    else
      let s := if reason = 2 then s.wr (R.CAN_SWK_WID n) (f.id % 2 ^ 29 + if f.ide then 2 ^ 31 else 0) else s
      let s := ((s.canDisarm n reason).raise (canPage n) 3)
      s.wakeEvent 1 n reason) s

/-- LIN_WOKE (R198, R524, R539): a dominant level over 150 µs on LIN channel n in SLEEP. -/
def execLinWoke (n : Nat) (s : State) : Host.Outcome State Fault Refusal :=
  onDev (fun s =>
    let low := s.pwr.phase == .rest || s.pwr.phase == .sleep || s.pwr.phase == .ponr
    if 8 ≤ n ∨ s.pwr.lineSafe = true ∨ (low = true ∧ s.bit R.PWR_WAKE_LEG n = false) then s
    else if s.linState n ≠ 2 then s.linCancel n
    else ((s.linWake n).raise (linPage n) 1).wakeEvent 2 n 0) s

/-- SER_WAKE_ACTIVITY (R539): differential activity of at least 10 µs on RS-485 channel n. -/
def execSerWakeActivity (n : Nat) (s : State) : Host.Outcome State Fault Refusal :=
  onDev (fun s => if 4 ≤ n ∨ s.pwr.lineSafe = true then s else s.wakeEvent 3 n 0) s

end Sys2Proof.Machine
end

