-- ==== Sys2Proof/Machine/Edit.lean ====
section
/-! DEFINITION. What a copy looks like as it leaves (R289, R341, R383 to R386): its VLAN edit, DEI, R-TAG and one-step
correction. -/

namespace Sys2Proof.Machine

/-- R381: the time domain that a PTP domainNumber maps to. -/
def Dev.ptpDomain (s : Dev) (num : Nat) : Option Nat :=
  ((List.range 8).find? fun k => s.bit (R.TIME_DMAP k) 31 && s.fld (R.TIME_DMAP k) 23 16 == num).map fun k => s.fld (R.TIME_DMAP k) 2 0

/-- R383: the residence from a reference to a departure, in 2^-16 ns of a domain. -/
def Dev.residence (s : Dev) (td : Nat) (dep ref : Nat) : Int :=
  (((dep : Int) - ref) * (2 ^ 48 + (s.dom td).rate) + 2 ^ 47) / 2 ^ 48

/-- The words of a byte string as 16-bit numbers, summed with their complements when asked (RFC 1624). -/
def sum16 (neg : Bool) : List Byte → Nat
  | a :: b :: r =>
    let w := a.toNat * 256 + b.toNat
    (if neg then 0xFFFF - w else w) + sum16 neg r
  | [a] => if neg then 0xFFFF - a.toNat * 256 else a.toNat * 256
  | [] => 0

/-- Fold a ones'-complement sum. -/
def fold16 (n : Nat) : Nat :=
  let a := n / 65536 + n % 65536
  let b := a / 65536 + a % 65536
  b / 65536 + b % 65536

/-- R383: the UDP checksum of a message at `o` after its edit: zero over IPv4, corrected for the changed bytes over IPv6. -/
def udpFix (old new : List Byte) (o : Nat) : List Byte :=
  let e := etherOff new
  let e := if beAt new e 2 = 0xF1C1 then e + 6 else e
  let et := beAt new e 2
  if et = 0x0800 then putBe new (o - 2) 2 0
  else if et = 0x86DD then
    let c := fold16 ((0xFFFF - beAt old (o - 2) 2) + sum16 true ((old.drop o).take 44) + sum16 false ((new.drop o).take 44))
    putBe new (o - 2) 2 (if c = 0xFFFF then 0xFFFF else 0xFFFF - c)
  else new

/-- R383: add to correctionField, held at its largest value with CF_SAT. -/
def Dev.addCf (bs : List Byte) (o : Nat) (d : Int) (s : Dev) : List Byte × Dev :=
  let v := sgn 64 (beAt bs (o + 8) 8) + d
  if 0x7FFFFFFFFFFFFFFF < v then (putBe bs (o + 8) 8 0x7FFFFFFFFFFFFFFF, s.inc C.TIME_CF_SAT)
  else (putBe bs (o + 8) 8 (unsgn 64 v), s)

/-- R381 to R386: the one-step edit of a copy's PTP message at `o`, departing at `dep`. -/
def Dev.oneStep (c : Copy) (v : FrameSt) (bs : List Byte) (o dep : Nat) (s : Dev) : List Byte × Dev :=
  let n := c.q / 8
  let cfg := R.PTP_PORT_CFG n
  let edited (b : List Byte) (s : Dev) : List Byte × Dev := (udpFix bs b o, s.add64 C.TIME_ONE_STEP_EDITS 1)
  if 2 ≤ v.req.tsr then
    if 28 ≤ n then (bs, s.inc C.TIME_TS_DEMOTED)
    else if s.bit cfg 30 = false then (bs, s)
    else if v.req.tsr = 2 then
      if dep < v.req.ref ∨ v.req.ref + 10 ^ 9 * 2 ^ 16 < dep then (bs, s.inc C.TIME_TS_REF_BAD)
      else
        match s.addCf bs o (s.residence v.req.td dep v.req.ref) with
        | (b, s) => edited b s
    else
      let w := domWords (s.domAt v.req.td dep)
      let sec := w.getD 1 0 + 2 ^ 32 * (w.getD 2 0 % 65536)
      let b := putBe (putBe bs (o + 34) 6 sec) (o + 40) 4 (w.getD 0 0)
      match s.addCf b o (w.getD 3 0) with
      | (b, s) => edited b s
  else if 32 ≤ v.inPort ∨ 28 ≤ n ∨ s.bit cfg 30 = false ∨ s.bit cfg 29 = false ∨ 4 ≤ ptpType bs o then (bs, s)
  else if ptpTwoStep bs o then (bs, s.inc C.TIME_TS_TWOSTEP_FWD)
  else
    match s.ptpDomain (beAt bs (o + 4) 1) with
    | none => (bs, s.inc C.TIME_TS_NODOM)
    | some td =>
      let ld : Int := if ptpType bs o = 0 ∧ s.bit (R.PTP_PORT_CFG v.inPort) 28 = true then s.rd (R.PTP_LINK_DELAY v.inPort) else 0
      match s.addCf bs o (s.residence td dep v.stamp + ld) with
      | (b, s) => edited b s

/-- R126, R128: the frame of a copy as port n's MAC commits it, without FCS; none when MACsec drops it. -/
def Dev.commitCopy (c : Copy) (dep : Nat) (s : Dev) : Option (List Byte) × Dev :=
  let v := s.frame c.frame
  let n := c.q / 8
  match s.editCopy c v with
  | (b, o) =>
    match (match o with
      | some o => if c.kind = 0 then s.oneStep c v b o dep else (b, s)
      | none => if c.kind = 0 ∧ 2 ≤ v.req.tsr ∧ 28 ≤ n then (b, s.inc C.TIME_TS_DEMOTED) else (b, s)) with
    | (b, s) =>
      match s.secProtect n b with
      | (none, s) => (none, s)
      | (some b, s) => (some (if b.length < 60 then takePad 60 b else b), s)

end Sys2Proof.Machine
end

