-- ==== Sys2Proof/Machine/Line.lean ====
section
/-! DEFINITION. Transmission and reception of frames on P0 to P31 (R118, R119, R125, R126, R300, R315, R316, R346). -/

namespace Sys2Proof.Machine

/-- The page of ETH[n]. -/
def ethPage (n : Nat) : Nat := 0x20000 + 0x1000 * n

/-- What port n is sending. -/
def Dev.txOf (s : Dev) (n : Nat) : Option TxSt := smGet (fun _ => none) s.ck.tx n

/-- Store what port n is sending. -/
def Dev.setTx (n : Nat) (t : Option TxSt) (s : Dev) : Dev := s.setCk { s.ck with tx := smSet (fun _ => none) s.ck.tx n t }

/-- The preempted frame of port n. -/
def Dev.heldTx (s : Dev) (n : Nat) : Option TxSt := smGet (fun _ => none) s.ck.held n

/-- Store the preempted frame of port n. -/
def Dev.setHeldTx (n : Nat) (t : Option TxSt) (s : Dev) : Dev :=
  s.setCk { s.ck with held := smSet (fun _ => none) s.ck.held n t }

/-- Count a frame by its destination: unicast, multicast or broadcast, in three counters from an offset (R142). -/
def Dev.castCount (o : Nat) (bs : List Byte) (s : Dev) : Dev :=
  let da := beAt bs 0 6
  s.add64 (if da = 0xFFFFFFFFFFFF then o + 16 else if (beAt bs 0 1).testBit 0 then o + 8 else o) 1

/-- R387: the stamp entry of a copy that has begun to leave, when its sender asked for one. -/
def Dev.stampBack (n stamp : Nat) (c : Copy) (s : Dev) : Dev :=
  let r := (s.frame c.frame).req
  if c.kind = 0 ∧ r.tsr ≠ 0 then s.tsfPush false n r.tag stamp else s

/-- The copy's transmission is over: its shaper is accounted and the port is free. -/
def Dev.txEnd (n : Nat) (c : Copy) (s : Dev) : Dev := (s.cbsTouch c.q).setTx n none

/-- The 64-bit counter of R142 for a frame of `n` octets, 64 and more. -/
def lenBin (p n : Nat) : Nat :=
  C.ETH_RX_64 p + 8 * (if n < 65 then 0 else if n < 128 then 1 else if n < 256 then 2 else if n < 512 then 3
    else if n < 1024 then 4 else if n < 1519 then 5 else 6)

/-- R125, R142: the MAC of port p judges a frame of `n` octets from DA through FCS, counting it; answers whether it is good. -/
def Dev.rxJudge (p n : Nat) (fcsOk : Bool) (s : Dev) : Bool × Dev :=
  let m := s.fld (R.ETH_MAX_FRAME p) 15 0
  let s := s.add64 (C.ETH_RX_OCTETS p) (min n (m + 1))
  if n < 64 then (false, s.inc (C.ETH_RX_RUNT p))
  else if m < n then (false, s.inc (C.ETH_RX_OVERSIZE p))
  else
    let s := s.add64 (lenBin p n) 1
    if fcsOk then (true, s) else (false, s.inc (C.ETH_RX_FCS_ERR p))

/-- LOOP of ETH_CTRL is MAC: what port n sends goes to its own ingress, and its line is quiet. -/
def Dev.loopMac (s : Dev) (n : Nat) : Bool := s.fld (R.ETH_CTRL n) 3 2 == 1

/-- What port n has sent of a frame that ends badly: on its line, or under LOOP MAC at its own ingress, as a frame with a wrong
FCS. -/
def Dev.sendCut (n : Nat) (bs : List Byte) (s : Dev) : Dev :=
  if s.loopMac n then (s.rxJudge n bs.length false).2 else s.emit (.cut n bs)

/-- The bytes of what port n sends, as far as they are known: a cut-through copy has those that its frame has received. -/
def Dev.txBytes (s : Dev) (t : TxSt) : List Byte :=
  if t.copy.ct then (s.editCopy t.copy (s.frame t.copy.frame)).1 else t.bytes

/-- R119: the collisions of the frame that port n has in transmission are forgotten with it. -/
def Dev.collClear (n : Nat) (s : Dev) : Dev := s.setTab T.tsnPort n 3 0

/-- R132: a transmission of port n ends without a valid FCS; how many of its octets have left is a free value. It
counts as sent in its queue (R323; DEDUCED, log entry 105). -/
def Dev.txAbort (n : Nat) (t : TxSt) (s : Dev) : Dev :=
  match s.draw with
  | (w, s) =>
    let bs := s.txBytes t
    let bs := bs ++ fcsOf bs
    let k := w.toNat % bs.length
    let s := ((s.inc (C.ETH_TX_ABORT n)).add64 (C.ETH_TX_OCTETS n) k).sendCut n (bs.take k)
    (((s.collClear n).stampBack n (roundStamp t.start) t.copy).cbsTouch t.copy.q).handedOver t.copy

/-- R132: what port n has in transmission ends. -/
def Dev.txAbortAll (n : Nat) (s : Dev) : Dev :=
  let s := match s.txOf n with
    | some t => (s.txAbort n t).setTx n none
    | none => s
  match s.heldTx n with
  | some t => (s.txAbort n t).setHeldTx n none
  | none => s

/-- R315, R316: whether a cut-through copy of frame f is being sent. -/
def Dev.ctBegun (s : Dev) (f : Nat) : Bool :=
  (s.ck.tx ++ s.ck.held).any fun e => match e.2 with
    | some t => t.copy.frame == f && t.copy.ct
    | none => false

/-- R316: a begun copy ends at the bytes received so far, followed by the inverse of their FCS; it counts as sent (R323). -/
def Dev.stomp (n : Nat) (t : TxSt) (s : Dev) : Dev :=
  let bs := s.txBytes t
  let s := ((s.inc (C.BUF_CT_STOMP n)).add64 (C.ETH_TX_OCTETS n) (bs.length + 4)).sendCut n (bs ++ fcsInverse bs)
  ((s.collClear n).cbsTouch t.copy.q).handedOver t.copy

/-- A flow request with its copies changed. -/
def FlowReq.mapCopies (g : List Copy → List Copy) : FlowReq → FlowReq
  | .track f h h2 ws o fl cs => .track f h h2 ws o fl (g cs)
  | .pass f h cs => .pass f h (g cs)
  | q => q

/-- Change the requests that wait in the insertion queues. -/
def Dev.mapIns (g : FlowReq → FlowReq) (s : Dev) : Dev :=
  { s with lk := { s.lk with ins := s.lk.ins.map fun (e : Nat × List FlowReq) => (e.1, e.2.map g) } }

/-- Remove the copies of frame f that wait, wherever they wait, and its head, without counting them in DROP_FRAMES. -/
def Dev.forget (f : Nat) (s : Dev) : Dev :=
  let mine (c : Copy) : Bool := c.frame == f && c.saved.isNone
  let qs := s.liveQs
  let n := (qs.flatMap fun q => (s.qst q).sram ++ (s.qst q).dram ++ s.heldOf q).filter mine
  let s := forL qs (fun q s =>
    let v := s.qst q
    s.setQ q { v with sram := v.sram.filter (fun c => !mine c), dram := v.dram.filter fun c => !mine c }) s
  let s := s.setCk { s.ck with
    hold := s.ck.hold.filter fun h => !mine h.1
    recirc := s.ck.recirc.filter (· != f)
    spn := (s.ck.spn.map fun e => (e.1, e.2.filter (· != f))).filter fun e => e.2 != [] }
  let s := (s.mapIns (FlowReq.mapCopies fun cs => cs.filter fun c => !mine c)).deepBusy
  let s := forL n (fun _ s => s.release f) s
  if (s.frame f).arrival then s.endArrival f else s

/-- R316, R125: the frame f arriving on port p is bad: begun cut-through copies are stomped, the others discarded. -/
def Dev.badFrame (p f : Nat) (s : Dev) : Dev :=
  let s := if s.ctBegun f then s.inc (C.BUF_CT_BAD p) else s
  let s := forN 32 (fun n s =>
    let s := match s.txOf n with
      | some t => if t.copy.frame = f then (s.stomp n t).setTx n none else s
      | none => s
    match s.heldTx n with
    | some t => if t.copy.frame = f then (s.stomp n t).setHeldTx n none else s
    | none => s) s
  s.forget f

/-- A frame's record is in use. -/
def Dev.frameLives (s : Dev) (f : Nat) : Bool := s.ck.frames.any fun e => e.1 == f

/-- Change every copy of the Chuck and those that wait for an insertion. -/
def Dev.mapCopies (g : Copy → Copy) (s : Dev) : Dev :=
  let tx (m : SMap (Option TxSt)) : SMap (Option TxSt) := m.map fun e => (e.1, e.2.map fun t => { t with copy := g t.copy })
  (s.setCk { s.ck with
    qs := s.ck.qs.map fun e => (e.1, { e.2 with sram := e.2.sram.map g, dram := e.2.dram.map g })
    hold := s.ck.hold.map fun h => (g h.1, h.2)
    tx := tx s.ck.tx
    held := tx s.ck.held }).mapIns (FlowReq.mapCopies fun cs => cs.map g)

/-- R258, R259: `n` more octets of frame f, whose head has passed: they join the entry in which its pass counted and the request
that it made. -/
def Dev.moreOctets (f n : Nat) (s : Dev) : Dev :=
  let s := forL (s.frame f).flowAt (fun i s => if s.isHead i then s.flowOctets i n else s) s
  s.mapIns fun q => match q with
    | .track g h h2 ws o fl cs => if g = f then .track g h h2 (trackOctets ws (o + n)) (o + n) fl cs else .track g h h2 ws o fl cs
    | q => q

/-- R334, R235: `n` more octets of frame f, which rule or flow meters have coloured: they are charged where its colour was. (DESIGN
CHOICE, log entry 107.) -/
def Dev.moreCharge (f n : Nat) (s : Dev) : Dev :=
  forL (s.frame f).charged (fun c s =>
    let w := if c.2 = 0 then 0 else 3
    if s.tfld T.meter c.1 0 31 31 = 0 ∨ c.2 = 2 then s
    else s.setTab96 T.meterTime c.1 w (s.tab96 T.meterTime c.1 w + n * meterByte)) s

/-- More of frame f has arrived on port p: it and its copies take their new length (R299, R303), unless there is no cell for it
(R302). An R-TAG that its pass removed stays removed (R327). -/
def Dev.growFrame (p f : Nat) (bs : List Byte) (more : Bool) (s : Dev) : Dev :=
  let old := s.frame f
  let bs := match old.cutTag with
    | some e => bs.take e ++ bs.drop (e + 6)
    | none => bs
  let n := bs.length - old.bytes.length
  let v := { old with bytes := bs, more := more, octets := old.octets + n }
  let extra := cellsOf v.len - cellsOf old.len
  if 0 < extra ∧ s.freeCells < extra then s.noCell.badFrame p f
  else
    let s := (s.setFrame f v).mapCopies fun c =>
      if c.frame = f ∧ c.saved.isNone = true then { c with cells := cellsOf v.len, len := v.len } else c
    ((s.moreOctets f n).moreCharge f n).freeMark

/-- R128: a head read ahead of its ICV: the plain bytes of what has arrived of a frame of port n, with no counter and no SA
changed, without the last 16, which may be its ICV; none where the engine would find no SA for it. -/
def Dev.secPeek (n : Nat) (bs : List Byte) (s : Dev) : Option (List Byte) :=
  if 28 ≤ n ∨ s.tfld T.secy n 0 30 30 = 0 then some bs
  else if etype12 bs ≠ 0x88E5 then (if s.secBypass n bs then some bs else none)
  else
    let suite := s.tfld T.secy n 0 23 22
    match parseSecTag (decide (2 ≤ suite)) bs with
    | none => none
    | some t =>
      match s.findSc n t ((bs.drop 6).take 6) with
      | none => none
      | some sc =>
        let i := 4 * (16 * n + sc) + t.an
        let pn := if suite < 2 then t.pn else recoverPn (s.saPn T.rxSa i) t.pn
        let sci := beBytes 4 (s.tab T.rxSc (16 * n + sc) 1) ++ beBytes 4 (s.tab T.rxSc (16 * n + sc) 2)
        let key := suiteKey suite (s.slot (s.tfld T.rxSa i 0 9 0)).key
        let iv := secIv suite sci (s.tab T.rxSa i 3) (s.saSalt T.rxSa i) pn
        let hdr := bs.take (12 + t.len)
        let body := (bs.drop (12 + t.len)).take (bs.length - (12 + t.len + 16))
        let off := confOff (s.tfld T.secy n 0 26 25)
        let plain := if t.e then body.take off ++ gcmText key iv (secSplit t.e off hdr body).2 else body
        some (bs.take 12 ++ plain)

/-- R382 on a frame's bytes, before it has a record. -/
def Dev.ptpTrapped (s : Dev) (p : Nat) (bs : List Byte) : Bool :=
  s.trapped { bytes := bs, passes := 1, inPort := p }

/-- R392: a frame on a BACKBONE port while the keeper serves. -/
def Dev.restFrame (p : Nat) (bs : List Byte) (stamp : Nat) (s : Dev) : Dev :=
  if s.ptpTrapped p bs = true ∧ s.bit (R.PTP_PORT_CFG p) 27 = true then
    { s with time := { s.time with keepQ := s.time.keepQ ++ [(p, bs, stamp)] } }
  else (s.inc C.TIME_KEEP_DROP).wakeEvent 9 p 0

/-- R561: the frames received on port p go to the partner, or come from it. -/
def Dev.pairPort (s : Dev) (p : Nat) : Bool :=
  s.bit R.BOOT_STRAP 2 && p != 3 && s.bit R.PAIR_IN_PORTS p && s.fld R.PAIR_CFG 31 30 == 1

/-- Whether heads are taken at the MAC of a port (R523, R528): the phases that drop what arrives, with REST apart. -/
def Dev.takesFrames (s : Dev) : Bool := s.pwr.phase == .active

/-- R561: a frame received on a port of PAIR_IN_PORTS waits to go to the standby. -/
def Dev.pairInput (p : Nat) (bs : List Byte) (stamp : Nat) (s : Dev) : Dev :=
  if s.pairPort p = false ∨ s.fld R.PAIR_STAT 31 28 ≠ 1 then s
  else
    let i : PairInput :=
      { port := p, rver := s.ruleVer, gver := s.curVer (R.PARS_LIVE 0), tc := ingressClass bs, stamp := stamp, bytes := bs }
    { s with pair := { s.pair with inputs := s.pair.inputs ++ [i] } }

/-- A stream handle whose filter needs the length of the frame (R327, R342): its MAX_SDU, its meter and its ATS scheduler. -/
def Dev.needsLength (s : Dev) (p : Nat) (bs : List Byte) : Bool :=
  match s.streamId p bs with
  | none => false
  | some h =>
    s.tfld T.filter h 0 31 31 == 1 &&
      (s.tfld T.filter h 0 13 0 != 0 || s.tfld T.filter h 1 31 31 == 1 || s.tfld T.filter h 1 15 15 == 1)

/-- R30, R205: the head of frame f, still arriving, enters the hasher once its first 256 bytes stand in cells, unless its stream
functions need its length. (DESIGN CHOICE, log entry 107.) -/
def Dev.headEnters (p f : Nat) (s : Dev) : Dev :=
  let v := s.frame f
  if v.waits = false ∨ v.bytes.length < 256 ∨ s.needsLength p v.bytes = true then s
  else ((s.setFrame f { v with waits := false }).hashIn f).2

/-- R302, R315: further bytes of a frame that has a record. -/
def Dev.moreIn (p f : Nat) (bs : List Byte) (s : Dev) : Dev :=
  if s.frameLives f = false then s
  else
    match s.secPeek p bs with
    | none => s
    | some b => s.growFrame p f b true

/-- R316: the frame of record f, all of it received, is bad. -/
def Dev.badLast (p f : Nat) (s : Dev) : Dev := if s.frameLives f then s.badFrame p f else s

/-- A frame good at port p's MAC goes on (R128, R523, R392, R561); `id` is its record when it took cells before its end. -/
def Dev.goodFrame (p : Nat) (bs : List Byte) (stamp : Nat) (id : Option Nat) (s : Dev) : Dev :=
  match id with
  | some f =>
    match s.secVerify p bs with
    | (none, s) => (s.moreIn p f bs).badLast p f
    | (some b, s) =>
      if s.frameLives f = false then s
      else
        let s := (s.pairInput p b stamp).growFrame p f b false
        if (s.frame f).waits = true ∧ s.frameLives f = true then ((s.setFrame f { s.frame f with waits := false }).hashIn f).2 else s
  | none =>
    if s.pwr.phase = .rest ∨ s.pwr.phase = .restExit then s.restFrame p bs stamp
    else if s.takesFrames = false then s.inc C.PWR_REST_IN_DROP
    else if s.pwr.keeper = true ∧ s.ptpTrapped p bs = true ∧ s.bit (R.PTP_PORT_CFG p) 27 = true then s.restFrame p bs stamp
    else if p = 3 ∧ s.epmelOn = true then s
    else if s.pairPort p = true ∧ s.fld R.PAIR_STAT 31 28 = 2 then s.inc C.PAIR_GATED_DROP
    else
      match s.secVerify p bs with
      | (none, s) => s
      | (some b, s) =>
        let v : FrameSt := { bytes := b, inPort := p, stamp := stamp, tc := ingressClass b }
        (s.pairInput p b stamp).enterFrame v

/-- R125, R118: the frame on port p ends with these bytes on the line, `n` octets as R125 measures it. -/
def Dev.rxEnd (p n : Nat) (bs : List Byte) (fcsOk : Bool) (stamp : Nat) (id : Option Nat) (s : Dev) : Dev :=
  match s.rxJudge p n fcsOk with
  | (false, s) => match id with
    | some f => (s.moreIn p f bs).badLast p f
    | none => s
  | (true, s) =>
    if etype12 bs = 0x8808 then s.inc (C.ETH_RX_MAC_CTRL p)
    else ((s.add64 (C.ETH_RX_FRAMES p) 1).castCount (C.ETH_RX_UCAST p) bs).goodFrame p bs stamp id

/-- What port p has received of the frame in reception, with its ingress stamp. -/
def Dev.wireOf (s : Dev) (p : Nat) : Option (List Byte × Nat) := (s.ck.wire.find? fun e => e.1 == p).map (·.2)

/-- The record of the frame in reception whose head has entered. -/
def Dev.arrivingOf (s : Dev) (p : Nat) : Option Nat := (s.ck.arriving.find? fun e => e.1 == p).map (·.2)

/-- Reception on port p is over. -/
def Dev.rxClear (p : Nat) (s : Dev) : Dev :=
  s.setCk { s.ck with wire := smDel p s.ck.wire, arriving := smDel p s.ck.arriving }

/-- R125, R552: a frame in reception when port p leaves UP ends at the bytes received, its FCS taken as wrong. -/
def Dev.rxCutOff (p : Nat) (s : Dev) : Dev :=
  match s.wireOf p with
  | none => s
  | some (bs, stamp) =>
    let id := s.arrivingOf p
    let s := Dev.when (p == 3 && s.epmelOn) (fun s => s.inc C.PAIR_EPL_BAD) s
    (s.rxClear p).rxEnd p bs.length bs false stamp id

/-- R299, R302: a frame whose tail still arrives takes cells from its EtherType on, so that it may be looked up and cut through
(R30, R315). A MAC control frame, and a frame that this member does not take from the line, waits for its end. A frame that found
no cell has no record: it is noted as record 0, which no frame has. -/
def Dev.headIn (p : Nat) (bs : List Byte) (stamp : Nat) (s : Dev) : Dev :=
  if etype12 bs = 0x8808 ∨ bs.length < 14 ∨ s.takesFrames = false ∨ s.pwr.keeper = true ∨ (p = 3 ∧ s.epmelOn = true) ∨
      (s.pairPort p = true ∧ s.fld R.PAIR_STAT 31 28 = 2) then s
  else
    match s.secPeek p bs with
    | none => s
    | some b =>
      match s.storeFrame { bytes := b, inPort := p, stamp := stamp, tc := ingressClass b, more := true, waits := true } with
      | (none, s) => s.setCk { s.ck with arriving := smPut p 0 s.ck.arriving }
      | (some f, s) => (s.setCk { s.ck with arriving := smPut p f s.ck.arriving }).headEnters p f

/-- Bytes arrive on port p: `more` while the frame's tail is still to come. A frame is truncated at ETH_MAX_FRAME + 1 bytes, and
its tail is not received (R125). -/
def Dev.rxBytes (p : Nat) (bs : List Byte) (fcsOk more : Bool) (stamp : Nat) (s : Dev) : Dev :=
  let old := s.wireOf p
  let m := s.fld (R.ETH_MAX_FRAME p) 15 0
  let whole := (old.map (·.1)).getD [] ++ bs
  let all := whole.take (m + 1)
  let st := (old.map (·.2)).getD stamp
  let id := s.arrivingOf p
  if more = true ∧ m < whole.length then
    ((s.setCk { s.ck with deaf := p :: s.ck.deaf }).rxClear p).rxEnd p (m + 1) all false st id
  else if more then
    let s := s.setCk { s.ck with wire := smPut p (all, st) s.ck.wire }
    match id with
    | some f => (s.moreIn p f all).headEnters p f
    | none => s.headIn p all st
  else (s.rxClear p).rxEnd p (whole.length + 4) all fcsOk st id

/-- R142, R348: what the receiver of port p reports. -/
def Dev.lineObs (p : Nat) (o : LineObs) (s : Dev) : Dev :=
  let s := (s.incBy (C.ETH_RX_PCS_ERR p) o.pcs).add64 (C.ETH_FEC_CORR p) o.corr
  let s := if o.uncorr = 0 then s else (s.incBy (C.ETH_FEC_UNCORR p) o.uncorr).raise (ethPage p) 8
  if 28 ≤ p then s
  else
    let s := if o.frags < 2 then s else (s.add64 (C.TSN_MM_FRAG_RX p) o.frags).add64 (C.TSN_MM_ASSY_OK p) 1
    (s.incBy (C.TSN_MM_ASSY_ERR p) o.assyErr).incBy (C.TSN_MM_SMD_ERR p) o.smdErr

/-- A part of a frame that port p does not receive passes; `more` while its tail is still to come. -/
def Dev.rxSkip (p : Nat) (more : Bool) (s : Dev) : Dev :=
  let rest := s.ck.deaf.filter (· != p)
  s.setCk { s.ck with deaf := if more then p :: rest else rest }

/-- LOOP of ETH_CTRL is LINE: port p returns what it receives to its line. (DESIGN CHOICE, log entry 108.) -/
def Dev.loopLine (p : Nat) (bs : List Byte) (s : Dev) : Dev :=
  if s.fld (R.ETH_CTRL p) 3 2 = 2 then s.emit (.back p bs) else s

/-- R125: bytes of a frame on port p from DA on, without FCS, `sub` FRC units into the cycle at its stamp point. A frame may come in
several parts; `more` says that its tail is still to come. A frame whose reception begins while the port is not UP, or while it
hears only itself, is not received, its tail neither. -/
def Dev.ethFrameRx (p : Nat) (bytes : List Byte) (fcsOk more : Bool) (sub : Nat) (obs : LineObs) (s : Dev) : Dev :=
  if 32 ≤ p then s
  else if s.portUp p = false ∨ s.ck.deaf.contains p = true then s.rxSkip p more
  else if s.loopMac p then (s.rxCutOff p).rxSkip p more
  else ((s.loopLine p bytes).lineObs p obs).rxBytes p bytes fcsOk more (s.stampRx p sub)

/-- The express class that may interrupt port n's transmission of `sent` bytes (R348). -/
def Dev.mayPreempt (s : Dev) (n sent : Nat) (t : TxSt) : Bool :=
  s.preClass n (t.copy.q % 8) && (s.heldTx n).isNone && decide (64 * (1 + s.fld (R.TSN_PREEMPT n) 9 8) ≤ sent) &&
    decide (sent + 64 ≤ t.bytes.length + 4) && !(s.frame t.copy.frame).more

/-- R346, R322, R463: port n begins to send the head copy of a class; `ecc` and `info` say what its cells show. A cut-through copy
that reads a cell uncorrectable ends as R316 says. -/
def Dev.txStart (n t ecc info : Nat) (s : Dev) : Dev :=
  match (s.qst (8 * n + t)).sram with
  | [] => s
  | c :: _ =>
    let v := s.frame c.frame
    let s := s.popHead c.q
    if ecc = 2 then
      if v.more then (s.cellRead 2 info).stomp n { copy := c, bytes := (s.editCopy c v).1, start := s.departAt n }
      else (s.cellRead 2 info).dropCopy c
    else
      let s := s.cellRead ecc info
      let dep := s.departAt n
      if v.more then s.setTx n (some { copy := c, bytes := (s.editCopy c v).1, start := dep })
      else
        match s.commitCopy c dep with
        | (none, s) => s.dropCopy c
        | (some b, s) => s.setTx n (some { copy := { c with ct := false }, bytes := b, start := dep })

/-- R348: a preempted frame of port n goes on, when no hold stops it. -/
def Dev.txResume (n : Nat) (s : Dev) : Dev :=
  match s.heldTx n with
  | some t => if s.holdOn n then s else (s.setHeldTx n none).setTx n (some t)
  | none => s

/-- TX_SELECT (R346): port n can start a frame. `sent` is how many bytes of a frame in transmission have left, which an
express copy may interrupt (R348). -/
def execTxSelect (n sent ecc info : Nat) (s : State) : Host.Outcome State Fault Refusal :=
  onDev (fun s =>
    if 32 ≤ n ∨ s.portUp n = false ∨ s.bit (R.ETH_STAT n) 6 = true ∨ s.pwr.xtalOk = false then s
    else
      match s.txOf n with
      | some t =>
        if s.mayPreempt n sent t = false then s
        else
          match s.txPick n with
          | (some k, s) =>
            if s.preClass n k then s
            else (((s.add64 (C.TSN_MM_FRAG_TX n) 1).setHeldTx n (some { t with frag := true })).setTx n none).txStart n k ecc info
          | (none, s) => s
      | none =>
        match s.txPick n with
        | (some k, s) =>
          if (s.heldTx n).isSome = true ∧ s.preClass n k = true then s.txResume n else s.txStart n k ecc info
        | (none, s) => s.txResume n) s

/-- R119: a collision on a T port with PLCA off: the sixteenth drops the frame. -/
def Dev.txCollide (n : Nat) (t : TxSt) (s : Dev) : Dev :=
  let s := s.inc (C.ETH_T1S_COLL n)
  let k := s.tab T.tsnPort n 3 + 1
  if k < 16 then (s.setTab T.tsnPort n 3 k).setTx n (some { t with start := s.departAt n })
  else
    let s := ((s.collClear n).inc (C.ETH_T1S_TX_DROP n)).txEnd n t.copy
    s.dropCopy t.copy

/-- R126, R142: the padded frame with its FCS leaves port n and is counted; under LOOP MAC the line is quiet. -/
def Dev.lineSend (n : Nat) (bs : List Byte) (s : Dev) : Dev :=
  let s := if s.loopMac n then s else s.emit (.eth n (bs ++ fcsOf bs))
  ((s.add64 (C.ETH_TX_OCTETS n) (bs.length + 4)).add64 (C.ETH_TX_FRAMES n) 1).castCount (C.ETH_TX_UCAST n) bs

/-- What port n has sent comes back to its ingress under LOOP MAC. -/
def Dev.lineBack (n : Nat) (bs : List Byte) (s : Dev) : Dev :=
  if s.loopMac n then s.rxEnd n (bs.length + 4) bs true (s.stampRx n 0) none else s

/-- R126: a frame of fewer than 60 bytes is padded with zero bytes. -/
def padded (bs : List Byte) : List Byte := if bs.length < 60 then takePad 60 bs else bs

/-- R300, R377, R398: the last byte of port n's frame has left: counters, its stamp, its reference; with LOOP MAC the frame
comes back to the ingress (R130). -/
def Dev.txDone (n : Nat) (t : TxSt) (tap : Option Int) (s : Dev) : Dev :=
  let c := t.copy
  let bs := padded (s.txBytes t)
  let s := s.lineSend n bs
  let s := if n < 28 ∧ t.frag = true then s.add64 (C.TSN_MM_FRAG_TX n) 1 else s
  match s.truSent n t.start tap with
  | (stamp, s) =>
    ((((s.stampBack n stamp c).collClear n).txEnd n c).handedOver c).lineBack n bs

/-- ETH_TX_DONE (R300): the last byte of the copy that port n sends has left; `tap` is the residual that its sense tap saw,
`coll` that the attempt collided (R119). A cut-through copy whose tail has not arrived does not end here. -/
def execEthTxDone (n : Nat) (tap : Option Int) (coll : Bool) (s : State) : Host.Outcome State Fault Refusal :=
  onDev (fun s =>
    match s.txOf n with
    | none => s
    | some t =>
      if (s.frame t.copy.frame).more then s
      else if coll = true ∧ 28 ≤ n ∧ s.bit (R.ETH_PLCA n) 31 = false then s.txCollide n t
      else s.txDone n t tap) s

end Sys2Proof.Machine
end

