-- ==== Sys2Proof/Machine/Eth.lean ====
section
/-! DEFINITION. Ethernet ports (chapter 05): link states, energy-efficient Ethernet, TC10, cable diagnostics and MDIO. -/

namespace Sys2Proof.Machine

/-- R141: a SPEED code is valid for a port. -/
def modeValid (n m : Nat) : Bool :=
  if n < 4 then (decide (8 ≤ m ∧ m ≤ 0xB)) || (n == 3 && m == 0xC)
  else if n < 12 then decide (1 ≤ m ∧ m ≤ 3)
  else if n < 28 then decide (m = 4 ∨ m = 5)
  else m == 6

/-- Ports may train: the data plane is released, the late sections of a wake are loaded (R533: ACTIVE step 2 before that), and REST or
SLEEP does not hold the port (R111, R523). -/
def Dev.portsRun (s : Dev) (n : Nat) : Bool :=
  (s.pwr.phase == .active && s.pwr.step != 2) || s.pwr.phase == .restEntry || s.pwr.phase == .sleepEntry ||
    ((s.pwr.phase == .rest || s.pwr.phase == .restExit) && s.bit (R.ETH_CTRL n) 1)

/-- LPI_TIME of port n up to now (R142); the part of a microsecond is kept. -/
def Dev.lpiTouch (n : Nat) (s : Dev) : Dev :=
  if s.bit (R.ETH_STAT n) 6 = false then s
  else
    let us := 1000 * 2 ^ 16
    let all := (s.time.frc - s.tab96 T.tsnPort n 4) + s.tab T.tsnPort n 7
    ((s.add64 (C.ETH_LPI_TIME n) (all / us)).setTab T.tsnPort n 7 (all % us)).setTab96 T.tsnPort n 4 s.time.frc

/-- The transmit side of port n leaves LPI (R135). -/
def Dev.lpiExit (n : Nat) (s : Dev) : Dev := ((s.lpiTouch n).setBit (R.ETH_STAT n) 6 false).setTab T.tru n 11 0

/-- R135: the wake time Tw of a mode in FRC units: 16 µs for 1000BASE-T1, 12 µs for the Clause 149 modes. -/
def lpiWake (mode : Nat) : Nat := (if mode = 4 then 16000 else 12000) * 2 ^ 16

/-- R125, R132: port n leaves UP or SLEEP_REQ. -/
def Dev.leaveUp (n : Nat) (s : Dev) : Dev :=
  if s.portState n ≠ 2 ∧ s.portState n ≠ 3 then s
  else
    let s := s.lpiTouch n
    let s := s.txAbortAll n
    let s := s.rxCutOff n
    let s := s.portShow n 1 0
    let s := (s.discardPort n).inc (C.ETH_LINK_DOWN_CNT n)
    let s := s.raise (ethPage n) 1
    if n = 3 then s.pairQuietEnd else s

/-- Port n goes to DISABLED. -/
def Dev.portOff (n : Nat) (s : Dev) : Dev := (s.leaveUp n).portShow n 0 0

/-- R131: an enabled port with a valid mode trains. -/
def Dev.portStart (n : Nat) (s : Dev) : Dev :=
  if s.bit (R.ETH_CTRL n) 0 = true ∧ modeValid n (s.ethMode n) = true ∧ s.portState n = 0 ∧ s.portsRun n = true then s.portTrain n else s

/-- MODE_ERR and its event (R133). -/
def Dev.modeErr (n : Nat) (s : Dev) : Dev := (s.setBit (R.ETH_STAT n) 8 true).raise (ethPage n) 2

/-- R139: DIAG_START. -/
def Dev.diagStart (n : Nat) (s : Dev) : Dev :=
  if 4 ≤ n ∧ s.portState n = 1 then s.portShow n 5 0
  else (s.wr (R.ETH_DIAG n) 0).raise (ethPage n) 3

/-- R133, R139: a write of ETH_CTRL. PORT_EN acts before DIAG_START of the same write. (DESIGN CHOICE, log entry 112.) -/
def Dev.ethCtrlWrite (n v : Nat) (s : Dev) : Dev :=
  let was := s.bit (R.ETH_CTRL n) 0
  let s := s.wr (R.ETH_CTRL n) (v % 16)
  let s :=
    if v.testBit 0 = false then (if s.portState n = 0 then s else s.portOff n)
    else if was then s
    else if modeValid n (s.ethMode n) = false then s.modeErr n
    else s.portStart n
  if v.testBit 4 then s.diagStart n else s

/-- PORT_EN_WRITE (R133): a write of ETH_CTRL of port n. -/
def execPortEnWrite (r : Req) (n v : Nat) (s : State) : Host.Outcome State Fault Refusal :=
  onDev (fun s => if n < 32 then Dev.guarded r (R.ETH_CTRL n) (Dev.ethCtrlWrite n v) s else s) s

/-- DIAG_START (R139): a write of ETH_CTRL of port n with its other fields as they stand. -/
def execDiagStart (r : Req) (n : Nat) (s : State) : Host.Outcome State Fault Refusal :=
  onDev (fun s =>
    if n < 32 then Dev.guarded r (R.ETH_CTRL n) (fun s => s.ethCtrlWrite n (s.rd (R.ETH_CTRL n) % 16 + 16)) s else s) s

/-- DIAG_DONE (R139): the measurement on port n ends. -/
def execDiagDone (n result dist : Nat) (s : State) : Host.Outcome State Fault Refusal :=
  onDev (fun s =>
    if 32 ≤ n ∨ s.portState n ≠ 5 then s
    else
      ((s.wr (R.ETH_DIAG n) (result % 5 * 2 ^ 28 + if result = 2 ∨ result = 3 then dist % 65536 else 0)).portTrain n).raise (ethPage n) 3) s

/-- R133: a write of ETH_MODE. -/
def Dev.ethModeWrite (n v : Nat) (s : Dev) : Dev :=
  if s.bit (R.ETH_CTRL n) 0 then s.modeErr n else s.plainWrite (R.ETH_MODE n) v

/-- ETH_MODE_WRITE (R133). -/
def execEthModeWrite (r : Req) (n v : Nat) (s : State) : Host.Outcome State Fault Refusal :=
  onDev (fun s => if n < 32 then Dev.guarded r (R.ETH_MODE n) (Dev.ethModeWrite n v) s else s) s

/-- R116, R120: the rate code of a port that comes UP; `inband` is what an external PHY signals. -/
def Dev.upRate (s : Dev) (n inband : Nat) : Nat :=
  let m := s.ethMode n
  let ib := s.bit (R.ETH_MODE n) 8
  if m = 0xA then (if ib = true ∧ 1 ≤ inband ∧ inband ≤ 6 then inband else 6)
  else if m = 0xB then (if ib = true ∧ 1 ≤ inband ∧ inband ≤ 3 then inband else 3)
  else [0, 6, 5, 4, 3, 2, 1, 0, 7, 6, 6, 3, 7].getD m 0

/-- R140: the signal quality that port n shows. -/
def Dev.sqiShow (n q : Nat) (s : Dev) : Dev :=
  if 4 ≤ n ∧ n < 28 ∧ s.portState n = 2 then
    let v := q % 8
    s.wr (R.ETH_SQI n) (min (s.fld (R.ETH_SQI n) 10 8) v * 256 + v)
  else s

/-- LINK_UP (R131, R124, R407): port n's link is established; `inband` is a rate signalled in band, `align` an S port's
deserialiser offset in FRC units, `sqi` its signal quality and `plca` whether a T port sees beacons. -/
def execLinkUp (n inband align sqi : Nat) (plca : Bool) (s : State) : Host.Outcome State Fault Refusal :=
  onDev (fun s =>
    let poll := decide (n < 4) && s.bit (R.ETH_MDIO_CFG n) 0
    if 32 ≤ n ∨ s.portState n ≠ 1 ∨ (poll = true ∧ s.bit (R.ETH_STAT n) 4 = false) then s
    else
      let s := (s.portShow n 2 (s.upRate n inband)).truLock n align
      let s := if 28 ≤ n ∧ plca = true then s.setBit (R.ETH_STAT n) 1 true else s
      let s := (s.sqiShow n sqi).raise (ethPage n) 0
      if n < 28 ∧ s.bit (R.TSN_PREEMPT n) 31 = true ∧ s.bit (R.TSN_PREEMPT n) 30 = false then
        (s.setTab T.tsnPort n 2 0).preStatus n 1
      else s) s

/-- LINK_DOWN (R132): port n loses its link; `fault` that its partner signals a fault. -/
def execLinkDown (n : Nat) (fault : Bool) (s : State) : Host.Outcome State Fault Refusal :=
  onDev (fun s =>
    if 32 ≤ n ∨ (s.portState n ≠ 2 ∧ s.portState n ≠ 3) then s
    else ((s.leaveUp n).portTrain n).setBit (R.ETH_STAT n) 3 (fault && decide (n < 28))) s

/-- INBAND_RATE_CHANGE (R120): an external PHY signals a new rate on port n while it is UP. -/
def execInbandRateChange (n rate : Nat) (s : State) : Host.Outcome State Fault Refusal :=
  onDev (fun s =>
    if 4 ≤ n ∨ (s.ethMode n ≠ 0xA ∧ s.ethMode n ≠ 0xB) ∨ s.bit (R.ETH_MODE n) 8 = false ∨ s.portState n ≠ 2 ∨
        s.fld (R.ETH_STAT n) 18 16 = s.upRate n rate then s
    else (s.leaveUp n).portTrain n) s

/-- The mode of port n supports EEE (R116). -/
def Dev.eeeMode (s : Dev) (n : Nat) : Bool := decide (1 ≤ s.ethMode n ∧ s.ethMode n ≤ 4)

/-- Port n has nothing to send. -/
def Dev.portIdle (s : Dev) (n : Nat) : Bool :=
  (List.range 8).all (fun t => (s.admitted (8 * n + t)) == [] && (s.qst (8 * n + t)).dram == []) &&
    (s.txOf n).isNone && (s.heldTx n).isNone

/-- R134, R135: EEE is in use on port n: ETH_EEE.EN is set, or the port is a BACKBONE port in REST. -/
def Dev.lpiUse (s : Dev) (n : Nat) : Bool :=
  s.eeeMode n && (s.bit (R.ETH_EEE n) 31 || (s.pwr.phase == .rest && s.bit (R.ETH_CTRL n) 1))

/-- The transmit side of port n enters LPI where its mode has EEE (R116, R134). -/
def Dev.lpiEnter (n : Nat) (s : Dev) : Dev :=
  if s.bit (R.ETH_STAT n) 6 = true ∨ s.portIdle n = false ∨ s.portUp n = false ∨ s.lpiUse n = false then s
  else (s.setBit (R.ETH_STAT n) 6 true).setTab96 T.tsnPort n 4 s.time.frc

/-- LPI_ENTRY (R134): the queues of port n have been empty for IDLE µs; with `rx` the link partner enters LPI, which LPI_RX shows
only while this port uses EEE. (DEDUCED, log entry 55.) -/
def execLpiEntry (n : Nat) (rx : Bool) (s : State) : Host.Outcome State Fault Refusal :=
  onDev (fun s =>
    if 32 ≤ n ∨ s.portUp n = false ∨ s.lpiUse n = false then s
    else if rx then s.setBit (R.ETH_STAT n) 5 true
    else s.lpiEnter n) s

/-- LPI_EXIT_DONE (R135): Tw after port n began to leave LPI; with `rx` the link partner has left it. -/
def execLpiExitDone (n : Nat) (rx : Bool) (s : State) : Host.Outcome State Fault Refusal :=
  onDev (fun s =>
    if 32 ≤ n then s
    else if rx then (s.setBit (R.ETH_STAT n) 5 false).setTab T.tru n 12 0
    else if s.bit (R.ETH_STAT n) 6 = false ∨ (s.portIdle n = true ∧ s.lpiUse n = true) then s
    else s.lpiExit n) s

/-- Port n returns to UP from SLEEP_REQ. -/
def Dev.backUp (n : Nat) (s : Dev) : Dev := s.setFld (R.ETH_STAT n) 23 20 2

/-- R136, R138: a write of ETH_TC10 of a G port. -/
def Dev.tc10Write (n v : Nat) (s : Dev) : Dev :=
  if n < 12 ∨ 28 ≤ n then s
  else
    let s := s.plainWrite (R.ETH_TC10 n) v
    if v.testBit 1 then
      if s.portState n = 4 then (s.emit (.pins "TC10_WUP" [n])).portTrain n
      else if s.portState n = 3 then s.backUp n
      else s
    else if v.testBit 0 = true ∧ s.portState n = 2 then s.setFld (R.ETH_STAT n) 23 20 3
    else s

/-- SLEEP_REQ (R136): a write of ETH_TC10 of port n with its enables as they stand. -/
def execSleepReq (r : Req) (n : Nat) (s : State) : Host.Outcome State Fault Refusal :=
  onDev (fun s =>
    if n < 32 then Dev.guarded r (R.ETH_TC10 n) (fun s => s.tc10Write n (s.rd (R.ETH_TC10 n) ||| 1)) s else s) s

/-- WAKE_REQ (R138): a write of ETH_TC10 of port n; `sleep` that it sets SLEEP_REQ too. -/
def execWakeReq (r : Req) (n : Nat) (sleep : Bool) (s : State) : Host.Outcome State Fault Refusal :=
  onDev (fun s =>
    if n < 32 then
      Dev.guarded r (R.ETH_TC10 n) (fun s => s.tc10Write n (s.rd (R.ETH_TC10 n) ||| (if sleep then 3 else 2))) s
    else s) s

/-- Port n enters TC10_SLEEP (R136, R137). -/
def Dev.tc10Sleep (n : Nat) (s : Dev) : Dev := ((s.leaveUp n).portShow n 4 0).raise (ethPage n) 4

/-- TC10_SLEPT (R136): the partner acknowledges. -/
def execTc10Slept (n : Nat) (s : State) : Host.Outcome State Fault Refusal :=
  onDev (fun s => if 32 ≤ n ∨ s.portState n ≠ 3 then s else s.tc10Sleep n) s

/-- TC10_FAIL (R136, R528): 16 ms without acknowledgement. In SLEEP entry the port is switched off with its wake detector armed. -/
def execTc10Fail (n : Nat) (s : State) : Host.Outcome State Fault Refusal :=
  onDev (fun s =>
    if 32 ≤ n ∨ s.portState n ≠ 3 then s
    else ((if s.pwr.phase = .sleepEntry then (s.leaveUp n).portShow n 4 0 else s.backUp n).setBit (R.ETH_STAT n) 9 true).raise (ethPage n) 6) s

/-- TC10_REMOTE_SLEEP (R137): the partner asks to sleep. -/
def execTc10RemoteSleep (n : Nat) (s : State) : Host.Outcome State Fault Refusal :=
  onDev (fun s =>
    if n < 12 ∨ 28 ≤ n ∨ (s.portState n ≠ 2 ∧ s.portState n ≠ 3) ∨ s.bit (R.ETH_TC10 n) 4 = false then s else s.tc10Sleep n) s

/-- TC10_WOKE (R138, R539): a wake-up from the partner of port n. -/
def execTc10Woke (n : Nat) (s : State) : Host.Outcome State Fault Refusal :=
  onDev (fun s =>
    if n < 12 ∨ 28 ≤ n then s
    else if s.pwr.phase = .sleep ∨ s.pwr.phase = .ponr then s.wakeEvent 4 (n - 12) 0
    else if s.portState n = 4 then ((s.portTrain n).raise (ethPage n) 5).wakeEvent 4 (n - 12) 0
    else if s.portState n = 3 then s.backUp n
    else s) s

/-- R123: a write of ETH_MDIO_CMD of P0 to P3. While the page's own command is BUSY, a nonzero OP only sets OVERLAP, and a
write with OP 0 acts on its W1C bits only. (DESIGN CHOICE, log entry 112.) -/
def Dev.mdioCmd (n v : Nat) (s : Dev) : Dev :=
  if 4 ≤ n then s
  else
    let o := R.ETH_MDIO_CMD n
    let op := bitsOf v 29 28
    let w1c (s : Dev) : Dev := s.wr o (s.rd o - (s.rd o &&& v &&& 0x48000000))
    if s.bit o 31 then (if op = 0 then w1c s else s.setBit o 27 true)
    else if op = 0 ∨ op = 3 then
      let s := w1c s
      s.wr o ((s.rd o &&& 0x48000000) ||| (v &&& 0x33FFFFFF))
    else
      let s := w1c s
      let s := s.wr o ((s.rd o &&& 0x48000000) ||| (v &&& 0x33FFFFFF) ||| 2 ^ 31)
      { s with mdio := s.mdio ++ [{ port := n, read := op == 2, addr := v &&& 0x3FFFFFF, data := s.rd (R.ETH_MDIO_DATA n) % 65536 }] }

/-- MDIO_WRITE (R123): PRTAD, DEVAD and REGAD of a WRITE command on port n. -/
def execMdioWrite (r : Req) (n addr : Nat) (s : State) : Host.Outcome State Fault Refusal :=
  onDev (fun s => if n < 4 then Dev.guarded r (R.ETH_MDIO_CMD n) (Dev.mdioCmd n (addr % 2 ^ 26 + 2 ^ 28)) s else s) s

/-- MDIO_READ (R123): PRTAD, DEVAD and REGAD of a READ command on port n. -/
def execMdioRead (r : Req) (n addr : Nat) (s : State) : Host.Outcome State Fault Refusal :=
  onDev (fun s => if n < 4 then Dev.guarded r (R.ETH_MDIO_CMD n) (Dev.mdioCmd n (addr % 2 ^ 26 + 2 ^ 29)) s else s) s

/-- MDIO_DONE (R123): the oldest command's 128 MDC cycles end; `resp` is what the PHY answers a READ, none when it does not
drive the turnaround bit low. -/
def execMdioDone (resp : Option Nat) (s : State) : Host.Outcome State Fault Refusal :=
  onDev (fun s =>
    match s.mdio with
    | [] => s
    | c :: rest =>
      let s := { s with mdio := rest }
      let s := s.emit (.pins "MDIO" [c.port, if c.read then 1 else 0, c.addr, c.data])
      let s := if c.read then s.wr (R.ETH_MDIO_DATA c.port) (resp.getD 0xFFFF % 65536) else s
      let s := if c.read = true ∧ resp = none then s.setBit (R.ETH_MDIO_CMD c.port) 30 true else s
      (s.setBit (R.ETH_MDIO_CMD c.port) 31 false).raise (ethPage c.port) 7) s

/-- MDIO_POLL (R124): the millisecond read of PMA/PMD status 1 (DEVAD 1, register 1) at POLL_PRTAD of port n, and what the PHY
answers. -/
def execMdioPoll (n status : Nat) (s : State) : Host.Outcome State Fault Refusal :=
  onDev (fun s =>
    if 4 ≤ n ∨ s.bit (R.ETH_MDIO_CFG n) 0 = false then s
    else
      let s := s.emit (.pins "MDIO" [n, 1, s.fld (R.ETH_MDIO_CFG n) 25 21 * 2 ^ 21 + 0x10001, 0])
      if s.portState n = 0 then s
      else
      let s := s.setBit (R.ETH_STAT n) 4 (status.testBit 2)
      if status.testBit 2 = false ∧ s.portState n = 2 then (s.leaveUp n).portTrain n else s) s

/-- R124: a write of ETH_MDIO_CFG: without a poll PHY_LINK reads 1 outside DISABLED. MDC_DIV is present on P0 only. -/
def Dev.mdioCfgWrite (n v : Nat) (s : Dev) : Dev :=
  if 4 ≤ n then s
  else
    let s := s.wr (R.ETH_MDIO_CFG n) (v &&& (if n = 0 then 0x03E0FF01 else 0x03E00001))
    if v.testBit 0 = true ∨ s.portState n = 0 then s else s.setBit (R.ETH_STAT n) 4 true

/-- R141: a write of ETH_MAX_FRAME outside its range has no effect. -/
def Dev.maxFrameWrite (n v : Nat) (s : Dev) : Dev :=
  if v < 1518 ∨ 9216 < v then s else s.wr (R.ETH_MAX_FRAME n) v

/-- SOFT_RST of ETH[n] (R61, chapter 05): DISABLED, counters zero, W1C bits clear. -/
def Dev.ethSoftRst (n : Nat) (s : Dev) : Dev :=
  let s := if s.portState n = 0 then s else s.portOff n
  let s := forN 48 (fun k s => s.wr (0x20200 + 0x1000 * n + 4 * k) 0) s
  let s := (s.wr (R.ETH_CNT_SAT n) 0).wr (R.ETH_STAT n) (s.rd (R.ETH_STAT n) &&& 0xFFFFFCFF)
  let s := s.setBit (R.ETH_CTRL n) 0 false
  if n < 4 then s.wr (R.ETH_MDIO_CMD n) (s.rd (R.ETH_MDIO_CMD n) &&& 0xB7FFFFFF) else s

end Sys2Proof.Machine
end

