-- ==== Sys2Proof/Machine/Hif.lean ====
section
/-! DEFINITION. Host endpoints and DMA rings (chapter 18), and the capture drain (R361). Host memory is outside: what a
descriptor and a buffer hold comes with the command, what the HIF writes is in the trace. -/

namespace Sys2Proof.Machine

/-- A register of ring k: RX rings 0 to 63, TX rings 64 to 127. -/
def ringReg (k o : Nat) : Nat := (if k < 64 then 0x41040 + 0x20 * k else 0x42040 + 0x20 * (k - 64)) + o

/-- RING_CFG. -/
def ringCfg (k : Nat) : Nat := ringReg k 0x08
/-- RING_TAIL. -/
def ringTail (k : Nat) : Nat := ringReg k 0x0C
/-- RING_HEAD. -/
def ringHead (k : Nat) : Nat := ringReg k 0x10
/-- RING_STAT. -/
def ringStat (k : Nat) : Nat := ringReg k 0x18

/-- RING_STAT.STATE. -/
def Dev.ringState (s : Dev) (k : Nat) : Nat := s.fld (ringStat k) 31 28

/-- Set RING_STAT.STATE. -/
def Dev.ringGoto (k st : Nat) (s : Dev) : Dev := s.setFld (ringStat k) 31 28 st

/-- A ring's record. -/
def Dev.ring (s : Dev) (k : Nat) : RingSt := smGet (fun _ => ({} : RingSt)) s.hif.rings k

/-- Store a ring's record. -/
def Dev.setRing (k : Nat) (v : RingSt) (s : Dev) : Dev :=
  { s with hif := { s.hif with rings := smSet (fun _ => ({} : RingSt)) s.hif.rings k v } }

/-- The endpoint that owns a ring's pair (R417). -/
def Dev.ringEp (s : Dev) (k : Nat) : Nat := s.fld (R.RP_CFG (k % 64)) 30 30

/-- Descriptors of a ring (R418). -/
def Dev.ringSize (s : Dev) (k : Nat) : Nat := 2 ^ s.fld (ringCfg k) 20 16

/-- HEAD. -/
def Dev.headOf (s : Dev) (k : Nat) : Nat := s.fld (ringHead k) 15 0

/-- Descriptors posted up to an index. -/
def Dev.posted (s : Dev) (k tail : Nat) : Nat := (tail + s.ringSize k - s.headOf k) % s.ringSize k

/-- RING_STAT.CFG_ERR. -/
def Dev.ringErr (k : Nat) (s : Dev) : Dev := s.setBit (ringStat k) 3 true

/-- The OK bit of an endpoint's feature agreement (R75). -/
def Dev.epOk (s : Dev) (e : Nat) : Bool := s.bit (if e = 0 then R.FEAT_CTRL_A else R.FEAT_CTRL_B) 1

/-- R434: the HIF may issue DMA for an endpoint's rings. -/
def Dev.dmaOk (s : Dev) (e : Nat) : Bool :=
  let v := s.ep e
  v.bme1 && !v.d3hot1 && (v.link == 2 || v.link == 4 || v.link == 5 || v.link == 6)

/-- A write to a register of pair n or its rings (R417): HST or the owning endpoint's requester. -/
def Dev.pairGuard (r : Req) (n off : Nat) (f : Dev → Dev) (s : Dev) : Dev :=
  if s.reach r off = false then s
  else if s.pairOwner n r = false then s.viol off
  else if s.ready off = false then s
  else s.cfgWrite r off f

/-- Set a pair's PEND bits for the rings that have written records, and end its hold-off (R432). -/
def Dev.modFire (n : Nat) (s : Dev) : Dev :=
  let m := smGet (fun _ => ({} : ModSt)) s.hif.mods n
  let v := (if m.rx then 1 else 0) + if m.tx then 2 else 0
  let s := s.wr (R.RP_IRQ n) (s.rd (R.RP_IRQ n) ||| v)
  { s with hif := { s.hif with mods := smSet (fun _ => ({} : ModSt)) s.hif.mods n {} } }

/-- R432: ring k has written the record of a frame's last descriptor. -/
def Dev.modCount (k : Nat) (s : Dev) : Dev :=
  let n := k % 64
  let m := smGet (fun _ => ({} : ModSt)) s.hif.mods n
  let m := { m with cnt := m.cnt + 1, since := if m.run then m.since else s.time.frc, run := true, rx := m.rx || decide (k < 64), tx := m.tx || decide (64 ≤ k) }
  let s := { s with hif := { s.hif with mods := smSet (fun _ => ({} : ModSt)) s.hif.mods n m } }
  if s.fld (R.RP_MOD n) 15 0 = 0 ∨ max 1 (s.fld (R.RP_CFG n) 15 8) ≤ m.cnt then s.modFire n else s

/-- MOD_HOLDOFF_EXPIRY (R432): the hold-off of pair n has lasted MOD_US. -/
def execModHoldoffExpiry (n : Nat) (s : State) : Host.Outcome State Fault Refusal :=
  onDev (fun s =>
    let m := smGet (fun _ => ({} : ModSt)) s.hif.mods n
    if m.run = true ∧ n < 64 ∧ s.passed m.since (s.fld (R.RP_MOD n) 15 0 * 1000) = true then s.modFire n else s) s

/-- Write a record at HEAD, its PHASE in bit 31 of word 0, and move HEAD on (R418, R422, R426). -/
def Dev.ringRecord (k : Nat) (ws : List Nat) (s : Dev) : Dev :=
  let h := s.headOf k
  let ph := s.fld (ringHead k) 16 16
  let base := s.rd64 (ringReg k 0)
  let bs := (ws.set 0 (ws.getD 0 0 % 2 ^ 31 + ph * 2 ^ 31)).flatMap (leBytes 4)
  let s := s.emit (.dma (s.ringEp k) (base + 32 * h) bs)
  let h' := (h + 1) % s.ringSize k
  s.wr (ringHead k) (h' + (if h' = 0 then 1 - ph else ph) * 2 ^ 16)

/-- A word of a descriptor. -/
def descW (d : List Nat) (w : Nat) : Nat := d.getD w 0

/-- R422: the TX records of a frame's descriptors. -/
def Dev.txRecords (k st : Nat) (ds : List (List Nat)) (s : Dev) : Dev :=
  let tag := descW (ds.getD 0 []) 3 % 65536
  (forL ds (fun d s => s.ringRecord k [st * 2 ^ 24 + descW d 2 % 16384, tag, 0, 0, 0, 0, 0, descW d 7]) s).modCount k

/-- How many descriptors the frame at the front takes (R421): up to its EOP, or to before the next SOP; none while neither
is posted. -/
def txSpan : Bool → List (List Nat) → Option Nat
  | _, [] => none
  | first, d :: ds =>
    if first = false ∧ (descW d 2).testBit 31 = true then some 0
    else if (descW d 2).testBit 30 then some 1
    else (txSpan false ds).map (· + 1)

/-- R421: a frame that is not refused. -/
def txGood (ds : List (List Nat)) : Bool :=
  let total := ds.foldl (fun n d => n + descW d 2 % 16384) 0
  (descW (ds.getD 0 []) 2).testBit 31 && (descW (ds.getLastD []) 2).testBit 30 && decide (ds.length ≤ 16) &&
    ds.all (fun d => decide (1 ≤ descW d 2 % 16384 ∧ descW d 2 % 16384 ≤ 9212)) && decide (14 ≤ total ∧ total ≤ 9212)

/-- The complete frame that TX ring k holds by what its memory shows (R420, R429). -/
def Dev.txFrame (s : Dev) (k : Nat) (v : RingView) : Option (List (List Nat)) :=
  let st := s.ringState k
  let tail := if st = 2 then (s.ring k).latch else s.fld (ringTail k) 15 0
  if (st ≠ 1 ∧ st ≠ 2) ∨ (s.ring k).job.isSome = true then none
  else
    let ds := v.descs.take (s.posted k tail)
    (txSpan true ds).map fun n => ds.take n

/-- HIF_TX_FETCH (R420, R421): endpoint e takes a frame from the next TX ring in turn that holds a complete one. -/
def execHifTxFetch (e : Nat) (views : List RingView) (s : State) : Host.Outcome State Fault Refusal :=
  onDev (fun s =>
    if 2 ≤ e ∨ s.dmaOk e = false ∨ s.pwr.phase ≠ .active then s
    else
      let from_ := smGet (fun _ => 0) s.hif.last e
      let order := (List.range 64).map fun i => 64 + (from_ + i) % 64
      let cand := order.filterMap fun k =>
        if s.ringEp k = e then (views.find? fun v => v.ring == k).bind fun v => (s.txFrame k v).map fun ds => (k, v, ds) else none
      match cand with
      | [] => s
      | (k, v, ds) :: _ =>
        let s := { s with hif := { s.hif with last := smSet (fun _ => 0) s.hif.last e ((k - 64 + 1) % 64) } }
        if txGood ds then
          let total := ds.foldl (fun n d => n + descW d 2 % 16384) 0
          s.setRing k { s.ring k with job := some { descs := ds, data := takePad total v.data } }
        else (s.txRecords k 1 ds).inc C.HIF_TX_BAD_DESC) s

/-- The time request of a transmit descriptor (R385, R419). -/
def descReq (d : List Nat) : TReq :=
  { tsr := bitsOf (descW d 2) 25 24, td := bitsOf (descW d 2) 22 20, tag := descW d 3 % 65536,
    ref := (descW d 4 + 2 ^ 32 * descW d 5) * 2 ^ 16 + descW d 6 % 16 * 2 ^ 12 }

/-- R561: host frames of an endpoint are copied to the standby, which drops its own. -/
def Dev.pairHost (s : Dev) (e : Nat) : Bool :=
  s.bit R.BOOT_STRAP 2 && s.bit R.PAIR_IN_HOST e && s.fld R.PAIR_CFG 31 30 == 1

/-- A host frame enters at P32 or P33. -/
def Dev.hostEnter (e : Nat) (v : FrameSt) (s : Dev) : Dev :=
  if s.pairHost e = true ∧ s.fld R.PAIR_STAT 31 28 = 2 then s.inc C.PAIR_GATED_DROP
  else
    let i : PairInput :=
      { port := v.inPort, rver := s.ruleVer, gver := s.curVer (R.PARS_LIVE 0), tc := v.tc,
        stamp := s.frcNow * 2 ^ 16, bytes := v.bytes }
    let s := if s.pairHost e = true ∧ s.fld R.PAIR_STAT 31 28 = 1 then { s with pair := { s.pair with inputs := s.pair.inputs ++ [i] } } else s
    s.enterFrame v

/-- Count a frame of ring k. -/
def Dev.ringCount (k n : Nat) (s : Dev) : Dev := (s.add64 (C.RING_FRAMES k) 1).add64 (C.RING_OCTETS k) n

/-- HIF_TX_COMPLETE (R422): the last byte of TX ring k's frame is in the cells. -/
def execHifTxComplete (k : Nat) (s : State) : Host.Outcome State Fault Refusal :=
  onDev (fun s =>
    match (s.ring k).job with
    | none => s
    | some j =>
      if k < 64 ∨ 128 ≤ k ∨ s.pwr.phase = .rest ∨ s.pwr.phase = .restExit then s
      else
        let d := j.descs.getD 0 []
        let tc := if (descW d 2).testBit 29 then bitsOf (descW d 2) 28 26 else s.fld (ringCfg k) 10 8
        let e := s.ringEp k
        let s := s.setRing k { s.ring k with job := none }
        let s := s.hostEnter e { bytes := j.data, inPort := 32 + e, tc := tc, req := descReq d }
        (s.txRecords k 0 j.descs).ringCount k j.data.length) s

/-- R423: a good RX descriptor. -/
def rxDescOk (d : List Nat) : Bool :=
  let n := descW d 2 % 16384
  descW d 0 % 64 == 0 && n % 64 == 0 && decide (256 ≤ n ∧ n ≤ 9216)

/-- R425: how `len` bytes lie over posted descriptors: none where they do not hold them. -/
def rxPlan : Nat → List (List Nat) → Option (List (Option Nat))
  | _, [] => none
  | len, d :: ds =>
    if rxDescOk d = false then (rxPlan len ds).map fun l => none :: l
    else
      let n := descW d 2 % 16384
      if len ≤ n then some [some len] else (rxPlan (len - n) ds).map fun l => some n :: l

/-- R426, R427: the data of a received frame, then its records. -/
def Dev.rxFinish (k : Nat) (j : RingJob) (s : Dev) : Dev :=
  let e := s.ringEp k
  let rows := j.descs.zip j.takes
  let s := (rows.foldl (fun (p : List Byte × Dev) r =>
    match r.2 with
    | none => p
    | some n => (p.1.drop n, p.2.emit (.dma e (descW r.1 0 + 2 ^ 32 * descW r.1 1) (p.1.take n)))) (j.data, s)).2
  let last := rows.length - 1
  let first := (rows.findIdx? fun r => r.2.isSome).getD 0
  let s := forL rows.zipIdx (fun r s =>
    match r.1.2 with
    | none => (s.ringRecord k [2 ^ 24, 0, 0, 0, 0, 0, 0, 0]).inc C.HIF_RX_BAD_DESC
    | some n =>
      let w0 := (if r.2 = first then 2 ^ 30 else 0) + (if r.2 = last then 2 ^ 29 else 0) + n
      s.ringRecord k (w0 :: ((if r.2 = last then takePadN 6 j.words else List.replicate 6 0) ++ [0]))) s
  let s := (s.modCount k).ringCount k j.data.length
  let s := s.setRing k { s.ring k with job := none }
  match j.copy with
  | some c => s.handedOver c
  | none => s
where
  /-- Exactly `n` numbers. -/
  takePadN (n : Nat) (l : List Nat) : List Nat := (l ++ List.replicate n 0).take n

/-- R424: the RX ring that steering gives a copy of endpoint e: none where it is dropped. -/
def Dev.steer (s : Dev) (e : Nat) (c : Copy) : Option Nat :=
  let v := s.rd (if e = 0 then R.HIF_STEER_A (c.q % 8) else R.HIF_STEER_B (c.q % 8))
  let k := if v.testBit 30 then (bitsOf v 21 16 + (c.hash / 256 % 256 &&& (2 ^ min 6 (v % 8) - 1))) % 64 else bitsOf v 21 16
  if v.testBit 31 = true ∧ s.ringEp k = e ∧ s.ringState k = 1 then some k else none

/-- The VLAN that a record shows: that of the pass, a free value where the pass made no VLAN lookup. -/
def Dev.recVid (v : FrameSt) (s : Dev) : Nat × Dev :=
  match v.vid with
  | some n => (n % 4096, s)
  | none => (s.draw.1.toNat % 4096, s.draw.2)

/-- R427: words 1 to 6 of a copy's EOP record. -/
def Dev.rxWords (c : Copy) (v : FrameSt) (len : Nat) (s : Dev) : List Nat × Dev :=
  match s.recVid v with
  | (vid, s) =>
    (([v.inPort % 64 * 2 ^ 24 + v.rver % 256 * 2 ^ 16 + c.q % 8 * 2 ^ 12 + vid, c.hash] ++ rawWords v.stamp) ++ [len], s)

/-- R424, R425: class t of endpoint e's port hands its head copy over, drops it, or waits; answers whether something
happened. `part` leaves the frame partly written. -/
def Dev.rxTry (e t ecc info : Nat) (part : Bool) (views : List RingView) (s : Dev) : Bool × Dev :=
  let q := 8 * (32 + e) + t
  match (s.qst q).sram with
  | [] => (false, s)
  | c :: _ =>
    if s.eligible (32 + e) t = false then (false, s)
    else
      let v := s.frame c.frame
      match s.steer e c with
      | none => (true, (((s.popHead q).cbsPay c).inc C.HIF_RX_NO_RING).dropCopy c)
      | some k =>
        let data := (s.editCopy c v).1
        let ds := ((views.find? fun w => w.ring == k).map (·.descs)).getD [] |>.take (s.posted k (s.fld (ringTail k) 15 0))
        let plan := if s.dmaOk e = true ∧ (s.ring k).job = none then rxPlan data.length ds else none
        match plan with
        | none =>
          if s.bit (ringCfg k) 24 = true ∧ (s.ring k).job = none then
            (true, (((s.popHead q).cbsPay c).inc C.HIF_RX_RING_FULL).dropCopy c)
          else (false, s)
        | some l =>
          let s := (s.popHead q).cbsPay c
          match s.readCopy c ecc info with
          | (false, s) => (true, s)
          | (true, s) =>
            match s.rxWords c v data.length with
            | (ws, s) =>
              let j : RingJob := { descs := ds.take l.length, data := data, copy := some c, takes := l, words := ws }
              (true, if part then s.setRing k { s.ring k with job := some j } else s.rxFinish k j)

/-- The RX ring of endpoint e whose frame is partly written. -/
def Dev.rxOpen (s : Dev) (e : Nat) : Option Nat :=
  (List.range 64).find? fun k => s.ringEp k == e && (s.ring k).job.isSome

/-- HIF_RX_DELIVER (R424 to R427): endpoint e finishes the frame it is writing, or takes the next copy of its port from the
highest class that can move. `part` leaves that frame partly written. -/
def execHifRxDeliver (e ecc info : Nat) (part : Bool) (views : List RingView) (s : State) : Host.Outcome State Fault Refusal :=
  onDev (fun s =>
    if 2 ≤ e then s
    else
      match s.rxOpen e with
      | some k =>
        if s.dmaOk e = false then s
        else
          match (s.ring k).job with
          | some j => s.rxFinish k j
          | none => s
      | none =>
        let s := forN 8 (fun t s => s.cleanHead (s.qst (8 * (32 + e) + t)).sram.length (8 * (32 + e) + t)) s
        ((List.range 8).reverse.foldl (fun (p : Bool × Dev) t =>
          if p.1 then p else p.2.rxTry e t ecc info part views) (false, s)).2) s

/-- The bytes of the oldest capture record, header and CAP_LEN bytes. -/
def Dev.capBytes (s : Dev) : List Byte :=
  let n := 32 + s.capOldest
  let u := s.rd R.CAP_RD % 2 ^ 20
  (((List.range ((n + 3) / 4)).flatMap fun i => leBytes 4 (s.tab T.cap ((u + i / 16) % 2 ^ 20) (i % 16)))).take n

/-- CAP_DRAIN_DELIVER (R361, R517): the oldest record goes to the ring that CAP_DRAIN names; `ecc` 1 is a corrected and 2 an
uncorrectable read of its DRAM word. -/
def execCapDrainDeliver (ecc word : Nat) (descs : List (List Nat)) (s : State) : Host.Outcome State Fault Refusal :=
  onDev (fun s =>
    let k := s.fld R.CAP_DRAIN 5 0
    let e := s.fld R.CAP_DRAIN 16 16
    if s.bit R.CAP_DRAIN 31 = false ∨ s.rd R.CAP_RECS = 0 ∨ s.bit R.DRAM_STAT 1 = true then s
    else if ecc = 2 then ((s.dramUncorr 2 word).inc C.CAP_DROP).capSkip
    else if s.ringEp k ≠ e ∨ s.ringState k ≠ 1 ∨ (s.ring k).job.isSome = true ∨ s.dmaOk e = false then s
    else
      let data := s.capBytes
      let ds := descs.take (s.posted k (s.fld (ringTail k) 15 0))
      match rxPlan data.length ds with
      | none => s
      | some l =>
        let s := if ecc = 1 then s.dramCorr 2 word else s
        match s.draw with
        | (w, s) =>
          let f := w.toNat
          let w1 := 37 * 2 ^ 24 + beAt data 7 1 * 2 ^ 16 + 2 ^ 15 + f % 2 ^ 15
          let ws := [w1, s.draw.1.toNat] ++ rawWords (beAt data 12 8 * 2 ^ 16 + beAt data 20 1 / 16 * 2 ^ 12) ++ [data.length]
          let s := s.draw.2.rxFinish k { descs := ds.take l.length, data := data, takes := l, words := ws }
          s.capSkip) s

/-- R429: a stopping ring stands at its completion point. -/
def Dev.ringAtPoint (s : Dev) (k : Nat) : Bool :=
  s.ringState k == 2 && (if k < 64 then (s.ring k).job.isNone else s.headOf k == (s.ring k).latch)

/-- R429: a stopping ring that stands at its completion point is STOPPED. -/
def Dev.ringPoint (k : Nat) (s : Dev) : Dev :=
  if s.ringAtPoint k then ((s.setFld (ringStat k) 23 16 0).ringGoto k 3).raise 0x40000 3 else s

/-- RING_STOPPED (R429): ring k reaches its completion point. -/
def execRingStopped (k : Nat) (s : State) : Host.Outcome State Fault Refusal :=
  onDev (fun s => if k < 128 then s.ringPoint k else s) s

/-- R430: a frame partly read or written is given up. -/
def Dev.ringDiscard (k : Nat) (s : Dev) : Dev :=
  match (s.ring k).job with
  | none => s
  | some j =>
    let s := s.setRing k { s.ring k with job := none }
    if 64 ≤ k then s.inc C.HIF_TX_ABORTED
    else
      match j.copy with
      | some c => (s.inc C.HIF_RX_ABORTED).dropCopy c
      | none => s.inc C.HIF_RX_ABORTED

/-- FORCE (R430). -/
def Dev.ringForce (k : Nat) (s : Dev) : Dev :=
  if s.ringState k = 1 ∨ s.ringState k = 2 then (s.ringDiscard k).ringGoto k 3 else s

/-- R429: ABORT. -/
def Dev.ringAbort (k : Nat) (s : Dev) : Dev :=
  if s.ringState k = 2 ∧ s.ringAtPoint k = false then
    (((s.setFld (ringStat k) 23 16 5).setFld (ringStat k) 15 8 0)).ringGoto k 1
  else s.setFld (ringStat k) 15 8 0x0B

/-- R428 to R430: a write of RING_CTRL: FORCE, then STOP with or without ABORT, then START. A STOP that finds the ring at its completion
point is that point. -/
def Dev.ringCtrl (k v : Nat) (s : Dev) : Dev :=
  let s := if v.testBit 1 then s.ringForce k else s
  let stops := v.testBit 0 && s.ringState k == 1
  let s :=
    if stops = true ∧ v.testBit 2 = true then (s.setFld (ringStat k) 23 16 5).setFld (ringStat k) 15 8 0
    else if stops then ((s.setRing k { s.ring k with latch := s.fld (ringTail k) 15 0 }).ringGoto k 2).ringPoint k
    else if v.testBit 2 then s.ringAbort k
    else s
  if v.testBit 3 = true ∧ s.ringState k = 3 then
    (if s.epOk (s.ringEp k) then s.ringGoto k 1 else s.ringErr k)
  else if v.testBit 3 = true ∧ s.epOk (s.ringEp k) = false then s.ringErr k
  else s

/-- A write of RING_CTRL of ring k. -/
def Dev.ringCtrlBy (r : Req) (k v : Nat) (s : Dev) : Dev :=
  if k < 128 then Dev.pairGuard r (k % 64) (ringReg k 0x14) (Dev.ringCtrl k v) s else s

/-- START (R428). -/
def execStart (r : Req) (k : Nat) (s : State) : Host.Outcome State Fault Refusal := onDev (Dev.ringCtrlBy r k 8) s

/-- STOP (R429); `abort` that the write sets ABORT too. -/
def execStop (r : Req) (k : Nat) (abort : Bool) (s : State) : Host.Outcome State Fault Refusal :=
  onDev (Dev.ringCtrlBy r k (if abort then 5 else 1)) s

/-- ABORT (R429). -/
def execAbort (r : Req) (k : Nat) (s : State) : Host.Outcome State Fault Refusal := onDev (Dev.ringCtrlBy r k 4) s

/-- FORCE (R430). (DEDUCED, log entry 58.) -/
def execForce (r : Req) (k : Nat) (s : State) : Host.Outcome State Fault Refusal := onDev (Dev.ringCtrlBy r k 2) s

/-- R428: a write of RING_CFG. -/
def Dev.ringCfgWrite (k v : Nat) (s : Dev) : Dev :=
  let o := ringCfg k
  let was := s.bit o 31
  let sz := if was then s.fld o 20 16 else bitsOf v 20 16
  let s := if was = true ∧ bitsOf v 20 16 ≠ s.fld o 20 16 then s.ringErr k else s
  let keep := (v &&& 0x01000700) + sz * 2 ^ 16
  if v.testBit 31 = false then
    let s := if was then s.ringForce k else s
    (s.wr o keep).ringGoto k 0
  else if was then s.wr o (keep + 2 ^ 31)
  else if sz < 4 ∨ 16 < sz ∨ s.rd (ringReg k 0) % 128 ≠ 0 ∨ s.epOk (s.ringEp k) = false then (s.wr o keep).ringErr k
  else
    let s := ((s.wr o (keep + 2 ^ 31)).wr (ringHead k) (2 ^ 16)).wr (ringTail k) 0
    (s.setRing k {}).ringGoto k 1

/-- RING_EN_WRITE (R428): a write of RING_CFG. -/
def execRingEnWrite (r : Req) (k v : Nat) (s : State) : Host.Outcome State Fault Refusal :=
  onDev (fun s => if k < 128 then Dev.pairGuard r (k % 64) (ringCfg k) (Dev.ringCfgWrite k v) s else s) s

/-- R428: BASE does not change while EN is 1. -/
def Dev.ringBaseWrite (k hi v : Nat) (s : Dev) : Dev :=
  if s.bit (ringCfg k) 31 then s.ringErr k
  else s.wr (ringReg k (4 * hi)) v

/-- R418: a TAIL write. -/
def Dev.ringTailWrite (k v : Nat) (s : Dev) : Dev :=
  if s.ringSize k ≤ v % 65536 then s.setBit (ringStat k) 1 true else s.wr (ringTail k) (v % 65536)

/-- RING_TAIL_WRITE (R418, R416): a TAIL write through the page or a doorbell alias. -/
def execRingTailWrite (r : Req) (k v : Nat) (s : State) : Host.Outcome State Fault Refusal :=
  onDev (fun s => if k < 128 then Dev.pairGuard r (k % 64) (ringTail k) (Dev.ringTailWrite k v) s else s) s

/-- R417: a write of RP_CFG of pair n. -/
def Dev.rpCfgWrite (r : Req) (n v : Nat) (s : Dev) : Dev :=
  let ep := s.fld (R.RP_CFG n) 30 30
  let w := v &&& 0x003FFF03
  if bitsOf v 30 30 = ep then s.wr (R.RP_CFG n) (w + ep * 2 ^ 30)
  else if r = .hst ∧ s.ringState n = 0 ∧ s.ringState (64 + n) = 0 then s.wr (R.RP_CFG n) (w + (1 - ep) * 2 ^ 30)
  else ((s.wr (R.RP_CFG n) (w + ep * 2 ^ 30)).ringErr n).ringErr (64 + n)

/-- RP_CFG_WRITE (R417). -/
def execRpCfgWrite (r : Req) (n v : Nat) (s : State) : Host.Outcome State Fault Refusal :=
  onDev (fun s => if n < 64 then Dev.pairGuard r n (R.RP_CFG n) (Dev.rpCfgWrite r n v) s else s) s

/-- DMA_ERR (R431): a DMA read of ring k ends in an error; `canWrite` that its record can still be written. -/
def execDmaErr (k : Nat) (canWrite : Bool) (s : State) : Host.Outcome State Fault Refusal :=
  onDev (fun s =>
    if 128 ≤ k ∨ (s.ringState k ≠ 1 ∧ s.ringState k ≠ 2) then s
    else
      let s := s.inc C.HIF_DMA_ERR
      let s := match (s.ring k).job with
        | none => s
        | some j =>
          let s := s.setRing k { s.ring k with job := none }
          if 64 ≤ k then (if canWrite then s.txRecords k 2 j.descs else s)
          else
            match j.copy with
            | some c => s.dropCopy c
            | none => s
      ((s.ringGoto k 4).setBit (ringStat k) 2 true).raise 0x40000 2) s

/-- R76: the ring stop of an endpoint. -/
def Dev.hifStop (e : Nat) (s : Dev) : Dev := forN 128 (fun k s => if s.ringEp k = e then s.ringForce k else s) s

/-- HIF_EPSTAT of an endpoint follows its environment; a change of LINK raises its event. -/
def Dev.epShow (e : Nat) (s : Dev) : Dev :=
  let o := if e = 0 then R.HIF_EPSTAT_A else R.HIF_EPSTAT_B
  let v := s.ep e
  let old := s.fld o 31 28
  let w := v.link % 16 * 2 ^ 28 + v.gen % 16 * 2 ^ 16 + v.width % 8 * 2 ^ 8 + (if v.bme1 then 2 else 0) + if v.d3hot1 then 1 else 0
  let s := s.wr o w
  if old = v.link % 16 then s else s.raise 0x40000 e

/-- WAKE_N of an endpoint is released (R434, R538). -/
def Dev.wakeRelease (e : Nat) (s : Dev) : Dev :=
  { s with pins := if e = 0 then { s.pins with wakeA := false } else { s.pins with wakeB := false } }

/-- PERST_N of an endpoint. -/
def Dev.perst (s : Dev) (e : Nat) : Bool := if e = 0 then s.pins.perstA else s.pins.perstB

/-- R113, R114: what endpoint e answers to a configuration request. -/
def Dev.configAnswer (s : Dev) (e : Nat) : CfgAnswer :=
  if s.perst e = false ∨ (smGet (fun _ => ({} : EpEnv)) s.eps e).link = 0 then .none
  else if s.failed then .pf0
  else if s.pwr.hostRel then .all
  else .retry

/-- PCIE_LINK_CHANGE (R434, R449): endpoint e's link, enables, D-states or masks change. While its PERST_N is low its link
is down (R611). -/
def execPcieLinkChange (e : Nat) (env : EpEnv) (s : State) : Host.Outcome State Fault Refusal :=
  onDev (fun s =>
    if 2 ≤ e then s
    else
      let v := if s.perst e then env else { env with link := 0 }
      let s := { s with eps := smSet (fun _ => ({} : EpEnv)) s.eps e v }
      let s := s.epShow e
      let s := if v.link = 2 then s.wakeRelease e else s
      s.intcSettle) s

/-- HST_COPY_TAKE (R26, R300): the Headstock's firmware takes the next copy of P35. -/
def execHstCopyTake (ecc info : Nat) (s : State) : Host.Outcome State Fault Refusal :=
  onDev (fun s =>
    if s.fld R.HST_STAT 31 28 ≠ 0 then s
    else
      match s.takeCopy 35 with
      | (none, s) => s
      | (some c, s) =>
        match s.readCopy c ecc info with
        | (false, s) => s
        | (true, s) => s.handedOver c) s

/-- HST_FRAME_SEND (R26, R385): the Headstock sends a frame at P35. -/
def execHstFrameSend (bytes : List Byte) (tc tsr td tag ref : Nat) (s : State) : Host.Outcome State Fault Refusal :=
  onDev (fun s =>
    if s.fld R.HST_STAT 31 28 ≠ 0 ∨ s.pwr.phase ≠ .active ∨ bytes.length < 14 ∨ 9212 < bytes.length then s
    else
      let req : TReq := { tsr := tsr % 4, td := td % 8, tag := tag % 65536, ref := ref % 2 ^ 68 * 2 ^ 12 }
      s.enterFrame { bytes := bytes, inPort := 35, tc := tc % 8, req := req }) s

end Sys2Proof.Machine
end

