-- ==== Sys2Proof/Machine/Time.lean ====
section
/-! DEFINITION. The time unit's commands (chapter 16): live reads, domains, pulse outputs, captures, the keeper and the
CLK32K_IN ratio. -/

namespace Sys2Proof.Machine

/-- Sync (2 n) and Announce (2 n + 1) templates of domain n (R393). -/
def T.keepTpl (j : Nat) : Nat := 0x100 + j

/-- R13: the value that a requester's holding register of an offset returns. -/
def Dev.heldAs (s : Dev) (r : Req) (off : Nat) : Nat := (smGet (fun _ => (0 : Word)) s.held (r.id * 2 ^ 24 + off)).toNat

/-- R13: fill a requester's holding register of an offset. -/
def Dev.holdAs (r : Req) (off v : Nat) (s : Dev) : Dev :=
  { s with held := smSet (fun _ => (0 : Word)) s.held (r.id * 2 ^ 24 + off) (BitVec.ofNat 32 v) }

/-- R369: a read of TIME_FRC0. -/
def Dev.frc0Read (r : Req) (s : Dev) : Dev :=
  let f := s.time.frc
  ((s.holdAs r (R.TIME_FRC 1) (f / 2 ^ 32)).holdAs r (R.TIME_FRC 2) (f / 2 ^ 64)).answer (f % 2 ^ 32)

/-- TIME_FRC0_READ (R369). -/
def execTimeFrc0Read (r : Req) (s : State) : Host.Outcome State Fault Refusal :=
  onDev (fun s => if s.reach r (R.TIME_FRC 0) then s.frc0Read r else s.answer 0) s

/-- R376: a read of TD_S_LO of domain k. -/
def Dev.tdSLoRead (r : Req) (k : Nat) (s : Dev) : Dev :=
  let w := domWords (s.dom k).t
  let s := ((s.holdAs r (R.TD_S_HI k) (w.getD 2 0)).holdAs r (R.TD_NS k) (w.getD 0 0)).holdAs r (R.TD_FRAC k) (w.getD 3 0)
  s.answer (w.getD 1 0)

/-- TD_S_LO_READ (R376). -/
def execTdSLoRead (r : Req) (k : Nat) (s : State) : Host.Outcome State Fault Refusal :=
  onDev (fun s => if k < 8 ∧ s.reach r (R.TD_S_LO k) = true then s.tdSLoRead r k else s.answer 0) s

/-- R376: the FRC and all domains are latched. -/
def Dev.xsnap (s : Dev) : Dev :=
  let f := s.time.frc
  let s := forN 3 (fun i s => s.wr (R.TIME_XS_FRC i) (f / 2 ^ (32 * i))) s
  let s := forN 8 (fun k s =>
    let w := domWords (s.dom k).t
    (((s.wr (R.TD_XS_S_LO k) (w.getD 1 0)).wr (R.TD_XS_S_HI k) (w.getD 2 0)).wr (R.TD_XS_NS k) (w.getD 0 0)).wr (R.TD_XS_FRAC k) (w.getD 3 0)) s
  s.raise 0x10000 8

/-- XSNAP (R376): a write of TIME_CTRL.XSNAP. (DEDUCED, log entry 59.) -/
def execXsnap (r : Req) (s : State) : Host.Outcome State Fault Refusal :=
  onDev (Dev.guarded r R.TIME_CTRL Dev.xsnap) s

/-- R565: this standby steers domain k, and a write by another requester counts instead. -/
def Dev.steered (s : Dev) (k : Nat) : Bool :=
  s.bit R.BOOT_STRAP 2 && s.fld R.PAIR_STAT 31 28 == 2 && s.bit R.PAIR_TIME_MAP k

/-- R565: a write to RATE, TD_ADJ or STEP of a steered domain has no effect. -/
def Dev.unlessSteered (k : Nat) (f : Dev → Dev) (s : Dev) : Dev :=
  if s.steered k then s.inc C.PAIR_TIME_WR_REFUSED else f s

/-- The largest RATE, 1,000 ppm: 2^48 / 1,000 to the nearest integer (R372; DEDUCED, log entry 100). -/
def rateMax : Int := 0x4189374BC7

/-- Both RATE registers read a rate. -/
def Dev.showRate (k : Nat) (rate : Int) (s : Dev) : Dev :=
  let v := unsgn 48 rate
  (s.wr (R.TD_RATE_LO k) v).wr (R.TD_RATE_HI k) (v / 2 ^ 32)

/-- R372: domain k runs at a rate, held at the limit. -/
def Dev.rateSet (k : Nat) (rate : Int) (s : Dev) : Dev :=
  let eff := clampInt (-rateMax) rateMax rate
  let s := s.mark k
  let s := (s.setDom k { s.dom k with rate := eff }).showRate k eff
  if eff = rate then s else (s.setBit (R.TD_STAT k) 2 true).raise 0x10000 1

/-- R372, R394: a write of TD_RATE_HI. -/
def Dev.rateHiWrite (k v : Nat) (s : Dev) : Dev :=
  (s.rateSet k (sgn 48 (v % 65536 * 2 ^ 32 + s.rd (R.TD_RATE_LO k)))).setBit (R.TD_STAT k) 31 false

/-- TD_RATE_HI_WRITE (R372). -/
def execTdRateHiWrite (r : Req) (k v : Nat) (s : State) : Host.Outcome State Fault Refusal :=
  onDev (fun s =>
    if k < 8 then Dev.guarded r (R.TD_RATE_HI k) (Dev.unlessSteered k (Dev.rateHiWrite k v)) s else s) s

/-- The modes of TOUT_CFG (R388). -/
def Dev.toutMode (s : Dev) (k : Nat) : Nat := s.fld (R.TOUT_CFG k) 29 28
/-- START of an output in ns. -/
def Dev.toutStart (s : Dev) (k : Nat) : Nat := s.rd64 (R.TOUT_START_S_LO k) * 10 ^ 9 + s.fld (R.TOUT_START_NS k) 29 0
/-- The next pulse instant of an output plus one; 0: none. -/
def Dev.toutNext (s : Dev) (k : Nat) : Nat := smGet (fun _ => 0) s.time.toutNext k
/-- Store an output's next pulse instant plus one. -/
def Dev.setToutNext (k v : Nat) (s : Dev) : Dev :=
  { s with time := { s.time with toutNext := smSet (fun _ => 0) s.time.toutNext k v } }

/-- R558: output k is not driven. -/
def Dev.toutGated (s : Dev) (k : Nat) : Bool := s.roleHeld && s.bit R.PAIR_GATE_PIN1 k

/-- Output k goes inactive at once, a pulse in progress included (R388, R389). -/
def Dev.toutQuiet (k : Nat) (s : Dev) : Dev :=
  let on := decide (s.time.frc < smGet (fun _ => 0) s.time.toutEnd k)
  let s := if on = false ∨ s.toutGated k = true then s else s.emit (.pins "TOUT" [k, 0, s.fld (R.TOUT_CFG k) 16 16])
  { s with time := { s.time with toutEnd := smSet (fun _ => 0) s.time.toutEnd k 0 } }

/-- MODE returns to OFF. -/
def Dev.toutOff (k : Nat) (s : Dev) : Dev :=
  (((s.setFld (R.TOUT_CFG k) 29 28 0).setBit (R.TOUT_STAT k) 31 false).setToutNext k 0)

/-- The first instant of an output at least 1 µs ahead of its domain (R388). -/
def Dev.toutFirst (s : Dev) (k : Nat) : Nat :=
  let a := s.domNow (s.fld (R.TOUT_CFG k) 26 24) + 1000
  let st := s.toutStart k
  let p := max 1 (s.rd (R.TOUT_PERIOD k))
  if a ≤ st then st else st + (a - st + p - 1) / p * p

/-- TOUT_STAT.CFG_ERR. -/
def Dev.toutErr (k : Nat) (s : Dev) : Dev := s.setBit (R.TOUT_STAT k) 30 true

/-- R388: a PERIOD and WIDTH that a mode takes. -/
def Dev.toutOk (s : Dev) (k mode : Nat) : Bool :=
  let p := s.rd (R.TOUT_PERIOD k)
  let w := s.rd (R.TOUT_WIDTH k)
  decide (10 ≤ w) && (mode != 2 || (decide (100 ≤ p) && decide (p ≤ 4000000000) && decide (w + 10 ≤ p)))

/-- R388: a write of TOUT_CFG. -/
def Dev.toutCfgWrite (k v : Nat) (s : Dev) : Dev :=
  let o := R.TOUT_CFG k
  let mode := bitsOf v 29 28
  let armed := s.toutMode k != 0
  let other := v &&& 0x07010000
  let s := if armed = true ∧ other ≠ (s.rd o &&& 0x07010000) then s.toutErr k else s
  let s := if armed then s else s.wr o ((s.rd o &&& 0x30000000) + other)
  if mode = 0 then (s.toutOff k).toutQuiet k
  else if s.toutOk k mode = false then ((s.toutOff k).toutErr k)
  else
    let s := (s.setFld o 29 28 mode).setBit (R.TOUT_STAT k) 31 true
    s.setToutNext k (if mode = 1 then s.toutStart k + 1 else if mode = 2 then s.toutFirst k + 1 else 0)

/-- TOUT_ARM (R388): a write of TOUT_CFG of output k. -/
def execToutArm (r : Req) (k v : Nat) (s : State) : Host.Outcome State Fault Refusal :=
  onDev (fun s => if k < 8 then Dev.guarded r (R.TOUT_CFG k) (Dev.toutCfgWrite k v) s else s) s

/-- R388: START, PERIOD and WIDTH do not change while MODE is not OFF. -/
def Dev.toutRegWrite (k off v : Nat) (s : Dev) : Dev := if s.toutMode k ≠ 0 then s.toutErr k else s.plainWrite off v

/-- R388: a pulse of output k begins now; its end is measured on the FRC. -/
def Dev.toutPulse (k : Nat) (s : Dev) : Dev :=
  let w := s.rd (R.TOUT_WIDTH k)
  let s := if s.toutGated k then s else s.emit (.pins "TOUT" [k, w, s.fld (R.TOUT_CFG k) 16 16])
  { s with time := { s.time with toutEnd := smSet (fun _ => 0) s.time.toutEnd k (s.time.frc + w * 2 ^ 16) } }

/-- TOUT_PULSE (R388): the instant of output k has come in its domain. -/
def execToutPulse (k : Nat) (s : State) : Host.Outcome State Fault Refusal :=
  onDev (fun s =>
    let m := s.toutMode k
    let td := s.fld (R.TOUT_CFG k) 26 24
    if 8 ≤ k ∨ (m ≠ 1 ∧ m ≠ 2) ∨ s.toutNext k = 0 ∨ s.time.run = false ∨ s.domOn td = false ∨ s.domNow td + 1 < s.toutNext k then s
    else if m = 1 then (s.toutPulse k).toutOff k
    else (s.toutPulse k).setToutNext k (s.toutNext k + s.rd (R.TOUT_PERIOD k))) s

/-- R389: output k's instants after its domain was stepped or enabled again. A ONCE instant less than 1 µs ahead is not given, and the
output stays armed without one. (DEDUCED, log entry 123.) -/
def Dev.toutResume (k : Nat) (stepped : Bool) (s : Dev) : Dev :=
  let now := s.domNow (s.fld (R.TOUT_CFG k) 26 24)
  let m := s.toutMode k
  let nx := s.toutNext k - 1
  if s.toutNext k = 0 then s
  else if m = 1 then
    if stepped = true ∧ nx ≤ now then ((s.inc C.TIME_TOUT_SKIP).raise 0x10000 5).toutOff k
    else if nx < now + 1000 then (Dev.when stepped (Dev.inc C.TIME_TOUT_SKIP) s).setToutNext k 0
    else s
  else if m = 2 then
    let f := s.toutFirst k
    let s := if stepped = true ∧ nx < f then s.inc C.TIME_TOUT_SKIP else s
    s.setToutNext k (f + 1)
  else s

/-- The outputs armed on domain k. -/
def Dev.toutsOf (s : Dev) (k : Nat) : List Nat :=
  (List.range 8).filter fun i => (s.toutMode i == 1 || s.toutMode i == 2) && s.fld (R.TOUT_CFG i) 26 24 == k

/-- What follows a step of domain k: gate lists, stream gates, schedules, outputs (R345, R332, R185, R389). -/
def Dev.afterStep (k : Nat) (s : Dev) : Dev :=
  let s := ((s.tsnStep k).sgStep k).ttsStep k
  forL (s.toutsOf k) (fun i s => s.toutResume i true) s

/-- R373: domain k takes a time. -/
def Dev.stepTo (k t : Nat) (s : Dev) : Dev :=
  let s := s.mark k
  let s := (s.setDom k { s.dom k with t := t, rem := 0 }).showRem k
  let s := ((s.inc (C.TD_STEPS k)).raise 0x10000 0).setBit (R.TD_STAT k) 31 false
  s.afterStep k

/-- R373: STEP. -/
def Dev.tdStep (k : Nat) (s : Dev) : Dev :=
  let ns := s.fld (R.TD_SET_NS k) 29 0
  let sec := s.rd64 (R.TD_SET_S_LO k)
  if 10 ^ 9 ≤ ns then s.setBit (R.TD_STAT k) 4 true
  else if s.bit (R.TD_CTRL k) 29 then s.stepTo k (domAdd (s.dom k).t ((sgn 64 sec * 10 ^ 9 + ns) * 2 ^ 64))
  else s.stepTo k (domAdd ((sec * 10 ^ 9 + ns) * 2 ^ 64) 0)

/-- R375, R53, R345, R389: EN of domain k changes. -/
def Dev.tdEnable (k : Nat) (en : Bool) (s : Dev) : Dev :=
  if s.domOn k = en then s
  else
    let s := (s.mark k).setBit (R.TD_CTRL k) 31 en
    let s := s.tsnDomain k
    let s := if en then forL (s.toutsOf k) (fun i s => s.toutResume i false) s else forL (s.toutsOf k) Dev.toutQuiet s
    if k = 0 then
      ({ s with turn := { s.turn with rebase := true } }.setBit R.TURN_STAT 0 en).raise 0x1000 3
    else s

/-- R373 to R375, R565: a write of TD_CTRL. -/
def Dev.tdCtrlWrite (k v : Nat) (s : Dev) : Dev :=
  let o := R.TD_CTRL k
  let s := s.mark k
  let s := s.wr o ((s.rd o &&& 0x80000000) + (v &&& 0x200003FF))
  let s := s.tdEnable k (v.testBit 31)
  if v.testBit 30 then Dev.unlessSteered k (Dev.tdStep k) s else s

/-- STEP (R373): a write of TD_CTRL with STEP set and its other fields as they stand, STEP_REL as given. -/
def execStep (r : Req) (k : Nat) (rel : Bool) (s : State) : Host.Outcome State Fault Refusal :=
  onDev (fun s =>
    if k < 8 then
      Dev.guarded r (R.TD_CTRL k) (fun s =>
        s.tdCtrlWrite k ((s.rd (R.TD_CTRL k) &&& 0x800003FF) + 2 ^ 30 + if rel then 2 ^ 29 else 0)) s
    else s) s

/-- TD_EN_WRITE (R375): a write of TD_CTRL. -/
def execTdEnWrite (r : Req) (k v : Nat) (s : State) : Host.Outcome State Fault Refusal :=
  onDev (fun s => if k < 8 then Dev.guarded r (R.TD_CTRL k) (Dev.tdCtrlWrite k v) s else s) s

/-- The remaining adjustment takes a value in ns units of 2^-64, held within its range (R374); answers whether it was held. -/
def Dev.adjSet (k : Nat) (rem : Int) (s : Dev) : Bool × Dev :=
  let lim : Int := (2 ^ 31 - 1) * 2 ^ 64
  let r := clampInt (-lim) lim rem
  let s := s.mark k
  (r != rem, (s.setDom k { s.dom k with rem := r }).showRem k)

/-- R374: a write of TD_ADJ. -/
def Dev.adjWrite (k v : Nat) (s : Dev) : Dev :=
  match s.adjSet k ((s.dom k).rem + sgn 32 v * 2 ^ 64) with
  | (true, s) => s.setBit (R.TD_STAT k) 3 true
  | (false, s) => s

/-- TD_ADJ_WRITE (R374). -/
def execTdAdjWrite (r : Req) (k v : Nat) (s : State) : Host.Outcome State Fault Refusal :=
  onDev (fun s => if k < 8 then Dev.guarded r (R.TD_ADJ k) (Dev.unlessSteered k (Dev.adjWrite k v)) s else s) s

/-- What is left of domain k's adjustment fits in one time-clock cycle (R374). -/
def Dev.adjLast (s : Dev) (k : Nat) : Bool :=
  s.domOn k && (s.dom k).rem != 0 && decide ((s.dom k).rem.natAbs ≤ ((cycleU : Int) * s.slew k).natAbs)

/-- ADJ_DONE (R374): the time-clock cycle in which domain k's adjustment reaches zero. -/
def execAdjDone (k : Nat) (s : State) : Host.Outcome State Fault Refusal :=
  onDev (fun s => if k < 8 ∧ s.time.run = true ∧ s.adjLast k = true then s.timeTick.linTick else s) s

/-- R391: where a capture of input i enters the FIFO: before those that higher inputs made in this cycle. -/
def Dev.tcapPut (i : Nat) (e : List Nat) (s : Dev) : Dev :=
  let later (x : List Nat) : Bool :=
    let j := bitsOf (x.getD 0 0) 26 24
    decide (i < j ∧ s.time.frc < smGet (fun _ => 0) s.time.lastCap j)
  let n := (s.time.tcap.reverse.takeWhile later).length
  let q := s.time.tcap
  { s with time := { s.time with tcap := q.take (q.length - n) ++ e :: q.drop (q.length - n) } }

/-- TCAP_EDGE (R390, R391): an edge on input i, `sub` FRC units into the cycle. -/
def execTcapEdge (i : Nat) (rise : Bool) (sub : Nat) (s : State) : Host.Outcome State Fault Refusal :=
  onDev (fun s =>
    let c := R.TCAP_CFG i
    let e := s.fld c 17 16
    if 8 ≤ i ∨ s.bit c 31 = false ∨ s.time.run = false ∨ e.testBit (if rise then 0 else 1) = false then s
    else
      let f := s.stampAt sub
      let last := smGet (fun _ => 0) s.time.lastCap i
      if (last ≠ 0 ∧ f + 1 - last < 50 * 2 ^ 16) ∨ 64 ≤ s.time.tcap.length then s.inc C.TIME_TCAP_OVF
      else
        let td := s.fld c 2 0
        let w0 := 2 ^ 31 + i * 2 ^ 24 + (if rise then 2 ^ 16 else 0) + td
        let s := s.tcapPut i (w0 :: (rawWords f ++ domWords (s.domAt td f)))
        let s := { s with time := { s.time with lastCap := smSet (fun _ => 0) s.time.lastCap i (f + 1) } }
        (s.wr R.TCAP_FIFO s.time.tcap.length).raise 0x10000 4) s

/-- R391: a read of TCAP_E0. -/
def Dev.tcapPop (s : Dev) : Dev :=
  match s.time.tcap with
  | [] => s.answer 0
  | e :: rest =>
    let s := { s with time := { s.time with tcap := rest } }
    let s := forN 7 (fun w s => s.wr (R.TCAP_E (w + 1)) (e.getD (w + 1) 0)) s
    (s.wr R.TCAP_FIFO rest.length).answer (e.getD 0 0)

/-- TCAP_POP (R391). -/
def execTcapPop (r : Req) (s : State) : Host.Outcome State Fault Refusal :=
  onDev (fun s => if s.reach r (R.TCAP_E 0) then s.tcapPop else s.answer 0) s

/-- R387: a read of TSF_E0. -/
def Dev.tsfPop (s : Dev) : Dev :=
  match s.time.tsf with
  | [] => s.answer 0
  | e :: rest =>
    let s := { s with time := { s.time with tsf := rest } }
    let s := forN 3 (fun w s => s.wr (R.TSF_E (w + 1)) (e.getD (w + 1) 0)) s
    (s.wr R.TSF_STAT rest.length).answer (e.getD 0 0)

/-- TSF_POP (R387). -/
def execTsfPop (r : Req) (s : State) : Host.Outcome State Fault Refusal :=
  onDev (fun s => if s.reach r (R.TSF_E 0) then s.tsfPop else s.answer 0) s

/-- R62, R387, R391: the level events of the time page hold while their FIFOs are not empty. -/
def Dev.timeLevels (s : Dev) : Dev :=
  let s := if s.time.tsf = [] then s else s.raise 0x10000 3
  if s.time.tcap = [] then s else s.raise 0x10000 4

/-- A domain's keeper. -/
def Dev.keeper (s : Dev) (d : Nat) : Keeper := smGet (fun _ => ({} : Keeper)) s.time.keep d

/-- Store a domain's keeper. -/
def Dev.setKeeper (d : Nat) (v : Keeper) (s : Dev) : Dev :=
  { s with time := { s.time with keep := smSet (fun _ => ({} : Keeper)) s.time.keep d v } }

/-- R393, R396: the frame of template j. -/
def Dev.keepFrame (s : Dev) (j : Nat) : List Byte :=
  let n := min 156 (s.tab (T.keepTpl j) 0 0 % 256)
  (((List.range 39).flatMap fun i => leBytes 4 (s.tab (T.keepTpl j) ((i + 1) / 20) ((i + 1) % 20)))).take n

/-- The keeper's ROLE in domain d: 1 MASTER, 2 SLAVE, with EN set. -/
def Dev.keepRole (s : Dev) (d : Nat) : Nat := if s.bit (R.KEEP_CFG d) 31 then s.fld (R.KEEP_CFG d) 30 29 else 0

/-- R135, R392: when a keeper's frame leaves port p: Tw later where its transmit side is in LPI. -/
def Dev.keepDepart (s : Dev) (p : Nat) : Nat :=
  (s.departAt p + if s.bit (R.ETH_STAT p) 6 then lpiWake (s.ethMode p) else 0) % 2 ^ 96

/-- The keeper sends a frame on port p, whose transmit side leaves LPI for it (R135, R393). -/
def Dev.keepSend (p : Nat) (bs : List Byte) (s : Dev) : Dev :=
  match (s.lpiExit p).secProtect p bs with
  | (none, s) => s
  | (some b, s) => (s.lineSend p (padded b)).lineBack p (padded b)

/-- R385: originTimestamp of a PTP message at `o` and its fraction, at a departure in domain d. -/
def Dev.originEdit (d dep o : Nat) (bs : List Byte) (s : Dev) : List Byte × Dev :=
  let w := domWords (s.domAt d dep)
  let b := putBe (putBe bs (o + 34) 6 (w.getD 1 0 + 2 ^ 32 * (w.getD 2 0 % 65536))) (o + 40) 4 (w.getD 0 0)
  s.addCf b o (w.getD 3 0)

/-- R393: the Sync and the Announce of domain d on port p. -/
def Dev.keepMaster (d syncSeq annSeq p : Nat) (s : Dev) : Dev :=
  if s.portUp p = false then s
  else
    let sy := s.keepFrame (2 * d)
    let an := s.keepFrame (2 * d + 1)
    let o := etherOff sy + 2
    let s := if sy = [] then s else
      match s.originEdit d (s.keepDepart p) o (putBe sy (o + 30) 2 syncSeq) with
      | (b, s) => (s.keepSend p b).add64 C.TIME_KEEP_SYNC_TX 1
    if an = [] then s else s.keepSend p (putBe an (etherOff an + 32) 2 annSeq)

/-- The sync interval of domain d, 2^(LOG - 4) s, in ns (R393). -/
def Dev.keepNs (s : Dev) (d : Nat) : Nat := 2 ^ s.fld (R.KEEP_CFG d) 11 8 * 10 ^ 9 / 16

/-- KEEP_SYNC_INTERVAL (R393): a sync interval of domain d's MASTER keeper has passed. -/
def execKeepSyncInterval (d : Nat) (s : State) : Host.Outcome State Fault Refusal :=
  onDev (fun s =>
    if 8 ≤ d ∨ s.pwr.keeper = false ∨ s.keepRole d ≠ 1 ∨ s.passed (s.keeper d).since (s.keepNs d) = false then s
    else
      let k := s.keeper d
      let sy := s.keepFrame (2 * d)
      let an := s.keepFrame (2 * d + 1)
      let a := (beAt sy (etherOff sy + 32) 2 + k.seqSync) % 65536
      let b := (beAt an (etherOff an + 32) 2 + k.seqAnn) % 65536
      let s := forN 32 (fun p s => if s.bit (R.KEEP_PORTS d) p then s.keepMaster d a b p else s) s
      let s := s.setKeeper d { k with seqSync := (k.seqSync + 1) % 65536, seqAnn := (k.seqAnn + 1) % 65536, since := s.time.frc }
      s.setFld (R.KEEP_STAT d) 15 0 (if an = [] then a else b)) s

/-- The ten bytes of a timestamp field, as seconds and nanoseconds of a domain time. -/
def ptpStamp (t : Nat) : List Byte :=
  let w := domWords t
  beBytes 6 (w.getD 1 0 + 2 ^ 32 * (w.getD 2 0 % 65536)) ++ beBytes 4 (w.getD 0 0)

/-- R393, after IEEE 802.1AS-2020: a Pdelay_Resp (type 3) or its Follow_Up (type 10) to the request at `o`, with a domain
time and the identity of the domain's Sync template. -/
def pdelayReply (ty : Nat) (req tpl : List Byte) (o t : Nat) : List Byte :=
  let ot := etherOff tpl + 2
  beBytes 6 0x0180C200000E ++ (tpl.drop 6).take 6 ++ beBytes 2 0x88F7 ++
    beBytes 1 (beAt req o 1 / 16 * 16 + ty) ++ (req.drop (o + 1)).take 1 ++ beBytes 2 54 ++ (req.drop (o + 4)).take 2 ++
    beBytes 2 (if ty = 3 then 0x0200 else 0) ++ beBytes 8 ((domWords t).getD 3 0) ++ (req.drop (o + 16)).take 4 ++
    (tpl.drop (ot + 20)).take 10 ++ (req.drop (o + 30)).take 2 ++ beBytes 1 5 ++ beBytes 1 0x7F ++ ptpStamp t ++
    (req.drop (o + 20)).take 10

/-- R393: a Pdelay_Req on a keep port. -/
def Dev.keepPdelay (d p o : Nat) (bs : List Byte) (stamp : Nat) (s : Dev) : Dev :=
  let tpl := s.keepFrame (2 * d)
  let dep := s.keepDepart p
  let s := s.keepSend p (pdelayReply 3 bs tpl o (s.domAt d stamp))
  (s.keepSend p (pdelayReply 10 bs tpl o (s.domAt d dep))).inc C.TIME_KEEP_PDELAY

/-- R393: a SLAVE keeper takes an offset, in units of 2^-64 ns. -/
def Dev.keepOffset (d : Nat) (o : Int) (s : Dev) : Dev :=
  let s := (s.add64 C.TIME_KEEP_SYNC_RX 1).setKeeper d { s.keeper d with since := s.time.frc }
  if o.natAbs ≤ 10 ^ 6 * 2 ^ 64 then (s.adjSet d o).2 else s.inc C.TIME_KEEP_REJECT

/-- The originTimestamp at `o`, in units of 2^-64 ns. -/
def originOf (bs : List Byte) (o : Nat) : Int := ((beAt bs (o + 34) 6 * 10 ^ 9 + beAt bs (o + 40) 4) * 2 ^ 64 : Nat)

/-- R393: a Sync or Follow_Up on the SLAVE_PORT of domain d; answers false where it is another message. -/
def Dev.keepSlave (d p o : Nat) (bs : List Byte) (stamp : Nat) (s : Dev) : Bool × Dev :=
  let ty := ptpType bs o
  let cf : Int := sgn 64 (beAt bs (o + 8) 8) * 2 ^ 48
  let seq := beAt bs (o + 30) 2
  let ld : Int := (s.rd (R.PTP_LINK_DELAY p) : Nat) * 2 ^ 48
  let k := s.keeper d
  if ty = 0 ∧ ptpTwoStep bs o = false then (true, s.keepOffset d (originOf bs o + cf + ld - s.domAt d stamp))
  else if ty = 0 then (true, s.setKeeper d { k with pendSync := some (seq, cf, s.domAt d stamp) })
  else
    match k.pendSync with
    | some (q, c, t) =>
      if ty = 8 ∧ q = seq then
        (true, (s.setKeeper d { k with pendSync := none }).keepOffset d (originOf bs o + c + cf + ld - t))
      else (false, s)
    | none => (false, s)

/-- R393: the keeper takes a trapped frame. -/
def Dev.keepTake (p : Nat) (bs : List Byte) (stamp : Nat) (s : Dev) : Dev :=
  let o := etherOff bs + 2
  let drop (s : Dev) : Dev := s.inc C.TIME_KEEP_DROP
  match s.ptpDomain (beAt bs (o + 4) 1) with
  | none => drop s
  | some d =>
    if s.bit (R.KEEP_CFG d) 31 = false then drop s
    else if ptpType bs o = 2 then s.keepPdelay d p o bs stamp
    else if s.keepRole d = 2 ∧ s.fld (R.KEEP_CFG d) 20 16 = p then
      match s.keepSlave d p o bs stamp with
      | (true, s) => s
      | (false, s) => drop s
    else drop s

/-- KEEP_FRAME_RX (R393): the keeper takes the oldest frame trapped to it. -/
def execKeepFrameRx (s : State) : Host.Outcome State Fault Refusal :=
  onDev (fun s =>
    match s.time.keepQ with
    | [] => s
    | (p, bs, stamp) :: rest => Dev.keepTake p bs stamp { s with time := { s.time with keepQ := rest } }) s

/-- KEEP_LOST (R393): a SLAVE keeper has had no Sync for four intervals. -/
def execKeepLost (d : Nat) (s : State) : Host.Outcome State Fault Refusal :=
  onDev (fun s =>
    if 8 ≤ d ∨ s.pwr.keeper = false ∨ s.keepRole d ≠ 2 ∨ s.passed (s.keeper d).since (4 * s.keepNs d) = false then s
    else (s.setBit (R.KEEP_STAT d) 31 true).raise 0x10000 7) s

/-- SLP_RATIO_MEASURE (R395): 2^20 ticks of CLK32K_IN took `span` FRC units. -/
def execSlpRatioMeasure (span : Nat) (s : State) : Host.Outcome State Fault Refusal :=
  onDev (fun s =>
    if s.pwr.phase ≠ .active then s
    else
      let v := if s.domOn 0 then ((span : Int) * s.slope 0 / 2 ^ 48).toNat else span
      (s.wr R.TIME_SLP_RATIO (v / 2 ^ 20)).setBit R.TIME_STAT 1 true) s

/-- R394: what the SLEEP entry saves: the FRC, the domains, their RATE registers with TD_CTRL, and the tick count. -/
def Dev.timeSave (s : Dev) : Dev :=
  let regs := (List.range 8).map fun k => s.reg (R.TD_CTRL k)
  let t := s.tailTick
  { s with time := { s.time with saved := some (s.time.frc, s.time.doms, regs, t) } }

/-- R394: the wake restores them, the ticks since then counted at TIME_SLP_RATIO. -/
def Dev.timeRestore (ratio : Nat) (s : Dev) : Dev :=
  match s.time.saved with
  | none => s
  | some (f, ds, regs, t) =>
    let ticks := (s.pwr.ticks + 2 ^ 32 - t) % 2 ^ 32
    let u := ticks * ratio / cycleU * cycleU
    let s := { s with time := { s.time with frc := (f + u) % 2 ^ 96, saved := none } }
    let s := forN 8 (fun k s =>
      let d := smGet (fun _ => ({} : TDom)) ds k
      let c := regs.getD k 0
      let s := (s.setReg (R.TD_CTRL k) ((s.reg (R.TD_CTRL k) &&& 0x20000000) ||| (c &&& 0x800003FF))).showRate k d.rate
      let adv : Int := if c.toNat.testBit 31 then (u : Int) * (2 ^ 48 + d.rate) else 0
      (s.setDom k { d with t := domAdd d.t adv, rem := 0, past := [] }).setBit (R.TD_STAT k) 31 true) s
    ((s.setBit R.TURN_STAT 0 (s.domOn 0)).setBit R.TIME_STAT 8 true).raise 0x10000 6

/-- SOFT_RST of the time page: counters and FIFOs empty, W1C bits clear. -/
def Dev.timeSoftRst (s : Dev) : Dev :=
  let s := forN 27 (fun k s => s.wr (0x10800 + 4 * k) 0) s
  let s := { s with time := { s.time with tsf := [], tcap := [] } }
  let s := ((s.wr R.TIME_CNT_SAT 0).wr R.TSF_STAT 0).wr R.TCAP_FIFO 0
  let s := s.setBit R.TIME_STAT 8 false
  forN 8 (fun k s =>
    ((s.wr (R.TD_STAT k) (s.rd (R.TD_STAT k) &&& 0x80000002)).setBit (R.TOUT_STAT k) 30 false).setBit (R.KEEP_STAT k) 31 false) s

end Sys2Proof.Machine
end

