-- ==== Sys2Proof/Machine/PowerReq.lean ====
section
/-! DEFINITION. Power requests (R521, R544), the start of an entry sequence (R522, R523, R528), and the turn registers' commands
(R49, R56). -/

namespace Sys2Proof.Machine

/-- A write that only HST and the owner of the page may make; any other counts (R521). -/
def Dev.ownerOnly (r : Req) (off : Nat) (f : Dev → Dev) (s : Dev) : Dev :=
  if s.reach r off = false then s
  else if r = .hst ∨ s.ownerOf off = r.id then (if s.ready off then s.cfgWrite r off f else s)
  else s.viol off

/-- REQ_ERR (R521); a refused request also raises its event. -/
def Dev.reqErr (refused : Bool) (s : Dev) : Dev :=
  let s := s.setBit R.PWR_STAT 10 true
  if refused then s.raise 0xA000 2 else s

/-- R544: the wake is confirmed. -/
def Dev.fwConfirm (s : Dev) : Dev :=
  if s.bit R.PWR_STAT 1 then (s.setBit R.PWR_STAT 1 false).wr R.PWR_FW_RUN 0 else s

/-- A request for REST or SLEEP becomes pending. -/
def Dev.pendFor (t : Nat) (s : Dev) : Dev := s.setFld R.PWR_STAT 27 24 (8 + t)

/-- R521: a request for a target by a requester ID. (DEDUCED, log entry 74.) -/
def Dev.pwrRequest (who t : Nat) (s : Dev) : Dev :=
  if t = 0 then (s.fwConfirm).wakeEvent 0xA who 0
  else if t = 3 then s.reqErr false
  else if s.pwr.phase = .active ∧ s.bit R.PWR_STAT 27 = false then
    if s.hstHalted = true ∨ (s.bit R.PWR_CFG 30 = true ∧ s.pins.vehMoving = true) ∨ s.stage ≠ 0xA then s.reqErr true
    else s.pendFor t
  else if t = 2 ∧ s.pwr.phase = .rest then (s.wakeEvent 0xA who 0).pendFor 2
  else s.reqErr false

/-- R521, R544: a write of PWR_CTRL. -/
def Dev.pwrCtrlWrite (who v : Nat) (s : Dev) : Dev :=
  let s := s.setFld R.PWR_CTRL 25 24 (bitsOf v 25 24)
  let s := if v.testBit 8 then s.fwConfirm else s
  if v.testBit 31 then s.pwrRequest who (bitsOf v 25 24) else s

/-- PWR_REQ_ACTIVE (R521): a write of PWR_CTRL with REQ and TARGET ACTIVE. -/
def execPwrReqActive (r : Req) (s : State) : Host.Outcome State Fault Refusal :=
  onDev (Dev.ownerOnly r R.PWR_CTRL (Dev.pwrCtrlWrite r.id 0x80000000)) s

/-- PWR_REQ_REST (R521): TARGET REST. -/
def execPwrReqRest (r : Req) (s : State) : Host.Outcome State Fault Refusal :=
  onDev (Dev.ownerOnly r R.PWR_CTRL (Dev.pwrCtrlWrite r.id 0x81000000)) s

/-- PWR_REQ_SLEEP (R521): TARGET SLEEP. -/
def execPwrReqSleep (r : Req) (s : State) : Host.Outcome State Fault Refusal :=
  onDev (Dev.ownerOnly r R.PWR_CTRL (Dev.pwrCtrlWrite r.id 0x82000000)) s

/-- CONFIRM (R544): a write of PWR_CTRL.CONFIRM, TARGET as it stands. -/
def execConfirm (r : Req) (s : State) : Host.Outcome State Fault Refusal :=
  onDev (Dev.ownerOnly r R.PWR_CTRL fun s => s.pwrCtrlWrite r.id (s.fld R.PWR_CTRL 25 24 * 2 ^ 24 + 0x100)) s

/-- FW_WINDOW_EXPIRY (R544): the window ends without a confirmation: the wake was false. -/
def execFwWindowExpiry (s : State) : Host.Outcome State Fault Refusal :=
  onDev (fun s =>
    if s.bit R.PWR_STAT 1 = false ∨ s.passed s.pwr.fwAt (s.fld R.PWR_FW_CFG 15 0 * 1000000) = false then s
    else
      let s := s.setBit R.PWR_STAT 1 false
      let cls := s.fld R.PWR_WAKE_REASON 28 24
      let idx := s.fld R.PWR_WAKE_REASON 21 16
      let same := s.bit R.PWR_FW_RUN 31 && s.fld R.PWR_FW_RUN 28 24 == cls && s.fld R.PWR_FW_RUN 21 16 == idx
      let n := if same then min 15 (s.fld R.PWR_FW_RUN 3 0 + 1) else 1
      let s := s.wr R.PWR_FW_RUN (2 ^ 31 + cls * 2 ^ 24 + idx * 2 ^ 16 + n)
      let lim := s.fld R.PWR_FW_CFG 27 24
      let s := if lim ≠ 0 ∧ n = lim then
          ((if cls = 1 then s.setBit R.PWR_FW_BLOCK0 idx true
            else s.setBit R.PWR_FW_BLOCK1 (if cls = 2 then idx else if cls = 3 then 8 + idx else 16 + idx) true)).raise 0xA000 4
        else s
      s.pwrRequest 0 s.pwr.from_) s

/-- R522: every channel whose NM engine is enabled has agreed, or the gate is off. -/
def Dev.nmAgreed (s : Dev) : Bool :=
  !s.bit R.PWR_CFG 31 || (List.range 24).all fun n => !s.bit (R.NM_CFG n) 31 || s.nmState n == 3

/-- R523 step 1, R528 step 1: the entry sequence for the pending target starts. -/
def Dev.entryStart (s : Dev) : Dev :=
  let t := s.fld R.PWR_STAT 25 24
  let wse := (List.range 16).foldl (fun m g => if s.bit (R.ETH_TC10 (12 + g)) 3 then m + 2 ^ g else m) 0
  let s := s.setPwr { s.pwr with
    phase := if t = 1 then .restEntry else .sleepEntry
    step := 0
    edgeAt := s.time.frc
    recorded := false
    tc10 := wse }
  let s := (s.setFld R.PWR_STAT 31 28 (if t = 1 then 1 else 4)).setBit R.PWR_STAT 0 false
  let s := { s with pins := { s.pins with inh0 := true, inh1 := true } }
  forN 24 Dev.canArm s

/-- R522: the edge's part of a pending request; `done` that TURN_HST_DONE was written in the turn that it ends. An engine that
is ACTIVATING keeps the entry from starting (R586). (DEDUCED, log entry 79.) -/
def Dev.entryEdge (done : Bool) (s : Dev) : Dev :=
  if s.pwr.phase = .active ∧ s.bit R.PWR_STAT 27 = true ∧ done = true ∧ s.nmAgreed = true ∧ s.upd.state ≠ 3 then s.entryStart else s

/-- R49: a write of TURN_CTRL: CLR_OVR, then APPLY. -/
def Dev.turnCtrlWrite (v : Nat) (s : Dev) : Dev :=
  let s := if v.testBit 1 then
      (((s.wr R.TURN_OVR_CNT 0).wr R.TURN_OVR_RUN 0).wr R.TURN_STEP_CNT 0).setFld R.TURN_STAT 5 4 0
    else s
  if v.testBit 0 then (s.setBit R.TURN_CTRL 0 true).setBit R.TURN_STAT 1 true else s

/-- TURN_APPLY (R49). -/
def execTurnApply (r : Req) (s : State) : Host.Outcome State Fault Refusal :=
  onDev (Dev.guarded r R.TURN_CTRL (Dev.turnCtrlWrite 1)) s

/-- CLR_OVR (R49). -/
def execClrOvr (r : Req) (s : State) : Host.Outcome State Fault Refusal :=
  onDev (Dev.guarded r R.TURN_CTRL (Dev.turnCtrlWrite 2)) s

/-- R56: the Headstock writes TURN_HST_DONE. -/
def Dev.hstDone (s : Dev) : Dev :=
  { s.setBit R.TURN_STAT 2 true with hst := { s.hst with doneAt := some ((s.hst.doneAt).getD s.time.frc) } }

/-- TURN_HST_DONE (R56). -/
def execTurnHstDone (r : Req) (s : State) : Host.Outcome State Fault Refusal :=
  onDev (Dev.hstOnly r R.TURN_HST_DONE Dev.hstDone) s

end Sys2Proof.Machine
end

