-- ==== Sys2Proof/Machine/Update.lean ====
section
/-! DEFINITION. The update engine's opcodes and the first steps of an activation (chapter 25). The flash devices lie
outside the package: what is programmed leaves through the xSPI pins, what is read back comes with the command. -/

namespace Sys2Proof.Machine

/-- Update the engine's record. -/
def Dev.setUpd (u : UpdSt) (s : Dev) : Dev := { s with upd := u }

/-- R575: the inactive slot. -/
def Dev.inactiveSlot (s : Dev) : Nat := if s.fld R.BOOT_STAT 7 6 = 0 then 1 else 0

/-- R576, R577: enter IDLE and free the lock. -/
def Dev.updIdle (s : Dev) : Dev := s.setUpd { s.upd with state := 0, holder := 7 }

/-- The checks common to the update opcodes (R574): mailbox, lock, and OWNER_LOCK of the BOOT page. -/
def Dev.updRefused (m : Nat) (ownLock : Bool) (s : Dev) : Bool :=
  s.cmbKeys m == false || (s.upd.holder != 7 && s.upd.holder != mbReq m) ||
  (ownLock && s.bit 0x8028 1 && s.ownerOf 0x8000 != mbReq m && s.ownerOf 0x8000 != 0xF)

/-- An update opcode: its refusals, its effect, and LAST. -/
def State.updCmd (m op : Nat) (ownLock : Bool) (f : State → Nat × List Nat × State) (s : State) : State :=
  s.runCmd m op fun s =>
    let r := if s.dev.updRefused m ownLock then (6, [], s) else f s
    (r.1, r.2.1, { r.2.2 with dev := r.2.2.dev.setUpd { r.2.2.dev.upd with last := r.1 } })

/-- PWR_STAT.VBAT_LOW. -/
def Dev.vbatLow (s : Dev) : Bool := s.bit R.PWR_STAT 9

/-- UPD_BEGIN (R578, R579). -/
def execUpdBegin (m : Nat) (s : State) : Host.Outcome State Fault Refusal :=
  .next (s.updCmd m 0x40 true fun s =>
    let d := s.dev
    let len := d.arg m 0
    if d.upd.state = 3 ∨ d.vbatLow = true then (2, [], s)
    else if len < 1024 ∨ 25165824 < len then (3, [], s)
    else
      let u := { d.upd with state := 1, holder := mbReq m, len := len, done := [], hdr := [], image := [] }
      (0, [d.inactiveSlot], { s with dev := (d.setUpd u).emit (.pins "xspi erase" [d.inactiveSlot, 0]) }))

/-- Whether two ranges meet. -/
def rangesMeet (a n b m : Nat) : Bool := decide (0 < n ∧ 0 < m ∧ a < b + m ∧ b < a + n)

/-- The bytes written since UPD_BEGIN. -/
def UpdSt.written (u : UpdSt) : Nat := u.done.foldl (fun t r => t + r.2) 0

/-- R579: the 4 KB units that a write of n bytes at an offset is the first to reach; the header unit is erased by UPD_BEGIN. -/
def UpdSt.newUnits (u : UpdSt) (off n : Nat) : List Nat :=
  ((List.range ((off + n + 4095) / 4096)).drop (max 1 (off / 4096))).filter fun k =>
    !u.done.any fun r => rangesMeet (4096 * k) 4096 r.1 r.2

/-- UPD_WRITE (R578, R579): a range of the inactive slot from the Bench. -/
def execUpdWrite (m : Nat) (s : State) : Host.Outcome State Fault Refusal :=
  .next (s.updCmd m 0x41 false fun s =>
    let d := s.dev
    let off := d.arg m 0
    let a := d.arg m 1
    let n := d.arg m 2
    if d.upd.state ≠ 1 ∨ d.vbatLow = true then (2, [], s)
    else if n < 4 ∨ 65536 < n ∨ off % 4 ≠ 0 ∨ n % 4 ≠ 0 ∨ d.upd.len < off + n ∨ bankBase 60 < a + n ∨
        d.upd.done.any (fun r => rangesMeet off n r.1 r.2) = true then (3, [], s)
    else
      let u := { d.upd with done := (off, n) :: d.upd.done }
      let out := Out.pins "xspi program" (d.inactiveSlot :: off :: (benchBytes s.bench a n).map (·.toNat))
      let d := forL (d.upd.newUnits off n) (fun k d => d.emit (.pins "xspi erase" [d.inactiveSlot, 4096 * k])) d
      (0, [u.written], { s with dev := (d.setUpd u).emit out }))

/-- UPD_FINISH (R581): the slot is read back as `img`. -/
def execUpdFinish (m : Nat) (img : List Word) (s : State) : Host.Outcome State Fault Refusal :=
  .next (s.updCmd m 0x42 false fun s =>
    let d := s.dev
    if d.upd.state ≠ 1 then (2, [], s)
    else
      let dig := d.argBytes m 0 8
      let st := if d.upd.written ≠ d.upd.len then 2
        else if sha3_256 (wordSlice img 0 d.upd.len) ≠ dig then 0xA
        else if hdrCode d (some img) ≠ 0 then 2 else 0
      if st = 0 then
        (0, [wordAt img 6, bitsOf (wordAt img 5) 6 0],
          { s with dev := d.setUpd { d.upd with state := 2, ev := d.upd.ev ||| 1, hdr := img } })
      else (st, [], { s with dev := d.updIdle }))

/-- The refusals of R582; `room` is whether the Headstock region has room for the new firmware. -/
def Dev.activateRefused (room : Bool) (s : Dev) : Bool :=
  s.upd.state != 2 || s.pins.vehMoving || s.vbatLow || s.bit R.PWR_STAT 27 || s.fld R.HST_STAT 31 28 != 0 ||
  bitsOf (wordAt s.upd.hdr 5) 31 16 != s.rd R.BOOT_EPOCH || !room ||
  decide (wordAt s.upd.hdr 6 ≤ s.rd (if s.fld R.BOOT_STAT 7 6 = 0 then R.BOOT_SEQ_A else R.BOOT_SEQ_B)) ||
  s.fld R.PAIR_STAT 31 28 == 1 || s.fld R.PAIR_STAT 31 28 == 3 || s.fld R.PAIR_STAT 31 28 == 4

/-- ACTIVATE (R582, R583, R584): the slot is read as `img`, none on a read error, and verified; the completion point
arms the pause. -/
def execActivate (m : Nat) (img : Option (List Word)) (room : Bool) (s : State) : Host.Outcome State Fault Refusal :=
  .next (s.updCmd m 0x43 true fun s =>
    let d := s.dev
    if d.activateRefused room then (2, [], s)
    else
      let bad (st : Nat) : Nat × List Nat × State :=
        (st, [], { s with dev := d.updIdle.emit (.pins "xspi erase" [d.inactiveSlot, 0]) })
      match img with
      | none => bad 2
      | some ws =>
        match (verifyImage s.vault.fuses ws).1 with
        | 0 => (0, [wordAt ws 6], { s with dev := d.setUpd { d.upd with state := 3, image := ws, pause := 1 } })
        | _ => bad 0xA)

/-- ACTIVATE_FW_LOADED (R584 steps 2 and 3, R588): HST_FW matches its recorded digest and the Headstock restarts on it, or
the old firmware resumes, UPD_FAIL sets and the slot stays STAGED. A STANDBY member skips the sections. -/
def execActivateFwLoaded (ok : Bool) (s : State) : Host.Outcome State Fault Refusal :=
  onDev (fun d =>
    if d.upd.pause = 2 then
      if ok then d.setUpd { d.upd with pause := if d.fld R.PAIR_STAT 31 28 = 2 then 5 else 3 }
      else d.setUpd { d.upd with pause := 0, state := 2, ev := d.upd.ev ||| 4 }
    else d) s

/-- UPD_FLOOR (R587). -/
def execUpdFloor (m : Nat) (burnOk : Bool) (s : State) : Host.Outcome State Fault Refusal :=
  .next (s.updCmd m 0x44 true fun s =>
    let d := s.dev
    let n := bitsOf (d.arg m 0) 6 0
    if n ≤ s.vault.fuses.floor ∨ d.runSecVer < n then (3, [], s)
    else if d.pins.vehMoving then (2, [], s)
    else if burnOk = false then (7, [], s)
    else (0, [n], { s with dev := d.wr R.BOOT_FLOOR n,
                           vault := { s.vault with fuses := { s.vault.fuses with floor := n } } }))

/-- The word of R589. -/
def Dev.updWord (s : Dev) : Nat :=
  s.upd.state * 2 ^ 28 + s.inactiveSlot * 2 ^ 27 + s.upd.holder * 2 ^ 24 + s.upd.last * 2 ^ 16 + s.upd.en * 2 ^ 8 +
    s.upd.ev

/-- UPD_STATUS (R589): the word as it stands, then events clear and enables are written. -/
def execUpdStatus (m : Nat) (s : State) : Host.Outcome State Fault Refusal :=
  onDev (Dev.runCmd m 0x45 fun d =>
    if d.cmbKeys m = false then (6, [], d)
    else
      let a0 := d.arg m 0 % 8
      let a1 := d.arg m 1
      let u := { d.upd with
        ev := (BitVec.ofNat 3 d.upd.ev &&& ~~~BitVec.ofNat 3 a0).toNat
        en := if a1.testBit 31 then a1 % 8 else d.upd.en }
      (0, [d.updWord, d.upd.written], d.setUpd u)) s

/-- UPD_CANCEL (R576, R578); in IDLE it is refused (DEDUCED, log entry 24). -/
def execUpdCancel (m : Nat) (s : State) : Host.Outcome State Fault Refusal :=
  .next (s.updCmd m 0x46 false fun s =>
    if s.dev.upd.state = 0 ∨ s.dev.upd.state = 3 then (2, [], s) else (0, [], { s with dev := s.dev.updIdle }))

end Sys2Proof.Machine
end

