-- ==== Sys2Proof/Machine/Glb.lean ====
section
/-! DEFINITION. The feature handshake (R72 to R77), aborts (R84) and the edges of PERST_N (R65, R611, R539). -/

namespace Sys2Proof.Machine

/-- FEAT_CTRL of a host, by its endpoint. -/
def featCtrl (e : Nat) : Nat := if e = 0 then R.FEAT_CTRL_A else R.FEAT_CTRL_B

/-- A register of a host's DRV_FEAT set. -/
def drvFeat (e k : Nat) : Nat := if e = 0 then R.DRV_FEAT_A k else R.DRV_FEAT_B k

/-- The host requester of an endpoint. -/
def hostOf (e : Nat) : Req := if e = 0 then .hosta else .hostb

/-- R76: the agreement ends, the PF1 rings begin their FORCE stop and the mailbox closes. -/
def Dev.featEnd (e : Nat) (s : Dev) : Dev := ((s.setFld (featCtrl e) 2 0 0).hifStop e).setBit (R.CMB_STAT e) 1 false

/-- R73: only the named host writes its DRV_FEAT set and FEAT_CTRL; PG_OWNER is judged as well (R63). -/
def Dev.featGuard (r : Req) (e : Nat) (f : Dev → Dev) (s : Dev) : Dev :=
  if s.reach r (featCtrl e) = false then s
  else if r ≠ hostOf e ∨ s.mayWrite r 0 = false then s.viol 0
  else f s

/-- R74, R76: a write of FEAT_CTRL: RENEG acts first, then DONE. FAIL of the last answer stays set until the next one.
(DESIGN CHOICE, log entry 113.) -/
def Dev.featCtrlWrite (e v : Nat) (s : Dev) : Dev :=
  let s := if v.testBit 8 then s.featEnd e else s
  if v.testBit 0 then s.setBit (featCtrl e) 0 true else s

/-- R73: a write of DRV_FEAT is ignored while DONE is 1. -/
def Dev.drvFeatWrite (e k v : Nat) (s : Dev) : Dev := if s.bit (featCtrl e) 0 then s else s.wr (drvFeat e k) v

/-- FEAT_REQUEST (R74). -/
def execFeatRequest (r : Req) (e : Nat) (s : State) : Host.Outcome State Fault Refusal :=
  onDev (fun s => if 2 ≤ e then s else s.featGuard r e (Dev.featCtrlWrite e 1)) s

/-- RENEG (R76). -/
def execReneg (r : Req) (e : Nat) (s : State) : Host.Outcome State Fault Refusal :=
  onDev (fun s => if 2 ≤ e then s else s.featGuard r e (Dev.featCtrlWrite e 0x100)) s

/-- R74: a request that may be granted: bit 0 and nothing that is not on offer. -/
def Dev.featGranted (s : Dev) (e : Nat) : Bool :=
  s.bit (drvFeat e 0) 0 && (List.range 4).all fun k => (s.rd (drvFeat e k) &&& s.offered k) == s.rd (drvFeat e k)

/-- R74: the answer: OK and an open mailbox, or FAIL with DONE cleared; FEAT_A or FEAT_B is raised. -/
def Dev.featAnswer (e : Nat) (s : Dev) : Dev :=
  if s.bit (featCtrl e) 0 = false ∨ s.bit (featCtrl e) 1 = true then s
  else if s.featGranted e then ((s.setFld (featCtrl e) 2 0 3).setBit (R.CMB_STAT e) 1 true).raise 0 (1 + e)
  else (s.setFld (featCtrl e) 2 0 4).raise 0 (1 + e)

/-- FEAT_ANSWER (R74). -/
def execFeatAnswer (e : Nat) (s : State) : Host.Outcome State Fault Refusal :=
  onDev (fun s => if 2 ≤ e then s else s.featAnswer e) s

/-- What an abort before the completion point takes back: the staged zone entries and the check of ZONE_SET (chapter 10), or the
staging that an UPD_WRITE has partly programmed (R580). -/
def Dev.abortUndo (m : Nat) (s : Dev) : Dev :=
  if s.cmbOp m = 0x20 then s.zoneUndo m
  else if s.cmbOp m = 0x41 then s.updIdle
  else s

/-- R84: whether the abort of mailbox m's outstanding command succeeds, and what the command then does. -/
def Dev.abortJudge (m : Nat) (s : Dev) : Bool × Dev :=
  if (s.mb m).taken then
    if s.cmbOp m ≤ 3 then (false, s) else (true, (s.abortUndo m).cmbFinish m 5 [])
  else
    match s.cmbJudge m with
    | some f => (false, f s)
    | none => if s.cmbOp m ≤ 3 then (false, s) else (true, s.cmbFinish m 5 [])

/-- R84: a write of CMB_ABORT: the TAG is stored; with REQ it is answered. -/
def Dev.abortWrite (m v : Nat) (s : Dev) : Dev :=
  let tag := bitsOf v 31 16
  if v.testBit 0 = false then s.setFld (R.CMB_ABORT m) 31 16 tag
  else
    let a := if s.cmbBusy m = true ∧ s.cmbTag m = tag then s.abortJudge m else (false, s)
    (a.2.wr (R.CMB_ABORT m) (tag * 2 ^ 16 + (if a.1 then 0 else 0x0B) * 2 ^ 8 + 2)).raise (0x2000 + 0x1000 * m) 1

/-- CMB_ABORT (R84). -/
def execCmbAbort (r : Req) (m v : Nat) (s : State) : Host.Outcome State Fault Refusal :=
  onDev (fun s => if 4 ≤ m then s else s.cmbGuard r m (Dev.abortWrite m v)) s

/-- The first pages of the window's units (R58). -/
def unitPages : List Nat := blkRows.flatMap fun r => (List.range r.inst).map fun i => r.base + i * r.pages * 0x1000

/-- R65, R506, R611: a requester's pages and Bench banks return to no owner; OWNER_LOST is raised if a page did. A page whose
OWNER_LOCK is set keeps its owner (R66). -/
def Dev.ownerLost (id : Nat) (s : Dev) : Dev :=
  let ps := unitPages.filter fun p => s.fld (p + 0x24) 3 0 == id && !s.bit (p + 0x28) 1
  let s := forL ps (fun p s => s.setFld (p + 0x24) 3 0 0xF) s
  let s := forN 60 (fun n s => if s.fld (R.BENCH_OWN n) 3 0 = id then s.setFld (R.BENCH_OWN n) 3 0 0xF else s) s
  if ps = [] then s else s.raise 0 0

/-- The level of an endpoint's PERST_N. -/
def Dev.setPerst (e : Nat) (v : Bool) (s : Dev) : Dev :=
  { s with pins := if e = 0 then { s.pins with perstA := v } else { s.pins with perstB := v } }

/-- R611: the effects of an assertion of PERST_N, in their order. (DEDUCED, log entry 88.) -/
def Dev.perstFall (e : Nat) (s : Dev) : Dev :=
  let s := (s.ownerLost (e + 1)).featEnd e
  let s := if s.upd.holder = e + 1 then s.updIdle else s
  let s := (s.wakeRelease e).setPwr { s.pwr with pulse := s.pwr.pulse.filter (· != e) }
  let s := { s with eps := smSet (fun _ => ({} : EpEnv)) s.eps e { s.ep e with link := 0 } }
  let s := (s.epShow e).setBit R.INTC_TGT_SLEEP (e + 1) false
  let s := { s with intc := { s.intc with seen := s.intc.seen.filter (· != e + 1), waking := s.intc.waking.filter (· != e + 1) } }
  (s.intcRelease (e + 1)).intcSettle

/-- PERST_ASSERT (R611). -/
def execPerstAssert (e : Nat) (s : State) : Host.Outcome State Fault Refusal :=
  onDev (fun s =>
    if 2 ≤ e ∨ s.perst e = false then s
    else if s.fabricOn then (s.setPerst e false).perstFall e
    else s.setPerst e false) s

/-- PERST_RISE (R538, R539, R450): the host wake's pulse ends; in SLEEP the edge is a wake source; a wake that waited acts. -/
def execPerstRise (e : Nat) (s : State) : Host.Outcome State Fault Refusal :=
  onDev (fun s =>
    if 2 ≤ e ∨ s.perst e = true then s
    else
      let s := s.setPerst e true
      if s.pins.porst = false then s
      else
        let s := if s.pwr.pulse.contains e then
            (s.wakeRelease e).setPwr { s.pwr with pulse := s.pwr.pulse.filter (· != e) }
          else s
        let s := s.wakeEvent 8 e 0
        if s.fabricOn then s.intcSettle else s) s

end Sys2Proof.Machine
end

