-- ==== Sys2Proof/Machine/PairCmd.lean ====
section
/-! DEFINITION. Epmel frames (R552) and the commands of the pair page (R562, R569, R572). -/

namespace Sys2Proof.Machine

/-- Frame types of R552. -/
def E.hello : Nat := 1
/-- BEAT. -/
def E.beat : Nat := 2
/-- JOURNAL. -/
def E.journal : Nat := 3
/-- RESYNC. -/
def E.resync : Nat := 4
/-- RESYNC_CTL. -/
def E.ctl : Nat := 5
/-- INPUT. -/
def E.input : Nat := 6
/-- RACC. -/
def E.racc : Nat := 7
/-- RACC_RSP. -/
def E.rsp : Nat := 8

/-- The header of a frame of a type (R552). -/
def eplHeader (ty len : Nat) (h : EplHdr) : List Byte :=
  [BitVec.ofNat 8 (0x10 + ty % 16),
    BitVec.ofNat 8 ((if h.rank then 128 else 0) + h.state % 8 * 16 + if h.role then 8 else 0)] ++
  beBytes 2 len ++ beBytes 4 h.seq ++ beBytes 2 h.frag ++ beBytes 2 h.nfrag ++ beBytes 4 h.turn

/-- The words of a BEAT and of journal records as payload bytes (R10, R553). -/
def natBytes (ws : List Nat) : List Byte := ws.flatMap (leBytes 4)

/-- The words of a HELLO, a RESYNC_CTL or an INPUT payload, in network byte order (R11). -/
def wireBytes (ws : List Nat) : List Byte := ws.flatMap (beBytes 4)

/-- The link is up. -/
def Dev.eplUp (s : Dev) : Bool := s.bit R.BOOT_STRAP 2 && s.epmelOn && s.portState 3 == 2

/-- The frames of a type sent so far. -/
def Dev.eplSeq (s : Dev) (ty : Nat) : Nat := smGet (fun _ => 0) s.pair.seqs ty

/-- Send a frame on P3 (R552). Under LOOP MAC none comes back (DESIGN CHOICE, log entry 108). -/
def Dev.eplSend (ty seq frag nfrag : Nat) (pay : List Byte) (s : Dev) : Dev :=
  if s.eplUp = false then s
  else
    let h : EplHdr :=
      { rank := s.bit R.PAIR_STAT 22, state := s.pairState, role := s.bit R.PAIR_STAT 27, seq := seq, frag := frag,
        nfrag := nfrag, turn := s.rd R.TURN_CNT_LO }
    let bs := eplHeader ty pay.length h ++ (if pay.length < 44 then takePad 44 pay else pay)
    (s.setPair { s.pair with seqs := smSet (fun _ => 0) s.pair.seqs ty ((s.eplSeq ty + 1) % 2 ^ 32) }).lineSend 3 bs

/-- Send one frame that is its whole set, numbered by its type. -/
def Dev.eplOne (ty : Nat) (pay : List Byte) (s : Dev) : Dev := s.eplSend ty (s.eplSeq ty) 0 1 pay

/-- The member enters RESYNC and asks for a bulk resync (R560, R562). -/
def Dev.resyncAsk (s : Dev) : Dev := (s.pairGoto 4).eplOne E.ctl (wireBytes [1])

/-- R562, R569: a write of PAIR_CTRL. -/
def Dev.pairCtrlWrite (v : Nat) (s : Dev) : Dev :=
  let s := (s.setBit R.PAIR_CTRL 0 (v.testBit 0)).pairGoto s.pairState
  let s :=
    if v.testBit 2 = false then s
    else if s.pairState = 1 ∧ s.fld R.PAIR_PARTNER 6 4 = 2 then s.setPair { s.pair with hand := true }
    else s.setBit R.PAIR_STAT 0 true
  if v.testBit 1 = true ∧ (s.pairState = 2 ∨ s.pairState = 3) ∧ s.hstHalted = false then s.resyncAsk else s

/-- PAIR_SWITCH (R569): a write of PAIR_CTRL with SWITCH set, FORCE as it stands. -/
def execPairSwitch (r : Req) (s : State) : Host.Outcome State Fault Refusal :=
  onDev (Dev.guarded r R.PAIR_CTRL fun s => s.pairCtrlWrite (s.rd R.PAIR_CTRL % 2 + 4)) s

/-- PAIR_RESYNC (R562): a write of PAIR_CTRL with RESYNC set, FORCE as it stands. -/
def execPairResync (r : Req) (s : State) : Host.Outcome State Fault Refusal :=
  onDev (Dev.guarded r R.PAIR_CTRL fun s => s.pairCtrlWrite (s.rd R.PAIR_CTRL % 2 + 2)) s

/-- R572: HST and the page's owner run remote accesses; while the page has no owner, a write by another has no effect. -/
def Dev.raccGuard (r : Req) (f : Dev → Dev) (s : Dev) : Dev :=
  Dev.guarded r R.PAIR_RACC_CMD (fun s => if r = .hst ∨ s.ownerOf R.PAIR_RACC_CMD = r.id then f s else s) s

/-- A remote access ends with a status (R572). -/
def Dev.raccEnd (status : Nat) (s : Dev) : Dev :=
  (s.wr R.PAIR_RACC_CMD (status * 2 ^ 16 + s.fld R.PAIR_RACC_CMD 1 0)).raise 0x128000 8

/-- R572: a write of PAIR_RACC_CMD. OP takes the code written; 0b00 and 0b11 start nothing. -/
def Dev.raccWrite (v : Nat) (s : Dev) : Dev :=
  let op := v % 4
  if s.bit R.PAIR_RACC_CMD 31 = true then s
  else
    let s := s.setFld R.PAIR_RACC_CMD 1 0 op
    if op = 0 ∨ op = 3 then s
    else if s.pairState = 0 then s.raccEnd 1
    else
      ((s.setPair { s.pair with raccAt := s.time.frc }).wr R.PAIR_RACC_CMD (2 ^ 31 + op)).eplOne E.racc
        (Config.raccSeal (op == 2) (s.fld R.PAIR_RACC_ADDR 23 0) (s.rd R.PAIR_RACC_DATA))

/-- RACC_READ (R572). -/
def execRaccRead (r : Req) (s : State) : Host.Outcome State Fault Refusal := onDev (Dev.raccGuard r (Dev.raccWrite 1)) s

/-- RACC_WRITE (R572). -/
def execRaccWrite (r : Req) (s : State) : Host.Outcome State Fault Refusal := onDev (Dev.raccGuard r (Dev.raccWrite 2)) s

/-- R572: a RACC_RSP arrives with the data of a READ. -/
def Dev.raccAnswer (v : Nat) (s : Dev) : Dev :=
  if s.bit R.PAIR_RACC_CMD 31 = false then s
  else ((if s.fld R.PAIR_RACC_CMD 1 0 = 1 then s.wr R.PAIR_RACC_DATA v else s)).raccEnd 0

/-- RACC_RSP_RX (R572). -/
def execRaccRspRx (v : Nat) (s : State) : Host.Outcome State Fault Refusal := onDev (Dev.raccAnswer v) s

/-- RACC_TIMEOUT (R572): 100 µs without an answer. -/
def execRaccTimeout (s : State) : Host.Outcome State Fault Refusal :=
  onDev (fun s => if s.bit R.PAIR_RACC_CMD 31 = true ∧ s.passed s.pair.raccAt 100000 = true then s.raccEnd 2 else s) s

end Sys2Proof.Machine
end

