-- ==== Sys2Proof/Machine/Window.lean ====
section
/-! DEFINITION. The table access windows (R67 to R71) and the tables that each block puts behind its window. -/

namespace Sys2Proof.Machine

/-- The windows: one a block, a window for each TSN page, the stream window of TSN[0] and the shadow window of FWD. -/
inductive Win where
  | gwy | tts | pars | rule | flow | fwd | shd | strm | mir | cpe | key | time
  | tsn (n : Nat)
  deriving DecidableEq, Repr

/-- The offset of a window's TAW_SEL. -/
def Win.base : Win → Nat
  | .gwy => 0x78080 | .tts => 0x74080 | .pars => 0x80080 | .rule => 0x88080 | .flow => 0x90080 | .fwd => 0x98080
  | .shd => 0x98100 | .strm => 0xB0180 | .mir => 0xE0080 | .cpe => 0xF0080 | .key => 0x108080 | .time => 0x13100
  | .tsn n => 0xB0100 + 0x1000 * n

/-- The window that an offset lies in. -/
def winAt (off : Nat) : Option Win :=
  ([Win.gwy, .tts, .pars, .rule, .flow, .fwd, .shd, .strm, .mir, .cpe, .key, .time] ++ (List.range 38).map Win.tsn).find?
    fun w => decide (w.base ≤ off ∧ off < w.base + 0x60)

/-- One table of a window: the model's number of it, the defined bits of each word, its entries, and whether it takes WRITE and
WRITE_VALID_LAST. Every table takes READ. -/
structure TabRow where
  id : Nat
  mask : List Nat
  size : Nat
  wr : Bool
  wvl : Bool
  deriving DecidableEq, Repr

/-- All bits of `n` words. -/
def fullMask (n : Nat) : List Nat := List.replicate n 0xFFFFFFFF

/-- The defined bits of a parser node's words (R207). -/
def nodeMask : List Nat :=
  [0xE0FFFF00, 0xFF00FFFF, 0x8FFCFFFF, 0xFF0300FF] ++ List.replicate 8 0x80FFFFFF ++ List.replicate 4 0xFFFF001F

/-- The defined bits of the words of shadow table t: those of the table it shadows (R15, R295). -/
def shadowMask (t : Nat) : List Nat :=
  [[0xC0000FFF, 0xFFFFFFFF, 0x3F003F, 0xFFFFFFFF], [0xFC00003F, 0xFFFFFFFF], [0xC03F0000, 0xFFFFFFFF, 0xFFFFFFFF],
    [0xC03F003F, 0x9FFFFFFF, 0xFFFFFFFF, 0xFFFFFFFF], fullMask 20, fullMask 3, fullMask 1, nodeMask, [0x800000FF], [0xF00000FF, 0xFFFFFFFF],
    [0xF03F073F, 0xFFFFFFFF, 0xFFFF], [0xECFF0000, 0x9FFFFFFF]].getD t []

/-- The tables behind each window (R168, chapters 07, 09 to 12, 14 to 16, 20, 21). (DEDUCED, log entry 16.) -/
def Win.tab : Win → Nat → Option TabRow
  | .gwy, 0 => some ⟨T.gwyProf, [0x80FFFFFF, 0xFFFFFFFF, 0xFFFFFFFF, 0xFFFFFFFF, 0xFFFFFFFF, 0xF], 64, false, true⟩
  | .tts, 0 => some ⟨T.slot, [0xF03F073F, 0xFFFFFFFF, 0x7FFFF], 8192, false, false⟩
  | .tts, 1 => some ⟨T.slotStaged, [0xF03F073F, 0xFFFFFFFF, 0xFFFF], 8192, true, false⟩
  | .tts, 2 => some ⟨T.hbuf, [0xECFF0000, 0x9FFFFFFF], 1536, false, false⟩
  | .tts, 3 => some ⟨T.hbufStaged, [0xECFF0000, 0x9FFFFFFF], 1536, true, false⟩
  | .pars, 0 => some ⟨T.node, nodeMask, 256, true, false⟩
  | .pars, 1 => some ⟨T.startStaged, [0x800000FF], 38, true, false⟩
  | .pars, 2 => some ⟨T.startOf 0, [0x800000FF], 38, false, false⟩
  | .pars, 3 => some ⟨0, [0x1F], 256, false, false⟩
  | .rule, 0 => some ⟨T.ruleKey, fullMask 20, 32768, true, false⟩
  | .rule, 1 => some ⟨T.ruleCtl, fullMask 3, 32768, true, false⟩
  | .rule, 2 => some ⟨T.ruleEnd, [1], 32768, true, false⟩
  | .rule, 3 => some ⟨T.matStaged, fullMask 1, 4096, true, false⟩
  | .rule, 4 => some ⟨T.matOf 0, fullMask 1, 4096, false, false⟩
  | .rule, 5 => some ⟨T.zoneStaged, fullMask 1, 80, false, false⟩
  | .rule, 6 => some ⟨T.zoneOf 0, fullMask 1, 80, false, false⟩
  | .rule, 7 => some ⟨T.ruleHit, fullMask 2, 32768, false, false⟩
  | .flow, 0 => some ⟨T.flow, fullMask 16, 8388608, false, true⟩
  | .flow, 1 => some ⟨T.prof, [0xE0000000, 0xFFFFFFFF, 0xFFFFFFFF, 0xFFFFFFFF], 16, true, false⟩
  | .fwd, 0 => some ⟨T.mac, [0xFBFFFFFF, 0xFFF0FFFF, 0xFFFFFFFF, 0xFFFFFFFF], 131072, false, true⟩
  | .fwd, 1 => some ⟨T.vlan, [0xC0000FFF, 0xFFFFFFFF, 0x3F003F, 0xFFFFFFFF], 4096, true, false⟩
  | .fwd, 2 => some ⟨T.stream, [0xFC00003F, 0xFFFFFFFF], 4096, false, true⟩
  | .fwd, 3 => some ⟨T.can11, [0xC03F0000, 0xFFFFFFFF, 0xFFFFFFFF], 49152, false, true⟩
  | .fwd, 4 => some ⟨T.can29, [0xC03F003F, 0x9FFFFFFF, 0xFFFFFFFF, 0xFFFFFFFF], 16384, false, true⟩
  | .shd, t => if t < 12 then some ⟨T.shadow t, shadowMask t, (shadowDims.getD t (0, 0)).1, true, true⟩ else none
  | .strm, 0 => some ⟨T.sid, fullMask 4, 4096, false, true⟩
  | .strm, 1 => some ⟨T.filter, [0xF3FF3FFF, 0x8FFF83FF, 0x87FF87FF], 4096, false, true⟩
  | .strm, 2 => some ⟨T.gate, [0xF0070000, 0xFFFFFFFF, 0xFFFFFFFF, 0x3FFFFFFF, 0xFFFFFFFF, 0x3FFF007F, 0, 0], 1024, true, false⟩
  | .strm, 3 => some ⟨T.gpool, [0xF8000000, 0xFFFFFFFF], 16384, true, false⟩
  | .strm, 4 => some ⟨T.meter, [0xFC000000, 0xFFFFFFFF, 0xFFFFFFFF, 0xFFFFFFFF, 0xFFFFFFFF], 4096, true, false⟩
  | .strm, 5 => some ⟨T.rcvy, [0xF07FFFFF, 0x3FF, 0], 2048, false, true⟩
  | .strm, 6 => some ⟨T.gen, [0x8000FFFF, 0xFFFFFFFF], 2048, true, false⟩
  | .strm, 7 => some ⟨T.ats, [0x800000FF, 0xFFFFFFFF, 0xFFFFFFFF], 1024, true, false⟩
  | .strm, 8 => some ⟨T.atsGrp, [0x80000000, 0xFFFFFFFF], 256, true, false⟩
  | .strm, 9 => some ⟨T.filtCnt, fullMask 6 ++ [0xF], 4096, true, false⟩
  | .strm, 10 => some ⟨T.rcvyCnt, fullMask 9 ++ [0x1F], 2048, true, false⟩
  | .mir, 0 => some ⟨T.cap, fullMask 16, 1048576, false, false⟩
  | .cpe, 0 => some ⟨T.secy, [0xFEDB0000, 0xFFFFFFFF, 0xFFFFFFFF, 0xFFFFFFFF, 0xFFFFFFFF], 28, true, false⟩
  | .cpe, 1 => some ⟨T.rxSc, [0x80000000, 0xFFFFFFFF, 0xFFFFFFFF], 448, false, true⟩
  | .cpe, 2 => some ⟨T.txSa, 0xC00003FF :: (fullMask 6 ++ [0]), 112, false, true⟩
  | .cpe, 3 => some ⟨T.rxSa, 0xC00003FF :: (fullMask 6 ++ [0]), 1792, false, true⟩
  | .cpe, 4 => some ⟨T.canSec, [0xFFFFFFFF, 0x9FFFFFFF, 0xFFFFFFFF, 0xFFFFFFFF], 1024, false, true⟩
  | .cpe, 5 => some ⟨T.secCnt, fullMask 11 ++ [0x7F], 28, true, false⟩
  | .key, 0 => some ⟨T.keyId, fullMask 20, 17, false, false⟩
  | .key, 1 => some ⟨T.keyAtt, fullMask 20, 17, false, false⟩
  | .time, t => if t < 16 then some ⟨T.keepTpl t, fullMask 20, 2, true, false⟩ else none
  | .tsn n, 0 => if n < 38 then some ⟨T.gclAdm n, [0xF00000FF, 0xFFFFFFFF], 1024, true, false⟩ else none
  | .tsn n, 1 => if n < 38 then some ⟨T.gclOpr n, [0xF00000FF, 0xFFFFFFFF], 1024, false, false⟩ else none
  | _, _ => none

/-- The words of a window's data registers, `n` of them. -/
def Dev.tawData (s : Dev) (w : Win) (n : Nat) : List Nat := (List.range n).map fun k => s.rd (w.base + 0x10 + 4 * k)

/-- A READ (R68): the words of an entry. A flow entry is 8 words, or 16 for KIND IPv6 at its head (R274). -/
def Dev.tawRead (s : Dev) (w : Win) (sel i : Nat) : List Nat :=
  match w.tab sel with
  | none => []
  | some t =>
    if w = .flow ∧ sel = 0 then (if s.isTail i then s.entry T.flow i 8 else s.flowShown i)
    else if w = .pars ∧ sel = 2 then [s.tab (T.startOf ((s.curSlot (R.PARS_LIVE 0)).getD 0)) i 0]
    else if w = .pars ∧ sel = 3 then [s.nodeUse i]
    else if w = .rule ∧ sel = 4 then [s.tab (T.matOf ((s.curSlot (R.RULE_VER_INFLIGHT 0)).getD 0)) i 0]
    else if w = .rule ∧ sel = 6 then [s.tab (T.zoneOf ((s.curSlot (R.RULE_VER_INFLIGHT 0)).getD 0)) i 0]
    else s.entry t.id i t.mask.length

/-- The state of an entry refuses a WRITE (R189, R218, R220, R242, R245, R332, R335, R344). -/
def Dev.tawHeld (s : Dev) (w : Win) (sel i : Nat) : Bool :=
  match w, sel with
  | .tts, 1 => (List.range 24).any fun n =>
      s.bit (R.TTS_CH_STAT n) 1 && decide ((s.stagedRange n).1 ≤ i ∧ i < (s.stagedRange n).1 + (s.stagedRange n).2)
  | .tts, 3 => s.bit (R.TTS_CH_STAT (i / 64)) 1
  | .pars, 0 => s.bit R.PARS_STAT 2 || s.nodeUse i != 0
  | .pars, 1 => s.bit R.PARS_STAT 2 || s.bit R.PARS_STAT 0
  | .rule, 0 | .rule, 1 =>
    s.bit R.RULE_STAT 2 || s.bit R.RULE_STAT 0 || ((s.tab T.ruleCtl i 0).testBit 31 && !ruleStaged (s.tab T.ruleCtl i 0))
  | .rule, _ => s.bit R.RULE_STAT 2 || s.bit R.RULE_STAT 0
  | .strm, 2 => s.sgPending i && s.bit (Win.strm.base + 0x10) 31
  | .strm, 3 => s.poolUsed i
  | .tsn n, _ => s.bit (R.TSN_STAT n) 31
  | _, _ => false

/-- The STATUS that an operation completes with at once, 0 for one that runs (R67, R70). (DEDUCED, log entry 17.) -/
def Dev.tawJudge (s : Dev) (w : Win) (op : Nat) : Nat :=
  let sel := s.rd w.base
  let i := s.rd (w.base + 4)
  match w.tab sel with
  | none => 1
  | some t =>
    if t.size ≤ i then 2
    else if op = 1 then 0
    else if (op = 2 ∧ t.wr = false) ∨ (op = 3 ∧ t.wvl = false) then 3
    else if s.tawHeld w sel i then 3
    else if w = .flow ∧ sel = 0 ∧ i % 2 = 1 ∧ isDouble (s.fld (w.base + 0x10) 30 28) = true then 2
    else 0

/-- The block code, instance number and table number by which the journal names a table (R559). The stream window and the shadow
window share a page with another window: their tables carry bit 7 (DESIGN CHOICE, log entry 61). -/
def Win.code : Win → Nat → Nat × Nat × Nat
  | .gwy, t => (0x34, 0, t)
  | .tts, t => (0x33, 0, t)
  | .pars, t => (0x40, 0, t)
  | .rule, t => (0x41, 0, t)
  | .flow, t => (0x42, 0, t)
  | .fwd, t => (0x43, 0, t)
  | .shd, t => (0x43, 0, 0x80 + t)
  | .strm, t => (0x51, 0, 0x80 + t)
  | .mir, t => (0x52, 0, t)
  | .cpe, t => (0x60, 0, t)
  | .key, t => (0x61, 0, t)
  | .time, t => (0x10, 0, t)
  | .tsn n, t => (0x51, n, t)

/-- The window and table that a journal record names. -/
def winOf (code inst sel : Nat) : Option (Win × Nat) :=
  if code = 0x34 then some (.gwy, sel)
  else if code = 0x33 then some (.tts, sel)
  else if code = 0x40 then some (.pars, sel)
  else if code = 0x41 then some (.rule, sel)
  else if code = 0x42 then some (.flow, sel)
  else if code = 0x43 then some (if sel < 0x80 then (.fwd, sel) else (.shd, sel - 0x80))
  else if code = 0x51 then some (if sel < 0x80 then (.tsn inst, sel) else (.strm, sel - 0x80))
  else if code = 0x60 then some (.cpe, sel)
  else none

/-- R563: tables of the configuration set, with the staging tables from which a COMMIT record makes them (DESIGN CHOICE, log entry 61). The
flow table and dynamic MAC entries have records of their own. -/
def Win.mirrored : Win → Nat → Bool
  | .gwy, _ | .pars, _ | .rule, _ | .shd, _ | .tts, _ | .tsn _, _ => true
  | .flow, t => t == 1
  | .fwd, t => t != 0
  | .strm, t => decide (t ≤ 8)
  | .cpe, t => decide (t ≤ 4)
  | .mir, _ | .key, _ | .time, _ => false

/-- The words of an SA that the journal does not carry: WARNED and NEXT_PN (R559). (DEDUCED, log entry 19.) -/
def saPlain : List Nat → List Nat
  | w0 :: _ :: _ :: ws => (w0 &&& 0xBFFFFFFF) :: 0 :: 0 :: ws
  | ws => ws

/-- Whether a table holds SAs. -/
def Win.isSa (w : Win) (sel : Nat) : Bool := w == .cpe && (sel == 2 || sel == 3)

/-- R559: the record of a window write. -/
def Dev.tawJrn (w : Win) (sel i : Nat) (ws : List Nat) (s : Dev) : Dev :=
  let c := w.code sel
  if w.mirrored sel then s.jrnTable c.1 c.2.1 c.2.2 i (if w.isSa sel then saPlain ws else ws) else s

/-- The shadow number and index of the entry that a window write may concern, in either copy (R295, R296). -/
def Win.shadowOf : Win → Nat → Nat → Option (Nat × Nat)
  | .fwd, 0, _ => none
  | .fwd, t, i => some (t - 1, i)
  | .rule, 0, i => some (4, i)
  | .rule, 1, i => some (5, i)
  | .pars, 0, i => some (7, i)
  | .shd, t, i => some (t, i)
  | _, _, _ => none

/-- R330, R334: bit k of word 0 is a state that the B960 sets and a write with 0 clears: BLOCK_OS, MAFR. A write with 1 leaves it. -/
def stateClear (k old : Nat) (ws : List Nat) : List Nat :=
  ws.set 0 (if old.testBit k then ws.getD 0 0 else withBits (ws.getD 0 0) k k 0)

/-- R280: a MAC entry without its reserved bits: word 3 is a mask in a static GROUP entry only. -/
def macClean (ws : List Nat) : List Nat :=
  let w0 := ws.getD 0 0
  if w0.testBit 30 = true ∧ w0.testBit 28 = true then ws else ws.set 3 (ws.getD 3 0 &&& 0xFFFF803F)

/-- What a write stores and what goes with it, by table. -/
def Dev.tawPut (w : Win) (sel i : Nat) (ws : List Nat) (s : Dev) : Dev :=
  match w, sel with
  | .flow, 0 => s.flowWinWrite i ws
  | .rule, 1 =>
    let w0 := ws.getD 0 0 &&& 0xAFFF0000
    let w0 := if w0.testBit 31 then w0 + 0x50000000 else w0
    ((s.setEntry T.ruleCtl i [w0, ws.getD 1 0, ws.getD 2 0]).setTab T.ruleHit i 0 0).setTab T.ruleHit i 1 0
  | .strm, 2 => (s.gateWrite i ws).2
  | .fwd, 0 => s.setEntry T.mac i (macClean ws)
  | .cpe, _ => (s.setEntry (0x600 + sel) i ws).cpeFresh (0x600 + sel) i
  | .strm, 1 => s.setEntry T.filter i (stateClear 29 (s.tab T.filter i 0) ws)
  | .strm, 4 => forN 9 (fun k s => s.setTab T.meterTime i k 0) (s.setEntry T.meter i (stateClear 26 (s.tab T.meter i 0) ws))
  | .strm, 5 => (s.setEntry T.rcvy i (ws.set 2 (s.tab T.rcvy i 2))).rcvyReset i
  | .strm, 7 => forN 3 (fun k s => s.setTab T.atsTime i k 0) (s.setEntry T.ats i ws)
  | .strm, 8 => forN 3 (fun k s => s.setTab T.atsGrpTime i k 0) (s.setEntry T.atsGrp i ws)
  | _, _ =>
    match w.tab sel with
    | none => s
    | some t => s.setEntry t.id i ws

/-- The bits of the words that a table stores (R15). -/
def Win.words (w : Win) (sel : Nat) (ws : List Nat) : List Nat :=
  match w.tab sel with
  | none => []
  | some t => t.mask.zipIdx.map fun m => ws.getD m.2 0 &&& m.1

/-- A window write of an entry (R69, R70): one atomic update, its record, and the end of the comparator's suspicion (R296). -/
def Dev.tawStore (w : Win) (sel i : Nat) (ws : List Nat) (s : Dev) : Dev :=
  let ws := w.words sel ws
  let old := s.entry T.mac i 4
  let s := s.tawPut w sel i ws
  let s := match w.shadowOf sel i with
    | some p => s.unsuspect fun q => decide (q = p)
    | none => s
  if w = .fwd ∧ sel = 0 then
    (if (ws.getD 0 0).testBit 30 = true ∨ (old.getD 0 0).testBit 30 = true then s.jrnTable 0x43 0 0 i ws else s.jrnMac T.mac i old)
  else s.tawJrn w sel i ws

/-- Write STATUS, clearing BUSY. -/
def Dev.tawStatus (w : Win) (st : Nat) (s : Dev) : Dev := (s.setFld (w.base + 8) 23 16 st).setBit (w.base + 8) 31 false

/-- R564: a write that a member which is not active refuses. -/
def Dev.tawRefused (s : Dev) (r : Req) (w : Win) (op : Nat) : Bool :=
  let mac := w == .fwd && s.rd w.base == 0 &&
    (s.bit (w.base + 0x10) 30 || (s.tab T.mac (s.rd (w.base + 4)) 0).testBit 30)
  op != 1 && (w.mirrored (s.rd w.base) || mac) && hostLike r && s.notActive

/-- R67: a write to TAW_CMD that reaches the window. OP reads back an operation that ends with BAD_SEL or BAD_INDEX too.
(DESIGN CHOICE, log entry 113.) -/
def Dev.tawCmd (r : Req) (w : Win) (v : Nat) (s : Dev) : Dev :=
  let o := w.base + 8
  let op := v % 8
  let isOp := op == 1 || op == 2 || op == 3
  let busy := s.bit o 31
  if s.mayWrite r o = false then
    (if isOp then (if busy then s.viol o else (s.viol o).tawStatus w 5) else s.viol o)
  else if s.ready o = false then s
  else
    let s := if v.testBit 30 then s.setBit o 30 false else s
    if isOp = false then s
    else if s.tawRefused r w op then s.inc C.PAIR_CFG_WR_REFUSED
    else if busy then s.setBit o 30 true
    else
      let s := s.setFld o 2 0 op
      match s.tawJudge w op with
      | 0 => s.setBit o 31 true
      | st => s.tawStatus w st

/-- A write to a register of a window. -/
def Dev.winWrite (r : Req) (w : Win) (off v : Nat) (s : Dev) : Dev :=
  let o := off - w.base
  if o = 8 then (if s.reach r off then s.tawCmd r w v else s)
  else if o = 0 ∨ o = 4 ∨ (0x10 ≤ o ∧ o % 4 = 0) then
    Dev.guarded r off (fun s => if s.bit (w.base + 8) 31 then s else s.wr off v) s
  else s

/-- An OP write to the window whose TAW_SEL lies at `w`. -/
def Dev.tawOp (r : Req) (w op : Nat) (s : Dev) : Dev :=
  match winAt w with
  | none => s
  | some k => if k.base = w ∧ s.reach r w = true then s.tawCmd r k op else s

/-- TAW_READ (R68). -/
def execTawRead (r : Req) (w : Nat) (s : State) : Host.Outcome State Fault Refusal := onDev (Dev.tawOp r w 1) s

/-- TAW_WRITE (R70). -/
def execTawWrite (r : Req) (w : Nat) (s : State) : Host.Outcome State Fault Refusal := onDev (Dev.tawOp r w 2) s

/-- WRITE_VALID_LAST (R69). -/
def execWriteValidLast (r : Req) (w : Nat) (s : State) : Host.Outcome State Fault Refusal := onDev (Dev.tawOp r w 3) s

/-- SHADOW_READ (R297). -/
def execShadowRead (r : Req) (s : State) : Host.Outcome State Fault Refusal := onDev (Dev.tawOp r 0x98100 1) s

/-- SHADOW_WRITE (R297); `last` that the write's OP is WRITE_VALID_LAST. -/
def execShadowWrite (r : Req) (last : Bool) (s : State) : Host.Outcome State Fault Refusal :=
  onDev (Dev.tawOp r 0x98100 (if last then 3 else 2)) s

/-- SG_CHANGE_REQ (R332): a WRITE on the stream window of the words that its registers hold, CHANGE among them. -/
def execSgChangeReq (r : Req) (s : State) : Host.Outcome State Fault Refusal := onDev (Dev.tawOp r 0xB0180 2) s

/-- What a READ of window k reports of a word corrected (1) or uncorrectable (2) in entry i of table `sel` (R248, R275, R294, R517). -/
def Dev.tawEcc (k : Win) (sel i ecc : Nat) (s : Dev) : Dev :=
  let ddr (region word : Nat) (s : Dev) : Dev := if ecc = 1 then s.dramCorr region word else s.dramUncorr region word
  if ecc = 0 then s
  else match k, sel with
    | .rule, 0 | .rule, 1 => if ecc = 1 then s.inc C.RULE_ECC_CORR else s.ruleFail i
    | .fwd, _ => if ecc = 1 then s.inc C.FWD_ECC_CORR else s
    | .flow, 0 => ddr 0 i s
    | .mir, _ => ddr 2 (0xC00000 + 2 * i) s
    | .shd, _ => ddr 3 s.shadowWord.1 s.shadowWord.2
    | .cpe, _ => if ecc = 2 then
        Dev.cpeRead (0x600 + sel) i { s with cpeBad := cpeKey (0x600 + sel) i :: s.cpeBad.filter (· != cpeKey (0x600 + sel) i) } else s
    | _, _ => s

/-- A running operation of window k ends; `ecc` that a word it read was whole (0), corrected (1) or failed its check (2): the
words are then undefined. -/
def Dev.tawDone (k : Win) (ecc : Nat) (s : Dev) : Dev :=
  let o := k.base + 8
  let sel := s.rd k.base
  let i := s.rd (k.base + 4)
  if s.bit o 31 = false then s
  else if s.fld o 2 0 = 1 then
    let ws := s.tawRead k sel i
    let s := forL ws.zipIdx (fun p s =>
      if ecc = 2 then
        let d := s.draw
        d.2.setReg (k.base + 0x10 + 4 * p.2) d.1
      else s.wr (k.base + 0x10 + 4 * p.2) p.1) s
    (s.tawEcc k sel i ecc).tawStatus k (if ecc = 2 then 4 else 0)
  else
    match s.tawJudge k (s.fld o 2 0) with
    | 0 => (s.tawStore k sel i (s.tawData k 20)).tawStatus k 0
    | st => s.tawStatus k st

/-- TAW_OP_DONE (R67, R71): the operation of the window whose TAW_SEL lies at `w` completes. (DESIGN CHOICE, log entry 18.) -/
def execTawOpDone (w : Nat) (ecc : Nat) (s : State) : Host.Outcome State Fault Refusal :=
  onDev (fun s =>
    match winAt w with
    | none => s
    | some k => if k.base = w then s.tawDone k ecc else s) s

end Sys2Proof.Machine
end

