-- ==== Sys2Proof/Machine/Pages.lean ====
section
/-! DEFINITION. Every register of the window: what a write does at each offset (R12 to R16, R60 to R66 and the register tables of
the chapters), what a read returns and changes (R13, R16), SOFT_RST (R61), and the configuration digest (R563). -/

namespace Sys2Proof.Machine

/-- A write without a rule of its own: SAT bits clear their counters (R366), the rest follows the access types (R16). -/
def Dev.basicWrite (off v : Nat) (s : Dev) : Dev := (if isSatReg off then s.satClear off v else s).plainWrite off v

/-- The data plane has been released (R111) and no wake is loading it again. -/
def Dev.dpReleased (s : Dev) : Bool := s.pwr.phase != .boot && s.pwr.phase != .wake

/-- GLB (R72 to R77). -/
def Dev.glbReg (r : Req) (off v : Nat) (s : Dev) : Dev :=
  if R.DRV_FEAT_A 0 ≤ off ∧ off ≤ R.DRV_FEAT_A 3 then s.featGuard r 0 (Dev.drvFeatWrite 0 ((off - R.DRV_FEAT_A 0) / 4) v)
  else if off = R.FEAT_CTRL_A then s.featGuard r 0 (Dev.featCtrlWrite 0 v)
  else if R.DRV_FEAT_B 0 ≤ off ∧ off ≤ R.DRV_FEAT_B 3 then s.featGuard r 1 (Dev.drvFeatWrite 1 ((off - R.DRV_FEAT_B 0) / 4) v)
  else if off = R.FEAT_CTRL_B then s.featGuard r 1 (Dev.featCtrlWrite 1 v)
  else s.guarded r off (Dev.basicWrite off v)

/-- TURN (R49, R56). -/
def Dev.turnReg (r : Req) (off v : Nat) (s : Dev) : Dev :=
  if off = R.TURN_CTRL then s.guarded r off (Dev.turnCtrlWrite v)
  else if off = R.TURN_HST_DONE then s.hstOnly r off Dev.hstDone
  else s.guarded r off (Dev.basicWrite off v)

/-- CMB[m] (R78, R80, R84). -/
def Dev.cmbReg (r : Req) (m off v : Nat) (s : Dev) : Dev :=
  s.cmbGuard r m fun s =>
    if off = R.CMB_GO m then s.cmbGo m
    else if off = R.CMB_ABORT m then s.abortWrite m v
    else if off = R.CMB_STAT m then s.plainWrite off v
    else if s.cmbBusy m then s
    else s.plainWrite off v

/-- PWR (R521, R542, R546). INH follows a write of PWR_INH_CFG in the state that stands. -/
def Dev.pwrReg (r : Req) (off v : Nat) (s : Dev) : Dev :=
  if off = R.PWR_CTRL then s.ownerOnly r off (Dev.pwrCtrlWrite r.id v)
  else if off = R.PWR_INH_CFG then
    s.guarded r off fun s =>
      let s := s.plainWrite off v
      if s.pwr.phase = .active then s.inhTo 0 else if s.pwr.phase = .rest then s.inhTo 1 else s
  else if R.NM_CFG 0 ≤ off ∧ off < R.NM_CFG 24 then
    let n := (off - R.NM_CFG 0) / 0x20
    s.guarded r off fun s => if off = R.NM_CFG n ∨ off = R.NM_CTRL n then (s.plainWrite off v).nmSync n else s.plainWrite off v
  else s.guarded r off (Dev.basicWrite off v)

/-- INTC (R439, R441, R445, R449, R452). -/
def Dev.intcReg (r : Req) (off v : Nat) (s : Dev) : Dev :=
  if off = R.INTC_SAFE_RAW then s.guarded r off fun s => (s.plainWrite off v).safePersist
  else if off = R.INTC_SAFE_FORCE then s.guarded r off (Dev.safeForce v)
  else if off = R.INTC_TGT_SLEEP then s.guarded r off (Dev.tgtSleepWrite r v)
  else if R.INTC_DONE 0 ≤ off ∧ off < R.INTC_DONE 4 then
    s.guarded r off (Dev.intcDone r ((off - R.INTC_DONE 0) / 4) v)
  else if R.INTC_SRC_CFG 0 ≤ off ∧ off < R.INTC_SRC_CFG 256 then
    let k := (off - R.INTC_SRC_CFG 0) / 4
    if 192 ≤ k then s.pairGuard r (k - 192) off (Dev.srcCfgWrite k v) else s.guarded r off (Dev.srcCfgWrite k v)
  else s.guarded r off (Dev.basicWrite off v)

/-- A write of a domain's registers (R372 to R376); `o` its offset in the domain's block. -/
def Dev.domReg (k o off v : Nat) (s : Dev) : Dev :=
  if o = 0 then s.tdCtrlWrite k v
  else if o = 0x18 then s.unlessSteered k (Dev.plainWrite off v)
  else if o = 0x1C then s.unlessSteered k (Dev.rateHiWrite k v)
  else if o = 0x2C then s.unlessSteered k (Dev.adjWrite k v)
  else s.plainWrite off v

/-- TIME (R372 to R376, R388). -/
def Dev.timeReg (r : Req) (off v : Nat) (s : Dev) : Dev :=
  if off = R.TIME_CTRL then s.guarded r off fun s => if v.testBit 0 then s.xsnap else s
  else if R.TD_CTRL 0 ≤ off ∧ off < R.TD_CTRL 8 then
    let k := (off - R.TD_CTRL 0) / 0x40
    s.guarded r off (Dev.domReg k (off - R.TD_CTRL k) off v)
  else if R.TOUT_CFG 0 ≤ off ∧ off < R.TOUT_CFG 8 then
    let k := (off - R.TOUT_CFG 0) / 0x20
    s.guarded r off fun s =>
      if off = R.TOUT_CFG k then s.toutCfgWrite k v
      else if off = R.TOUT_STAT k then s.plainWrite off v
      else s.toutRegWrite k off v
  else s.guarded r off (Dev.basicWrite off v)

/-- ETH[n] (R121, R123, R133, R136 to R139). -/
def Dev.ethReg (r : Req) (n off v : Nat) (s : Dev) : Dev :=
  s.guarded r off fun s =>
    if off = R.ETH_CTRL n then s.ethCtrlWrite n v
    else if off = R.ETH_MODE n then s.ethModeWrite n v
    else if off = R.ETH_MAX_FRAME n then s.maxFrameWrite n v
    else if off = R.ETH_TC10 n then (if 12 ≤ n ∧ n < 28 then s.tc10Write n v else s)
    else if off = R.ETH_PLCA n then (if 28 ≤ n then s.plainWrite off v else s)
    else if off = R.ETH_MDIO_CFG n then (if n < 4 then s.mdioCfgWrite n v else s)
    else if off = R.ETH_MDIO_CMD n then (if n < 4 then s.mdioCmd n v else s)
    else if off = R.ETH_MDIO_DATA n then (if n < 4 then s.plainWrite off v else s)
    else s.basicWrite off v

/-- A write of a ring's register (R416 to R418, R428 to R430). -/
def Dev.ringRegWrite (k o v : Nat) (s : Dev) : Dev :=
  if o = 0 then s.ringBaseWrite k 0 v
  else if o = 4 then s.ringBaseWrite k 1 v
  else if o = 8 then s.ringCfgWrite k v
  else if o = 0xC then s.ringTailWrite k v
  else if o = 0x14 then s.ringCtrl k v
  else s.plainWrite (ringReg k o) v

/-- HIF (R417, R418, R424, R428, R433). -/
def Dev.hifReg (r : Req) (off v : Nat) (s : Dev) : Dev :=
  if ringReg 0 0 ≤ off ∧ off < ringReg 0 0 + 0x800 then
    let k := (off - ringReg 0 0) / 0x20
    s.pairGuard r k off (Dev.ringRegWrite k (off - ringReg k 0) v)
  else if ringReg 64 0 ≤ off ∧ off < ringReg 64 0 + 0x800 then
    let k := 64 + (off - ringReg 64 0) / 0x20
    s.pairGuard r (k - 64) off (Dev.ringRegWrite k (off - ringReg k 0) v)
  else if R.RP_CFG 0 ≤ off ∧ off < R.RP_CFG 64 then
    let n := (off - R.RP_CFG 0) / 0x10
    s.pairGuard r n off fun s => if off = R.RP_CFG n then s.rpCfgWrite r n v else s.plainWrite off v
  else s.guarded r off (Dev.basicWrite off v)

/-- CAN[n] (R146, R147, R155, R157, R159). -/
def Dev.canReg (r : Req) (n off v : Nat) (s : Dev) : Dev :=
  s.guarded r off fun s =>
    if off = R.CAN_CTRL n then s.canCtrl n v
    else if R.CAN_NBT n ≤ off ∧ off ≤ R.CAN_XLPWM n then s.canTiming n off v
    else if off = R.CAN_SWK_CTRL n then s.swkCtrlWrite n v
    else if off = R.CAN_CANCEL n then s.canCancel n v
    else s.basicWrite off v

/-- LIN[n] (R193, R195, R196, R198). -/
def Dev.linReg (r : Req) (n off v : Nat) (s : Dev) : Dev :=
  s.guarded r off fun s =>
    if off = R.LIN_CTRL n then s.linCtrl n v
    else if off = R.LIN_RATE n ∨ (R.LIN_ID n 0 ≤ off ∧ off < R.LIN_ID n 64) ∨
        (R.LIN_SCHED_A n 0 ≤ off ∧ off < R.LIN_SCHED_A n 64) then s.linCfgWrite n off v
    else s.basicWrite off v

/-- SER[n] (R193, R201). -/
def Dev.serReg (r : Req) (n off v : Nat) (s : Dev) : Dev :=
  s.guarded r off fun s =>
    if off = R.SER_CTRL n then s.serCtrl n v
    else if off = R.SER_RATE n ∨ off = R.SER_TURN n then s.serCfgWrite n off v
    else s.basicWrite off v

/-- TTS (R177, R181, R189): CYCLE, NTU, REF and PHASE do not change while EN is 1. -/
def Dev.ttsReg (r : Req) (off v : Nat) (s : Dev) : Dev :=
  s.guarded r off fun s =>
    if off = R.TTS_CTRL then s.ttsCtrlWrite v
    else if R.TTS_CH_CFG 0 ≤ off ∧ off < R.TTS_CH_CFG 24 then
      let n := (off - R.TTS_CH_CFG 0) / 0x40
      if off = R.TTS_CH_CFG n then s.ttsCfgWrite n v
      else if off = R.TTS_CH_CTRL n then s.ttsSwap n v
      else if off = R.TTS_CH_HBCLR n then s.hbClear n v
      else if off = R.TTS_CH_MATRIX n then s.plainWrite off v
      else if s.bit (R.TTS_CH_CFG n) 31 then s
      else s.plainWrite off v
    else s.basicWrite off v

/-- PARS (R215, R218). -/
def Dev.parsReg (r : Req) (off v : Nat) (s : Dev) : Dev :=
  s.guarded r off fun s =>
    if off = R.PARS_CTRL then (if v.testBit 0 then s.parsCommit else s) else s.basicWrite off v

/-- RULE (R225, R242): the seed does not change after data-plane release. -/
def Dev.ruleReg (r : Req) (off v : Nat) (s : Dev) : Dev :=
  s.guarded r off fun s =>
    if off = R.RULE_CTRL then (if v.testBit 0 then s.ruleCommit else s)
    else if off = R.RULE_HASH_SEED ∧ s.dpReleased = true then s
    else s.basicWrite off v

/-- FLOW (R272, R273). -/
def Dev.flowReg (r : Req) (off v : Nat) (s : Dev) : Dev :=
  if off = R.FLOW_PURGE then s.guarded r off (Dev.purgeWrite v)
  else if off = R.FLOW_SRCH_CMD then s.srchWrite r (v % 4)
  else if R.FLOW_SRCH_DATA 0 ≤ off ∧ off ≤ R.FLOW_SRCH_DATA 15 then
    s.guarded r off fun s => if s.bit R.FLOW_SRCH_CMD 31 then s else s.plainWrite off v
  else s.guarded r off (Dev.basicWrite off v)

/-- FWD (R279): the seed does not change after data-plane release. -/
def Dev.fwdReg (r : Req) (off v : Nat) (s : Dev) : Dev :=
  s.guarded r off fun s => if off = R.FWD_SEED ∧ s.dpReleased = true then s else s.basicWrite off v

/-- BUF (R305 to R307). -/
def Dev.bufReg (r : Req) (off v : Nat) (s : Dev) : Dev :=
  s.guarded r off fun s =>
    if off = R.BUF_HDRM then s.hdrmWrite v
    else if R.BUF_DEEP 0 ≤ off ∧ off ≤ R.BUF_DEEP 15 then s.deepWrite ((off - R.BUF_DEEP 0) / 4) v
    else if R.QCFG 0 ≤ off ∧ off < R.QCFG 304 ∧ (off - R.QCFG 0) % 16 = 0 then s.qcfgWrite ((off - R.QCFG 0) / 16) v
    else s.basicWrite off v

/-- TSN[n] (R328, R341, R344, R347 to R349). -/
def Dev.tsnReg (r : Req) (n off v : Nat) (s : Dev) : Dev :=
  s.guarded r off fun s =>
    if off = R.TSN_CTRL n then s.tsnCtrlWrite n v
    else if R.TSN_ADM_BASE_S_LO n ≤ off ∧ off ≤ R.TSN_ADM_CYC_EXT n then s.admWrite n off v
    else if off = R.TSN_ADM_LIST n then s.admListWrite n v
    else if R.TSN_CBS n 0 ≤ off ∧ off ≤ R.TSN_CBS n 7 then s.cbsWrite n ((off - R.TSN_CBS n 0) / 4) v
    else if off = R.TSN_ATS_EN n then s.atsEnWrite n v
    else if off = R.TSN_PREEMPT n then s.preemptWrite n v
    else if off = R.TSN_SID n ∧ 36 ≤ n then s
    else s.basicWrite off v

/-- MIR (R355, R359 to R361). -/
def Dev.mirReg (r : Req) (off v : Nat) (s : Dev) : Dev :=
  s.guarded r off fun s =>
    if off = R.CAP_CTRL then s.capCtrlWrite v
    else if off = R.CAP_RELEASE then s.capRelease (v % 65536)
    else if R.MIR_SCFG 0 ≤ off ∧ off < R.MIR_SCFG 8 then
      let k := (off - R.MIR_SCFG 0) / 0x20
      if off = R.MIR_SCFG k then s.mirScfgWrite k v else s.mirOtherWrite k off v
    else s.basicWrite off v

/-- CPE, common page (R474). -/
def Dev.cpeReg (r : Req) (off v : Nat) (s : Dev) : Dev :=
  s.guarded r off fun s =>
    if R.CPE_UWIN_BASE 0 ≤ off ∧ off < R.CPE_UWIN_BASE 16 then
      s.uwinWrite r ((off - R.CPE_UWIN_BASE 0) / 8) (off % 8 == 4) v
    else s.basicWrite off v

/-- CPE_U[k] (R474, R477): operands do not change while BUSY is 1. -/
def Dev.laReg (r : Req) (k off v : Nat) (s : Dev) : Dev :=
  s.guarded r off fun s =>
    if off = R.LA_GO k then s.laGo k
    else if off = R.LA_ABORT k then s.laAbort k v
    else if off < R.LA_GO k ∧ s.bit (R.LA_STAT k) 31 = true then s
    else s.basicWrite off v

/-- PAIR (R562, R569, R572). -/
def Dev.pairReg (r : Req) (off v : Nat) (s : Dev) : Dev :=
  if off = R.PAIR_CTRL then s.guarded r off (Dev.pairCtrlWrite v)
  else if off = R.PAIR_RACC_ADDR ∨ off = R.PAIR_RACC_DATA then s.raccGuard r (Dev.plainWrite off v)
  else if off = R.PAIR_RACC_CMD then s.raccGuard r (Dev.raccWrite v)
  else s.guarded r off (Dev.basicWrite off v)

/-- A write of a block register outside the table windows and the BENCH page, by the unit's block and number. -/
def Dev.blkReg (b : Blk) (i : Nat) (r : Req) (off v : Nat) (s : Dev) : Dev :=
  match b with
  | .glb => s.glbReg r off v
  | .turn => s.turnReg r off v
  | .cmb => s.cmbReg r i off v
  | .pwr => s.pwrReg r off v
  | .intc => s.intcReg r off v
  | .time => s.timeReg r off v
  | .eth => s.ethReg r i off v
  | .hif => s.hifReg r off v
  | .can => s.canReg r i off v
  | .lin => s.linReg r i off v
  | .ser => s.serReg r i off v
  | .tts => s.ttsReg r off v
  | .pars => s.parsReg r off v
  | .rule => s.ruleReg r off v
  | .flow => s.flowReg r off v
  | .fwd => s.fwdReg r off v
  | .buf => s.bufReg r off v
  | .tsn => s.tsnReg r i off v
  | .mir => s.mirReg r off v
  | .cpe => s.cpeReg r off v
  | .la => s.laReg r i off v
  | .pair => s.pairReg r off v
  | .boot | .tru | .gwy | .key | .lcs | .bench | .dram | .hst => s.guarded r off (Dev.basicWrite off v)

/-- The keys of the listed block registers of a unit: from 0x040 on, header registers of its later pages apart. -/
def Dev.unitRegs (s : Dev) (base size : Nat) (b : Blk) : List Nat :=
  (s.regs.map (·.1)).filter fun k =>
    decide (base ≤ k ∧ k < base + size) && (headerless b (k - base) || decide (0x40 ≤ (k - base) % 0x1000))

/-- SOFT_RST as most chapters give it: the unit's counters are zeroed and its W1C bits cleared, but for registers that are to stay. -/
def Dev.clearUnit (base size : Nat) (b : Blk) (s : Dev) (stays : Nat → Bool := fun _ => false) : Dev :=
  forL (s.unitRegs base size b) (fun k s =>
    if stays k then s
    else if isCounter k then s.wr k 0
    else
      match b.row? (k - base) with
      | some row => s.setReg k (s.reg k &&& ~~~BitVec.ofNat 32 row.w1c)
      | none => s) s

/-- R61: the unit's block registers return to their Reset cells, but for those locked under RWL. `keep` names bits of a register
that show a condition rather than hold a setting. -/
def Dev.resetUnit (base size : Nat) (b : Blk) (keep : Nat → Nat) (s : Dev) : Dev :=
  let lock := s.bit (base + 0x28) 0
  forL (s.unitRegs base size b) (fun k s =>
    let locked := lock && (match b.row? (k - base) with
      | some row => row.lock
      | none => false)
    if locked then s
    else
      let m := BitVec.ofNat 32 (keep k)
      s.setReg k ((regReset k &&& ~~~m) ||| (s.reg k &&& m))) s

/-- What SOFT_RST of unit i of a block does beside the header (R61 and the block chapters). The ETH, CAN, LIN, SER, TTS, GWY
and DRAM chapters do not say that it leaves anything, and chapter 04 does not name it: they follow R61, but STAGE, the straps, the
fuses and DRAM_STAT show what is (DEDUCED, log entry 62). -/
def Dev.softRst (b : Blk) (i base size : Nat) (s : Dev) : Dev :=
  match b with
  | .glb | .turn | .cmb | .key | .lcs => s
  | .boot => s.resetUnit base size b fun k => if k = R.BOOT_STAT then 0xF else if k = R.BOOT_STRAP ∨ k = R.BOOT_FLOOR then 2 ^ 32 - 1 else 0
  | .dram => s.resetUnit base size b fun k => if k = R.DRAM_STAT then 2 ^ 32 - 1 else 0
  | .pwr => s.clearUnit base size b (fun k => decide (R.PWR_INH_CFG ≤ k ∧ k ≤ R.PWR_SLEEP_TICKS))
  | .eth => (s.ethSoftRst i).resetUnit base size b fun _ => 0
  | .can => (s.canSoftRst i).resetUnit base size b fun k => if k = R.CAN_STAT i then 2 ^ 27 else 0
  | .lin =>
    ({ s with lin := smSet (fun _ => ({} : LinSt)) s.lin i {} }).resetUnit base size b fun _ => 0
  | .ser =>
    ({ s with ser := smSet (fun _ => ({} : SerSt)) s.ser i {} }).resetUnit base size b fun _ => 0
  | .tts => s.ttsSoftRst.resetUnit base size b fun _ => 0
  | .gwy =>
    let lo := tabKey T.gwyProf 0 0
    let hi := tabKey (T.gwyProf + 1) 0 0
    let s := { s with gwy := {}, tabs := s.tabs.filter fun e => !decide (lo ≤ e.1 ∧ e.1 < hi) }
    s.resetUnit base size b fun _ => 0
  | .time => s.timeSoftRst
  | .fwd => { s.clearUnit base size b with lk := { (s.clearUnit base size b).lk with learn := [] } }
  | .la => s.laSoftRst i
  | .intc | .tru | .hif | .pars | .rule | .flow | .buf | .tsn | .mir | .cpe | .bench | .hst | .pair =>
    s.clearUnit base size b

/-- R61: a write of PG_CTRL with SOFT_RST set; EV_RAW and OWN_VIOL clear, and READY is 1 again when the write ends (DESIGN CHOICE, log entry 63).
On the pages that R61 names nothing happens. -/
def Dev.softReset (off : Nat) (s : Dev) : Dev :=
  match blkOf off with
  | none => s
  | some (row, i, o) =>
    let base := off - o
    if row.blk = .glb ∨ row.blk = .turn ∨ row.blk = .cmb ∨ row.blk = .key ∨ row.blk = .lcs then s
    else
      let s := s.softRst row.blk i base (row.pages * 0x1000)
      let s := (s.wr (base + 0x14) 0).setBit (base + 0x10) 4 false
      if row.blk = .time then s.timeLevels else s

/-- A write to a header register (R60 to R66). -/
def Dev.headWrite (r : Req) (off v base ho : Nat) (first : Bool) (s : Dev) : Dev :=
  if s.reach r off = false then s
  else if ho = 0x20 then s.evForce off v
  else if ho = 0x24 then s.pgOwnerWrite r off v
  else if ho = 0x28 then s.pgLockWrite r off v
  else
    let s := s.hdrWrite r off v
    if ho = 0x0C ∧ first = true ∧ v.testBit 1 = true then s.softReset off
    else if ho = 0x14 ∧ base = 0x10000 then s.timeLevels
    else s

/-- The atomic unit and its register that an offset names (R512). (DEDUCED, log entry 27.) -/
def atomAt (off : Nat) : Option (Nat × Nat) :=
  if R.ATOM_ADDR 0 ≤ off ∧ off < R.ATOM_ADDR 5 then some ((off - R.ATOM_ADDR 0) / 0x20, (off - R.ATOM_ADDR 0) % 0x20) else none

/-- R512: a write of a register of atomic unit i: one that R63 admits has an effect only from the unit's own requester. -/
def State.atomReg (r : Req) (i o off v : Nat) (s : State) : State :=
  if s.dev.reach r off = false then s
  else if s.dev.mayWrite r off = false then { s with dev := s.dev.viol off }
  else if r.id ≠ i then s
  else if o = 4 then
    (if v % 4 = 0 then s else s.atomicWrite r (v % 4) 0)
  else { s with dev := s.dev.guarded r off (Dev.plainWrite off v) }

/-- A 32-bit write to an offset of the window. -/
def State.writeReg (r : Req) (off v : Nat) (s : State) : State :=
  let v := v % 2 ^ 32
  match hdrOf off with
  | some (base, ho, first) => { s with dev := s.dev.headWrite r off v base ho first }
  | none =>
    match winAt off with
    | some w => { s with dev := s.dev.winWrite r w off v }
    | none =>
      match atomAt off with
      | some (i, o) => s.atomReg r i o off v
      | none =>
        match blkOf off with
        | none => s
        | some (row, i, _) =>
          if R.BENCH_OWN 0 ≤ off ∧ off ≤ R.BENCH_OWN 63 then
            { s with dev := s.dev.guarded r off (Dev.benchOwnWrite r ((off - R.BENCH_OWN 0) / 4) v) }
          else { s with dev := s.dev.blkReg row.blk i r off v }

/-- R12: which accesses are carried out: aligned ones of 4 bytes, and aligned ones of 8 as two, the lower first. -/
def accessOk (off size : Nat) : Bool := (size == 4 && off % 4 == 0) || (size == 8 && off % 8 == 0)

/-- A write of 4 or 8 bytes (R12). -/
def State.writeSized (r : Req) (off size v : Nat) (s : State) : State :=
  if accessOk off size = false then s
  else if size = 8 then (s.writeReg r off v).writeReg r (off + 4) (v / 2 ^ 32)
  else s.writeReg r off v

/-- The configuration set's own number of a table word, none where the word is outside it: the tables of R295 in their live
copies, static MAC entries, the stream, CPE and profile tables (R563), with the bits that the B960 maintains left out. -/
def Dev.cfgTab (s : Dev) (t i w : Nat) : Option (Nat × Nat) :=
  let m := (s.curSlot (R.RULE_VER_INFLIGHT 0)).getD 0
  let g := (s.curSlot (R.PARS_LIVE 0)).getD 0
  if t = T.mac then (if s.tfld T.mac i 0 30 30 = 1 then some (t, 0xFFFFFFFF) else none)
  else if t = T.matOf m then some (T.matStaged, 0xFFFFFFFF)
  else if t = T.startOf g then some (T.startStaged, 0xFFFFFFFF)
  else if t = T.slot ∧ w = 2 then some (t, 0xFFF8FFFF)
  else if t = T.gate ∧ w = 0 then some (t, 0xBFFFFFFF)
  else if t = T.txSa ∨ t = T.rxSa then
    (if w = 0 then some (t, 0xBFFFFFFF) else if w = 1 ∨ w = 2 then none else some (t, 0xFFFFFFFF))
  else if [T.vlan, T.stream, T.can11, T.can29, T.ruleKey, T.ruleCtl, T.node, T.slot, T.hbuf, T.sid, T.filter, T.gate, T.gpool,
      T.meter, T.rcvy, T.gen, T.ats, T.atsGrp, T.secy, T.rxSc, T.canSec, T.gwyProf, T.prof].contains t then some (t, 0xFFFFFFFF)
  else if T.gclOpr 0 ≤ t ∧ t < T.gclOpr 38 then some (t, 0xFFFFFFFF)
  else none

/-- Bits [255:192] of SHA3-256 over a word of the configuration set and its address (R563). -/
def cfgHash (key w : Nat) : Nat := beNat ((sha3_256 (Config.cfgMsg key w)).take 8)

/-- The change that a word makes to the digest against its value after reset. -/
def cfgDelta (key old new : Nat) : Int := (cfgHash key new : Int) - cfgHash key old

/-- The configuration digest (R563). -/
def Dev.digest (s : Dev) : Nat :=
  let regs := (s.regs.filter fun e => isCfgReg e.1).foldl
    (fun a e => a + cfgDelta e.1 (regReset e.1).toNat e.2.toNat) (0 : Int)
  let tabs := s.tabs.foldl (fun (a : Int) e =>
    let t := e.1 / 64 / 2 ^ 32
    let i := e.1 / 64 % 2 ^ 32
    let w := e.1 % 64
    match s.cfgTab t i w with
    | none => a
    | some (t', m) => a + cfgDelta (2 ^ 24 + tabKey t' i w) 0 (e.2.toNat &&& m)) 0
  let vers := cfgDelta (2 ^ 80) 0 s.ruleVer + cfgDelta (2 ^ 80 + 1) 0 (s.curVer (R.PARS_LIVE 0))
  unsgn 64 (Config.cfgBase + regs + tabs + vers)

/-- The value of a register that the block computes when it is read; none for a stored one. -/
def Dev.peekBlk (b : Blk) (i off o : Nat) (s : Dev) : Option Nat :=
  match b with
  | .intc => s.intcPeek o
  | .buf => s.bufPeek off
  | .pars =>
    if R.PARS_LIVE 0 ≤ off ∧ off ≤ R.PARS_LIVE 3 ∧ s.bit off 31 = true then
      some (withBits (s.rd off) 19 0 (s.inflight false (s.fld off 27 20)))
    else none
  | .rule =>
    if R.RULE_VER_INFLIGHT 0 ≤ off ∧ off ≤ R.RULE_VER_INFLIGHT 3 ∧ s.bit off 31 = true then
      some (withBits (s.rd off) 19 0 (s.inflight true (s.fld off 27 20)))
    else none
  | .mir => if off = R.CAP_RECS then some (s.rd off % 2 ^ 20) else none
  | .flow => if R.FLOW_USED 0 ≤ off ∧ off ≤ R.FLOW_USED 3 then some (s.flowUsed ((off - R.FLOW_USED 0) / 4)) else none
  | .fwd =>
    if off = R.FWD_LEARN_STAT then some s.lk.learn.length
    else if off = R.FWD_DYN_USED then some s.macDyn.length
    else none
  | .key =>
    let n := s.fld R.KEY_SLOT_SEL 9 0
    let k := s.slot n
    if off = R.KEY_SLOT_STAT then some (s.slotStat n)
    else if off = R.KEY_SLOT_ATTR then some k.attr
    else if off = R.KEY_USE_LO then some (k.use % 2 ^ 32)
    else if off = R.KEY_USE_HI then some (k.use / 2 ^ 32)
    else if off = R.KEY_LIMIT_LO then some (k.limit % 2 ^ 32)
    else if off = R.KEY_LIMIT_HI then some (k.limit / 2 ^ 32)
    else none
  | .eth =>
    if (off = R.ETH_TC10 i ∧ (i < 12 ∨ 28 ≤ i)) ∨ (off = R.ETH_PLCA i ∧ i < 28) then some 0
    else if off = R.ETH_SQI i ∧ s.portState i ≠ 2 then some (withBits (s.rd off) 2 0 0)
    else none
  | .pair =>
    if off = R.PAIR_DIG_LO then some (s.digest % 2 ^ 32)
    else if off = R.PAIR_DIG_HI then some (s.digest / 2 ^ 32)
    else none
  | _ => none

/-- The value that a register holds, without what a read of it changes. -/
def Dev.peek (s : Dev) (off : Nat) : Nat :=
  match hdrOf off with
  | some (base, ho, first) => s.readHdr off base ho first
  | none =>
    match snapLive off with
    | some live => s.snapWord live
    | none =>
      match blkOf off with
      | none => 0
      | some (row, i, o) => if row.blk.absent i o then 0 else (s.peekBlk row.blk i off o).getD (s.rd off)

/-- Whether an offset is a low-order register of R13: SNAP_TURN_LO of a header, or one of a block. -/
def isLo (off : Nat) : Bool :=
  match hdrOf off with
  | some (_, ho, _) => ho == 0x30
  | none =>
  match blkOf off with
  | none => false
  | some (row, _, o) => row.blk.los.any fun x => decide (x.1 ≤ o ∧ (o - x.1) % x.2.2 = 0 ∧ (o - x.1) / x.2.2 < x.2.1)

/-- The domain whose time group an offset lies in, with its place in the group (R376). -/
def domGroup (off : Nat) : Option (Nat × Nat) :=
  if R.TD_S_LO 0 ≤ off ∧ off < R.TD_S_LO 8 ∧ (off - R.TD_S_LO 0) % 0x40 < 0x10 then
    some ((off - R.TD_S_LO 0) / 0x40, (off - R.TD_S_LO 0) % 0x40)
  else none

/-- Whether an offset is read through a requester's holding register (R13). -/
def isHi (off : Nat) : Bool :=
  decide (4 ≤ off ∧ isLo (off - 4) = true) || off == R.TIME_FRC 1 || off == R.TIME_FRC 2 ||
    (match domGroup off with
    | some (_, g) => g != 0
    | none => false)

/-- R16, RC: what a read of a register clears. (DESIGN CHOICE, log entry 14.) -/
def Dev.readClear (off : Nat) (s : Dev) : Dev :=
  if off = R.TURN_LOAD_MAX ∨ off = R.FWD_SHD_STAT ∨ off = R.BUF_BURR_INFO ∨ off = R.BUF_UNCORR_INFO ∨ off = R.CPE_CAN_FAIL ∨
      off = R.HST_MISMATCH ∨ off = R.BENCH_ERR_INFO ∨ off = R.DRAM_CORR_INFO ∨ off = R.DRAM_UNCORR_INFO then s.wr off 0
  else if off = R.BUF_FREE_MIN then s.setCk { s.ck with freeMin := s.freeCells.toNat }
  else if R.QCFG 0 ≤ off ∧ off < R.QCFG 304 ∧ off % 16 = 8 then
    let q := (off - R.QCFG 0) / 16
    s.setQ q { s.qst q with max := 0 }
  else if R.TRU_TXRES_MAX 0 ≤ off ∧ off ≤ R.TRU_TXRES_MAX 31 ∧ (off - R.TRU_TXRES_MAX 0) % 0x20 = 0 then s.wr off 0
  else if R.ETH_SQI 0 ≤ off ∧ off ≤ R.ETH_SQI 31 ∧ (off - R.ETH_SQI 0) % 0x1000 = 0 then
    s.setFld off 10 8 (if s.portState ((off - R.ETH_SQI 0) / 0x1000) = 2 then s.fld off 2 0 else 0)
  else s

/-- A read of a register by a requester that reaches it: it answers, fills holding registers (R13), pops, claims or clears. -/
def Dev.readReg (r : Req) (off : Nat) (s : Dev) : Dev :=
  if s.reach r off = false then s.answer 0
  else if off = R.TIME_FRC 0 then s.frc0Read r
  else if off = R.TCAP_E 0 then s.tcapPop
  else if off = R.TSF_E 0 then s.tsfPop
  else if R.INTC_CLAIM 0 ≤ off ∧ off ≤ R.INTC_CLAIM 3 then s.claim r ((off - R.INTC_CLAIM 0) / 4)
  else
    match domGroup off with
    | some (k, 0) => s.tdSLoRead r k
    | _ =>
      if isHi off then s.answer (s.heldAs r off)
      else
        let s := if C.ETH_LPI_TIME 0 ≤ off ∧ off ≤ C.ETH_LPI_TIME 31 ∧ (off - C.ETH_LPI_TIME 0) % 0x1000 = 0 then
            s.lpiTouch ((off - C.ETH_LPI_TIME 0) / 0x1000) else s
        let v := s.peek off
        let s := if isLo off then s.holdAs r (off + 4) (s.peek (off + 4)) else s
        (s.readClear off).answer v

/-- A read of 4 or 8 bytes (R12). -/
def Dev.readSized (r : Req) (off size : Nat) (s : Dev) : Dev :=
  if accessOk off size = false then s.answer 0
  else if size = 8 then
    let a := s.readReg r off
    let b := a.readReg r (off + 4)
    b.answer (a.rdata.toNat % 2 ^ 32 + 2 ^ 32 * b.rdata.toNat)
  else s.readReg r off

/-- REGISTER_WRITE (R16): a write of `size` bytes. -/
def execRegisterWrite (r : Req) (off size v : Nat) (s : State) : Host.Outcome State Fault Refusal :=
  .next (s.writeSized r off size v)

/-- LO_REGISTER_READ (R13): a read of `size` bytes. A register that is not low-order answers as its own rules say. -/
def execLoRegisterRead (r : Req) (off size : Nat) (s : State) : Host.Outcome State Fault Refusal :=
  onDev (Dev.readSized r off size) s

/-- RC_READ (R16). -/
def execRcRead (r : Req) (off : Nat) (s : State) : Host.Outcome State Fault Refusal :=
  onDev (fun s => if off % 4 = 0 then s.readReg r off else s.answer 0) s

/-- SOFT_RST (R61) of the unit that an offset lies in: PG_CTRL is written with its other fields as they stand. -/
def execSoftRst (r : Req) (p : Nat) (s : State) : Host.Outcome State Fault Refusal :=
  let o := unitBase p + 0x0C
  .next (s.writeReg r o (s.dev.rd o ||| 2))

/-- EV_FORCE (R62) of the unit that an offset lies in. -/
def execEvForce (r : Req) (p v : Nat) (s : State) : Host.Outcome State Fault Refusal :=
  .next (s.writeReg r (unitBase p + 0x20) v)

/-- PG_OWNER_WRITE (R64). -/
def execPgOwnerWrite (r : Req) (p v : Nat) (s : State) : Host.Outcome State Fault Refusal :=
  .next (s.writeReg r (unitBase p + 0x24) v)

/-- PG_LOCK_WRITE (R66). -/
def execPgLockWrite (r : Req) (p v : Nat) (s : State) : Host.Outcome State Fault Refusal :=
  .next (s.writeReg r (unitBase p + 0x28) v)

/-- SAT_CLEAR (R366): a write to a register of SAT bits. -/
def execSatClear (r : Req) (off v : Nat) (s : State) : Host.Outcome State Fault Refusal :=
  if isSatReg off then .next (s.writeReg r off v) else .next s

end Sys2Proof.Machine
end

