-- ==== Sys2Proof/Machine/Load.lean ====
section
/-! DEFINITION. The sections of an image (R96 to R102) as the TABLES stage, a wake from SLEEP and an activation load them; data-plane
release and host release (R111); the second half of an activation (R584, R585). -/

namespace Sys2Proof.Machine

/-- A section type of R97. -/
def secKnown (ty : Nat) : Bool := decide (1 ≤ ty ∧ ty ≤ 0xD)

/-- The INST column of R97. -/
def secInstOk (e : DirEnt) : Bool :=
  if e.type = 8 then decide (e.inst < 24) else if e.type = 0xA then decide (e.inst < 38) else e.inst == 0

/-- A section of an unknown type that is skipped and counted (R96); metadata is not counted (R97). -/
def secSkipped (e : DirEnt) : Bool := !secKnown e.type && decide (e.type < 0x8000)

/-- R96 to R98: the directory's types and instance numbers are in order. -/
def secsOk : List DirEnt → Bool
  | [] => true
  | e :: es =>
    (if secKnown e.type then secInstOk e else if secSkipped e then e.opt else true) &&
      !(es.any fun f => decide (f.type = e.type ∧ f.inst = e.inst)) && secsOk es

/-- R98: the sections with a meaning in the order in which they are loaded. HST_FW stays in the Headstock region. -/
def loadOrder (es : List DirEnt) : List DirEnt :=
  sortBy (fun a b => decide (a.type * 2 ^ 16 + a.inst ≤ b.type * 2 ^ 16 + b.inst)) (es.filter fun e => secKnown e.type && e.type != 1)

/-- R100: an offset that a REG_INIT record may target. -/
def regInitOk (off : Nat) : Bool :=
  decide (off < 2 ^ 24 ∧ off % 4 = 0) &&
  match blkOf off with
  | none => false
  | some (r, _, _) => !(r.blk == .glb || r.blk == .cmb || r.blk == .boot || r.blk == .key || r.blk == .lcs)

/-- The words of a record of a section type after its index word (R97, R221, R247, R408, chapters 12, 14 and 24); none where the
index lies outside the format's range. -/
def recSize (ty i : Nat) : Option Nat :=
  if ty = 2 then (if regInitOk i then some 1 else none)
  else if ty = 3 then (if i ≤ 0xFF then some 16 else if 0x1000 ≤ i ∧ i ≤ 0x1025 then some 1 else none)
  else if ty = 4 then
    (if i ≤ 0x7FFF then some 23 else if (0x10000 ≤ i ∧ i ≤ 0x10FFF) ∨ (0x20000 ≤ i ∧ i ≤ 0x2004F) then some 1 else none)
  else if ty = 5 then (if i < 131072 then some 4 else none)
  else if ty = 6 then (if i < 4096 then some 4 else none)
  else if ty = 7 then (if i < 4096 then some 2 else none)
  else if ty = 8 then (if i < 2048 then some 3 else none)
  else if ty = 9 then (if i < 16384 then some 4 else none)
  else if ty = 0xA then (if i < 1024 then some 2 else none)
  else if ty = 0xB then
    (if i < 8192 then some 3 else if Config.ttsBufIndex ≤ i ∧ i < Config.ttsBufIndex + 1536 then some 2 else none)
  else if ty = 0xC then (if i ≤ 3 then some 3 else none)
  else if ty = 0xD then (if 0x40 ≤ i ∧ i ≤ 0x6C ∧ i % 4 = 0 then some 1 else none)
  else none

/-- The records of a section's words, index and entry words; none where an index is out of range, or where the last record
is cut off (DESIGN CHOICE, log entry 114). -/
def recordsOf (size : Nat → Option Nat) : Nat → List Nat → Option (List (Nat × List Nat))
  | _, [] => some []
  | 0, _ => none
  | fuel + 1, i :: ws =>
    match size i with
    | none => none
    | some k => if ws.length < k then none else (recordsOf size fuel (ws.drop k)).map fun l => (i, ws.take k) :: l

/-- The records of a section of an image. -/
def secRecs (img : List Word) (e : DirEnt) : Option (List (Nat × List Nat)) :=
  recordsOf (recSize e.type) e.len (((img.drop (e.off / 4)).take (e.len / 4)).map (·.toNat))

/-- R247: every wide entry of a RULES section has its partner. -/
def wideOk (rs : List (Nat × List Nat)) : Bool :=
  let wide (r : Nat × List Nat) : Bool := decide (r.1 ≤ 0x7FFF) && (r.2.getD 20 0).testBit 31 && (r.2.getD 20 0).testBit 29
  rs.all fun r => !wide r || rs.any fun p => wide p && p.1 == (if r.1 % 2 = 0 then r.1 + 1 else r.1 - 1)

/-- The checks of a section's records beyond their form: wide rules and static MAC entries (chapter 12). -/
def recsOk (ty : Nat) (rs : List (Nat × List Nat)) : Bool :=
  if ty = 4 then wideOk rs else if ty = 5 then rs.all fun r => (r.2.getD 0 0).testBit 30 else true

/-- A table entry with the shadow that shadow compare keeps of it (R101). -/
def Dev.putBoth (t i sh j : Nat) (ws : List Nat) (s : Dev) : Dev := (s.setEntry t i ws).setEntry (T.shadow sh) j ws

/-- R247: word 0 of a loaded rule entry: live from version 0, or staged for the version to come. -/
def loadCtl (live : Bool) (w : Nat) : Nat :=
  (w &&& 0xAFFF0000) + if w.testBit 31 then (if live then 0x40000000 else 0x50000000) else 0

/-- A record of a PARSER section (R221), in the staged copy and, when `live`, in that of version 0. -/
def Dev.putParser (live : Bool) (i : Nat) (ws : List Nat) (s : Dev) : Dev :=
  if i ≤ 0xFF then s.putBoth T.node i 7 i (Win.pars.words 0 ws)
  else
    let e := i - 0x1000
    let ws := Win.pars.words 1 ws
    Dev.when live (Dev.setEntry (T.startOf 0) e ws) (s.putBoth T.startStaged e 8 e ws)

/-- A record of a RULES section (R247). -/
def Dev.putRule (live : Bool) (i : Nat) (ws : List Nat) (s : Dev) : Dev :=
  if i ≤ 0x7FFF then
    let c := loadCtl live (ws.getD 20 0) :: (ws.drop 21).take 2
    (((s.putBoth T.ruleKey i 4 i (ws.take 20)).putBoth T.ruleCtl i 5 i c).setEntry T.ruleHit i [0, 0])
  else if i < 0x20000 then
    let e := i - 0x10000
    Dev.when live (Dev.setEntry (T.matOf 0) e ws) (s.putBoth T.matStaged e 6 e ws)
  else
    let e := i - 0x20000
    let ws := [ws.getD 0 0 % 64]
    Dev.when live (Dev.setEntry (T.zoneOf 0) e ws) (s.setEntry T.zoneStaged e ws)

/-- A record of a GCL section of port n (chapter 14). An activation leaves the operating list of a port with GATE_EN to its next
configuration change. -/
def Dev.putGcl (live : Bool) (n i : Nat) (ws : List Nat) (s : Dev) : Dev :=
  let ws := (Win.tsn n).words 0 ws
  let s := (s.setEntry (T.gclAdm n) i ws).setEntry (T.shadow 9) (1024 * n + i) ws
  if live = true ∨ s.bit (R.TSN_CTRL n) 31 = false then s.setEntry (T.gclOpr n) i ws else s

/-- A record of a TTS_MATRIX section (chapter 07): slot entries and hold buffers. -/
def Dev.putTts (live : Bool) (i : Nat) (ws : List Nat) (s : Dev) : Dev :=
  if i < 8192 then
    let ws := Win.tts.words 1 ws
    Dev.when live (Dev.setEntry T.slot i ws) ((s.setEntry T.slotStaged i ws).setEntry (T.shadow 10) i ws)
  else
    let j := i - Config.ttsBufIndex
    let ws := Win.tts.words 3 ws
    Dev.when live (Dev.setEntry T.hbuf j ws) ((s.setEntry T.hbufStaged j ws).setEntry (T.shadow 11) j ws)

/-- The RW bits of a register that an image section loads, whether locked or not: only REG_INIT records are writes (R100; log entry
69). (DEDUCED, log entry 69.) -/
def Dev.loadReg (off v : Nat) (s : Dev) : Dev :=
  match blkOf off with
  | none => s
  | some (r, _, o) =>
    match r.blk.row? o with
    | none => s
    | some row =>
      let m := BitVec.ofNat 32 row.rw
      s.setReg off ((s.reg off &&& ~~~m) ||| (BitVec.ofNat 32 v &&& m))

/-- A record of a table section (R97, R101). `live` at boot and at wake, not in an activation. -/
def Dev.putRec (live : Bool) (ty inst i : Nat) (ws : List Nat) (s : Dev) : Dev :=
  if ty = 3 then s.putParser live i ws
  else if ty = 4 then s.putRule live i ws
  else if ty = 5 then s.setEntry T.mac i (macClean (Win.fwd.words 0 ws))
  else if ty = 6 then s.putBoth T.vlan i 0 i (Win.fwd.words 1 ws)
  else if ty = 7 then s.putBoth T.stream i 1 i (Win.fwd.words 2 ws)
  else if ty = 8 then s.putBoth T.can11 (2048 * inst + i) 2 (2048 * inst + i) (Win.fwd.words 3 ws)
  else if ty = 9 then s.putBoth T.can29 i 3 i (Win.fwd.words 4 ws)
  else if ty = 0xA then s.putGcl live inst i ws
  else if ty = 0xB then s.putTts live i ws
  else if ty = 0xC then
    ((s.loadReg (R.TRU_PCFG i) (ws.getD 0 0)).loadReg (R.TRU_EXT_RX i) (ws.getD 1 0)).loadReg (R.TRU_EXT_TX i) (ws.getD 2 0)
  else s.loadReg (0x128000 + i) (ws.getD 0 0)

/-- An offset is a page's PG_LOCK. -/
def isPgLock (off : Nat) : Bool :=
  match hdrOf off with
  | some (_, 0x28, _) => true
  | _ => false

/-- One record (R97, R100): REG_INIT records are writes by HST, those to PG_LOCK held for the end of the stage. -/
def State.putOne (live : Bool) (ty inst : Nat) (r : Nat × List Nat) (s : State) : State :=
  let v := r.2.getD 0 0
  if ty = 2 then
    if isPgLock r.1 then
      { s with dev := { s.dev with boot := { s.dev.boot with locks := s.dev.boot.locks ++ [(r.1, BitVec.ofNat 32 v)] } } }
    else s.writeReg .hst r.1 v
  else { s with dev := s.dev.putRec live ty inst r.1 r.2 }

/-- One section; none where it fails with SECTION. -/
def State.loadSec (live : Bool) (img : List Word) (e : DirEnt) (s : State) : Option State :=
  match secRecs img e with
  | none => none
  | some rs => if recsOk e.type rs then some (forL rs (State.putOne live e.type e.inst) s) else none

/-- The sections of an image whose types are listed, in order (R97, R98). (DEDUCED, log entry 26.) -/
def State.loadSecs (live : Bool) (types : List Nat) (img : List Word) (s : State) : Option State :=
  if secsOk (dirOf img) = false then none
  else
    ((loadOrder (dirOf img)).filter fun e => types.contains e.type).foldl
      (fun a e => match a with
        | none => none
        | some t => t.loadSec live img e) (some s)

/-- R100: the held writes to PG_LOCK. -/
def State.applyLocks (s : State) : State :=
  let t := forL s.dev.boot.locks (fun p t => t.writeReg .hst p.1 p.2.toNat) s
  { t with dev := { t.dev with boot := { t.dev.boot with locks := [] } } }

/-- Each schedule takes the range that TTS_CH_MATRIX names (DEDUCED, log entry 66). -/
def Dev.ttsAdopt (s : Dev) : Dev :=
  forN 24 (fun n s => s.setTts n { s.ttsCh n with base := (s.stagedRange n).1, count := (s.stagedRange n).2 }) s

/-- The BOOT registers of the running image (R107, R584). -/
def Dev.showImage (img : List Word) (dig : List Byte) (s : Dev) : Dev :=
  let s := (s.wr R.BOOT_BUILD (wordAt img 7)).wr R.BOOT_EPOCH (bitsOf (wordAt img 5) 31 16)
  forN 8 (fun k s => s.wr (R.BOOT_DIGEST k) (leNat ((dig.drop (4 * k)).take 4))) s

/-- R96: the optional sections of unknown type, counted. -/
def Dev.countSkips (img : List Word) (s : Dev) : Dev := s.incBy C.BOOT_SKIP_CNT ((dirOf img).filter secSkipped).length

/-- All section types. -/
def allSecs : List Nat := [2, 3, 4, 5, 6, 7, 8, 9, 0xA, 0xB, 0xC, 0xD]

/-- TABLES_STAGE_DONE (R97 to R102, R111): the sections are loaded and the locks applied, or the candidate fails with SECTION. -/
def execTablesStageDone (s : State) : Host.Outcome State Fault Refusal :=
  if s.dev.atStage 7 = false then .next s
  else
    let img := s.dev.boot.image
    match s.loadSecs true allSecs img with
    | none => .next { s with dev := s.dev.candFail 0x0C }
    | some t =>
      let t := t.applyLocks
      let d := ((t.dev.ttsAdopt.showImage img t.dev.boot.digest).wr R.BOOT_SKIP_CNT 0).countSkips img
      .next { t with dev := d.setStage 8 }

/-- R102: the loaded rule sets and graph are live as version 0. -/
def Dev.versionZero (s : Dev) : Dev :=
  ((s.wr (R.RULE_VER_INFLIGHT 0) (3 * 2 ^ 30)).wr (R.PARS_LIVE 0) (3 * 2 ^ 30)).parsShow.ruleShow

/-- R24: the legacy channels' readiness changes; CAN_STAT shows it as NOT_READY. -/
def Dev.lineReady (ok : Bool) (s : Dev) : Dev := forN 24 (fun n s => s.setBit (R.CAN_STAT n) 27 (!ok)) s

/-- R24, R144, R192: no channel drives its bus any more: CAN attempts end without success, and an RS-485 frame in transmission stays at the
head of its queue. -/
def Dev.linesQuiet (s : Dev) : Dev :=
  forN 4 (fun n s => if s.serState n = 3 then s.setFld (R.SER_STAT n) 31 28 1 else s) (forN 24 Dev.attFail s)

/-- R550, R557: the pair block at a release: a member strapped to a pair starts in ALONE with ROLE 0, any other holds the role. -/
def Dev.pairRelease (s : Dev) : Dev :=
  let s := s.setPair { seqs := s.pair.seqs, relAt := s.time.frc }
  let s := ((s.pairGoto 0).setBit R.PAIR_STAT 26 false).setBit R.PAIR_STAT 27 (!s.bit R.BOOT_STRAP 2)
  { s with pins := { s.pins with failover := false } }

/-- What data-plane release and legacy release share (R50, R102, R111, R533): version 0 live, the turn from TURN_CNT 0, the first gate
list changes computed, the channels ready with their link, the pair block started. -/
def Dev.dataRelease (s : Dev) : Dev :=
  let s := (s.versionZero.wr64 R.TURN_CNT_LO 0).lineReady s.pwr.dieLink
  let s := { s with turn := { s.turn with rebase := true, last := s.time.frc } }
  let s := { s.pairRelease with pins := { s.pairRelease.pins with safe := s.pwr.xtalOk } }
  s.inhTo 0

/-- R344: the first gate list change of every port with GATE_EN set. -/
def Dev.gateRelease (s : Dev) : Dev := forN 38 (fun n s => if s.bit (R.TSN_CTRL n) 31 then s.changeReq n else s) s

/-- DP_RELEASE (R111): the data plane runs, `us` microseconds after PORST_N rose. -/
def execDpRelease (us : Nat) (s : State) : Host.Outcome State Fault Refusal :=
  onDev (fun s =>
    if s.atStage 8 = false then s
    else
      let s := s.dataRelease.gateRelease
      let s := (s.setPwr { s.pwr with phase := .active, step := 0, from_ := 0 }).setFld R.PWR_STAT 31 28 0
      let s := forN 32 Dev.portStart s
      (s.setStage 9).wr R.BOOT_T_DP us) s

/-- Host release (R111, R76): the hosts are answered and BOOT_DONE is raised. -/
def Dev.hostRelease (s : Dev) : Dev :=
  let s := (s.setPwr { s.pwr with hostRel := true }).setBit R.BOOT_STAT 15 true
  let s := s.raise 0x8000 0
  let s := if s.bit R.BOOT_STAT 13 then s.raise 0x8000 1 else s
  let s := if s.rd R.BOOT_SKIP_CNT = 0 then s else s.raise 0x8000 2
  s.intcSettle

/-- HOST_RELEASE (R111, R533 step 10): `us` microseconds after PORST_N rose. After a wake the Headstock has started, banks 0 to 59 are
wiped and the public keys made again first. -/
def execHostRelease (us : Nat) (s : State) : Host.Outcome State Fault Refusal :=
  if s.dev.atStage 9 then .next { s with dev := (s.dev.hostRelease.setStage 0xA).wr R.BOOT_T_HOST us }
  else if s.dev.pins.porst = true ∧ s.dev.stage = 0xA ∧ s.dev.pwr.hostRel = false ∧ s.dev.pwr.step = 4 then
    let d := s.dev.setPwr { s.dev.pwr with step := 0 }
    .next { s with dev := d.makePublic.hostRelease, bench := benchWipe 0 (bankBase 60) s.bench }
  else .next s

/-- A table with every entry cleared. -/
def Dev.clearTab (t : Nat) (s : Dev) : Dev :=
  let lo := tabKey t 0 0
  let hi := tabKey (t + 1) 0 0
  { s with tabs := s.tabs.filter fun e => !decide (lo ≤ e.1 ∧ e.1 < hi) }

/-- R585: entries that the image may not carry are invalidated, in the tables that it replaces. -/
def Dev.clearReplaced (s : Dev) : Dev :=
  let s := forL [T.vlan, T.stream, T.can11, T.can29, T.slotStaged, T.hbufStaged, T.shadow 0, T.shadow 1, T.shadow 2, T.shadow 3, T.shadow 9,
    T.shadow 10, T.shadow 11] Dev.clearTab s
  let s := forL (s.listed T.mac 0) (fun i s => if s.tfld T.mac i 0 30 30 = 1 then s.setEntry T.mac i [0, 0, 0, 0] else s) s
  forN 38 (fun n s => (Dev.when (!s.bit (R.TSN_CTRL n) 31) (Dev.clearTab (T.gclOpr n)) s).clearTab (T.gclAdm n)) s

/-- R585, R70: the lists and schedules that the image brought are asked for through their classes. -/
def Dev.askReplaced (s : Dev) : Dev :=
  let s := s.gateRelease
  forN 24 (fun n s => if (s.stagedRange n).2 = 0 ∧ (s.ttsCh n).count = 0 then s else s.ttsSwap n 1) s

/-- The sections of step 4 of the pause. -/
def pauseSecs : List Nat := [2, 5, 6, 7, 8, 9, 0xA, 0xB, 0xC, 0xD]

/-- A read of the pause fails its digest (R584): the old firmware resumes and the slot stays STAGED. -/
def Dev.pauseFail (s : Dev) : Dev := s.setUpd { s.upd with pause := 0, state := 2, ev := s.upd.ev ||| 4 }

/-- ACTIVATE_SECTIONS_LOADED (R584 step 4, R585): the sections match their digests and are loaded, or no table changes. A section whose
records are not in order counts as one that fails (DEDUCED, log entry 67). -/
def execActivateSectionsLoaded (ok : Bool) (s : State) : Host.Outcome State Fault Refusal :=
  if s.dev.upd.pause ≠ 3 then .next s
  else
    let img := s.dev.upd.image
    let t : State := { s with dev := s.dev.clearReplaced }
    match (if ok then t.loadSecs false pauseSecs img else none) with
    | none => .next { s with dev := s.dev.pauseFail }
    | some t =>
      match (if ok then s.loadSecs false [3, 4] img else none) with
      | none => .next { s with dev := s.dev.pauseFail }
      | some _ =>
        let d := (t.applyLocks.dev.countSkips img).askReplaced
        .next { t.applyLocks with dev := d.setUpd { d.upd with pause := 4 } }

/-- R584 step 5, R585: at an edge of the pause the image's rules and graph become current as new versions: open entries of the old
set end, those of the image are staged over what stands at their indices (DEDUCED, log entry 68). None while no slot is free. -/
def Dev.pauseVersions (s : Dev) : Option Dev :=
  let img := s.upd.image
  let s := forL (s.listed T.ruleCtl 0) (fun i s => s.setTab T.ruleEnd i 0 1) s
  let s := forL [T.startStaged, T.matStaged, T.zoneStaged, T.shadow 6, T.shadow 8] Dev.clearTab s
  let put (ty : Nat) (s : Dev) : Dev :=
    match (dirOf img).find? fun e => e.type == ty with
    | none => s
    | some e => forL ((secRecs img e).getD []) (fun r s => s.putRec false ty 0 r.1 r.2) s
  match ((put 4 (put 3 s)).parsApply (s.curVer (R.PARS_LIVE 0) + 1)) with
  | none => none
  | some t => t.ruleApply t.nextVer

/-- R584: the edge's part of the pause: its beginning, and step 5. -/
def Dev.pauseEdge (s : Dev) : Dev :=
  if s.upd.pause = 1 then s.setUpd { s.upd with pause := 2 }
  else if s.upd.pause = 4 then
    match s.pauseVersions with
    | none => s
    | some t => (t.setUpd { t.upd with pause := 5 }).parsShow.ruleShow
  else s

/-- ACTIVATED (R584 step 6, R498, R588): the boot registers take the new image, device slot 2 is derived again unless a tamper latch
is set, and the engine enters IDLE. A STANDBY member asks for a resync. -/
def execActivated (s : State) : Host.Outcome State Fault Refusal :=
  if s.dev.upd.pause ≠ 5 then .next s
  else
    let d := s.dev
    let img := d.upd.image
    let slot := d.inactiveSlot
    let dig := sha3_256 (wordSlice img 0 (wordAt img 11))
    let b := { d.boot with image := img, digest := dig, hdrA := if slot = 0 then img else d.boot.hdrA, hdrB := if slot = 1 then img else d.boot.hdrB }
    let d := ({ d with boot := b }).setFld R.BOOT_STAT 7 6 slot
    let d := (d.showImage img dig).showSlot (slot == 1) 0 (some img)
    let d := if s.vault.latch ≠ 0 then d
      else
        let d := d.setSlot 2 (deviceSlot (deviceKey s.vault.fuses (d.attestX dig d.runSecVer)) 0)
        d.setPublic T.keyAtt (Config.mldsaPublic (d.slot 2).key)
    let d := (d.setUpd { d.upd with pause := 0, ev := d.upd.ev ||| 2 }).updIdle
    .next { s with dev := if d.pairState = 2 then d.resyncAsk else d }

end Sys2Proof.Machine
end

