-- ==== Sys2Proof/Machine/Power.lean ====
section
/-! DEFINITION. The sequences of the Tailstock (chapter 23): REST and SLEEP entry, REST exit, the wake from SLEEP; wake pins, battery,
supplies, clocks and the die-to-die link (R24, R44, R45, R598); tamper inputs (R496 to R498); and what wakes through the INTC. -/

namespace Sys2Proof.Machine

/-- The copies that wait for an insertion into the flow table. -/
def Dev.insCopies (s : Dev) : List Copy :=
  s.lk.ins.flatMap fun e => e.2.flatMap fun q =>
    match q with
    | .track _ _ _ _ _ _ cs => cs
    | .pass _ _ cs => cs
    | _ => []

/-- No head and no copy waits anywhere. -/
def Dev.drained (s : Dev) : Bool :=
  s.descUsed == 0 && s.ck.hold.isEmpty && s.ck.spn.isEmpty && s.ck.recirc.isEmpty && s.insCopies.isEmpty

/-- R523 step 2, R524, R528 step 3: the queues are empty: LIN commanders send their channels to sleep, and before SLEEP the G ports that
may wake the device start the TC10 handshake. -/
def Dev.drainEnd (s : Dev) : Dev :=
  let s := s.setPwr { s.pwr with step := 1 }
  let s := if s.pwr.phase = .sleepEntry then
      forN 16 (fun g s =>
        if s.portState (12 + g) = 2 ∧ s.bit R.PWR_WAKE_TC10 g = true then s.setFld (R.ETH_STAT (12 + g)) 23 20 3 else s) s
    else s
  s.linSleep

/-- An entry sequence whose queues have not drained yet. -/
def Dev.draining (s : Dev) : Bool := (s.pwr.phase == .restEntry || s.pwr.phase == .sleepEntry) && s.pwr.step == 0

/-- DRAIN_DONE (R523, R528). -/
def execDrainDone (s : State) : Host.Outcome State Fault Refusal :=
  onDev (fun s => if s.draining = true ∧ s.drained = true then s.drainEnd else s) s

/-- R523: every copy that remains is discarded and counts in its queue and in DRAIN_DROPS. -/
def Dev.drainDrop (s : Dev) : Dev :=
  let w := s.insCopies
  let s := forL w (fun c s => (s.dropCopy c).inc C.PWR_DRAIN_DROPS) (s.mapIns (FlowReq.mapCopies fun _ => []))
  forL s.liveQs (fun q s =>
    let v := s.qst q
    let hs := s.heldOf q
    let s := s.setCk { s.ck with hold := s.ck.hold.filter fun h => h.1.q != q }
    let s := s.setQ q { v with sram := [], dram := [] }
    let s := forL (v.sram ++ hs) (fun c s => (s.dropCopy c).inc C.PWR_DRAIN_DROPS) s
    forL v.dram (fun c s =>
      let s := ((s.qDrop q).tsfDropped c).inc C.PWR_DRAIN_DROPS
      if c.saved.isSome then s else s.release c.frame) s.deepBusy) s

/-- DRAIN_TIMEOUT (R523, R528): DRAIN_US have passed since the edge that started the entry. -/
def execDrainTimeout (s : State) : Host.Outcome State Fault Refusal :=
  onDev (fun s =>
    if s.draining = true ∧ s.passed s.pwr.edgeAt (max 1 (s.fld R.PWR_CFG 15 0) * 1000) = true then
      (s.drainDrop.raise 0xA000 3).drainEnd
    else s) s

/-- R523 steps 3 and 4, R526 step 2: the flow cache is written back and empty, and the cell memory switches off: all cells are free
again. -/
def Dev.cellsOff (s : Dev) : Dev :=
  let qs := (s.ck.qs.map fun e => (e.1, { e.2 with sram := [], dram := [] })).filter fun e => e.2 != {}
  s.setCk { s.ck with frames := [], qs := qs, hold := [], spn := [], recirc := [], arriving := [], wire := [], tx := [], held := [],
                      suspects := [], lost := [], twice := [] }
    |>.mapIns (FlowReq.mapCopies fun _ => []) |>.flowCacheEmpty |>.deepBusy

/-- REST_ENTERED (R523 steps 3 and 4): the Headstock is saved and off, ports without BACKBONE are held in DISABLED, STATE reads
REST. -/
def execRestEntered (s : State) : Host.Outcome State Fault Refusal :=
  onDev (fun s =>
    if s.pwr.phase ≠ .restEntry ∨ s.pwr.step ≠ 1 then s
    else
      let s := forN 32 (fun n s =>
        if s.bit (R.ETH_CTRL n) 1 = true ∨ s.portState n = 0 ∨ s.portState n = 4 then s else s.portOff n) (forN 8 Dev.linByeEnd s)
      let s := (s.cellsOff.setFld R.HST_STAT 31 28 3).setBit R.DRAM_STAT 1 (s.bit R.DRAM_STAT 0)
      let s := (s.setPwr { s.pwr with phase := .rest, step := 0, keeper := true, sleepAt := s.tailTick }).setFld R.PWR_STAT 31 24 0x20
      let s := forN 8 (fun d s => s.setKeeper d { since := s.time.frc }) s
      let s := forN 32 (fun n s => if s.bit (R.ETH_CTRL n) 1 then s.lpiEnter n else s) s
      ((s.inhTo 1).add64 C.PWR_REST_ENTRIES 1).intcSettle) s

/-- REST_EXIT_DONE (R524, R526 steps 1 to 4, R527): ACTIVE again; the channels resume and held ports train. -/
def execRestExitDone (s : State) : Host.Outcome State Fault Refusal :=
  onDev (fun s =>
    if s.pwr.phase ≠ .restExit then s
    else
      let real := s.pwr.from_ == 1
      let own := linOwn (s.fld R.PWR_WAKE_REASON 28 24) (s.fld R.PWR_WAKE_REASON 21 16)
      let s := ((s.setBit R.DRAM_STAT 1 false).reachActive.canResume).linResume own
      let s := forN 32 Dev.portStart s
      if real then { s with lk := { s.lk with restDue := true } } else s) s

/-- HST_STATE_RESTORED (R526 step 5, R449): the firmware resumes and the MGMT target is awake. -/
def execHstStateRestored (s : State) : Host.Outcome State Fault Refusal :=
  onDev (fun s =>
    if s.pwr.phase = .active ∧ s.pwr.hostRel = true ∧ s.fld R.HST_STAT 31 28 = 3 then (s.setFld R.HST_STAT 31 28 0).intcSettle
    else s) s

/-- R532: what the wake record holds of ownership: PG_OWNER of every page with OWNER_LOCK set, then the PG_LOCK values. -/
def Dev.wakeRecLocks (s : Dev) : List (Nat × Word) :=
  ((unitPages.filter fun p => s.bit (p + 0x28) 1).map fun p => (p + 0x24, s.reg (p + 0x24))) ++
    (unitPages.filter fun p => s.rd (p + 0x28) != 0).map fun p => (p + 0x28, s.reg (p + 0x28))

/-- POINT_OF_NO_RETURN (R528 steps 4 and 5, R532, R394). The wake record is held as data (DEDUCED, log entry 70). -/
def execPointOfNoReturn (s : State) : Host.Outcome State Fault Refusal :=
  onDev (fun s =>
    if s.pwr.phase ≠ .sleepEntry ∨ s.pwr.step ≠ 1 then s
    else
      let s := forN 8 Dev.linByeEnd { s.timeSave with boot := { s.boot with locks := s.wakeRecLocks } }
      (s.setPwr { s.pwr with phase := .ponr, step := 2 }).setFld R.HST_STAT 31 28 3) s

/-- SLEEP_ENTERED (R528 step 6, R530): the domains are off; a wake event latched since the point of no return starts the wake. -/
def execSleepEntered (s : State) : Host.Outcome State Fault Refusal :=
  onDev (fun s =>
    if s.pwr.phase ≠ .ponr then s
    else
      let s := forN 32 (fun n s => if s.portState n = 4 then s else s.portOff n) s
      let t := s.tailTick
      let s := s.setPwr { s.pwr with
        phase := .sleep, step := 0, ticks := t, sleepAt := t, hostRel := false, keeper := false, dieLink := false
        minDone := s.fld R.PWR_MIN_SLEEP 15 0 == 0 }
      let s := { s.cellsOff with
        time := { saved := s.time.saved }, eps := [], hif := {}, pair := {}
        pins := { s.pins with resetOut := false, wakeA := false, wakeB := false, irq := false } }
      let s := (s.wr R.DRAM_STAT 0).inhTo 2
      if s.pwr.latched then s.wakeBegin else s) s

/-- R531, R539: the ticks of the Tailstock since the last entry sequence completed. -/
def Dev.ticksSince (s : Dev) : Nat := (s.tailTick + 2 ^ 32 - s.pwr.sleepAt % 2 ^ 32) % 2 ^ 32

/-- MIN_SLEEP_EXPIRY (R531): PWR_MIN_SLEEP ms have passed since SLEEP was reached. -/
def execMinSleepExpiry (s : State) : Host.Outcome State Fault Refusal :=
  onDev (fun s =>
    if s.pwr.phase ≠ .sleep ∨ s.ticksSince * 1000 < s.fld R.PWR_MIN_SLEEP 15 0 * 32768 then s
    else
      let s := s.setPwr { s.pwr with minDone := true }
      if s.pwr.latched then s.wakeBegin else s) s

/-- The registers that SLEEP leaves: those of PD0 (chapter 23), the BOOT and LCS pages, the identity, the
selective-wake registers of the line die (R161) and KEY_STAT, whose slots are kept. -/
def sleepKeeps (off : Nat) : Bool :=
  decide (R.PWR_INH_CFG ≤ off ∧ off ≤ R.PWR_SLEEP_TICKS) || decide (0x8040 ≤ off ∧ off < 0x8200) ||
  decide (0x10A040 ≤ off ∧ off < 0x10A200) || decide (off = R.GLB_SIREV ∨ off = R.GLB_UID_LO ∨ off = R.GLB_UID_HI ∨ off = R.DEV_FEAT 0) ||
  off == R.KEY_STAT ||
  decide (R.CAN_SWK_CTRL 0 ≤ off ∧ off < 0x68000 ∧ 0x70 ≤ off % 0x1000 ∧ off % 0x1000 < 0x90)

/-- The core die after SLEEP: everything at reset but what SLEEP keeps (R161, R363, R435, R451, R468, R533, R535). (DEDUCED, log entry 78.) -/
def Dev.wakeReset (linkOk : Bool) (s : Dev) : Dev :=
  let t := s.tailTick
  let own (n : Nat) : Bool := s.fld R.PWR_WAKE_REASON 28 24 == 1 && s.fld R.PWR_WAKE_REASON 21 16 == n
  let can := ((List.range 24).filter fun n => !own n).map fun n => (n, { fresh := true : CanSt })
  let d : Dev :=
    { regs := s.regs.filter fun e => sleepKeeps e.1, rdata := s.rdata, out := s.out, free := s.free
      pins := { s.pins with resetOut := true }, boot := s.boot, can := can
      keys := (s.keys.map fun e => (e.1, { e.2 with inUse := 0, held := none })).filter fun e => e.2 != {}
      time := { run := true, saved := s.time.saved }
      pwr := { s.pwr with dieLink := linkOk, lineSafe := false, ticks := t, pulse := [], vbatRun := 0, nm := [] } }
  let d := ((d.setBit R.PAIR_STAT 22 (s.bit R.PAIR_STAT 22)).setBit R.PWR_STAT 8 (s.bit R.PWR_STAT 8)).setFld R.HST_STAT 31 28 3
  let d := d.wr R.PWR_SLEEP_TICKS ((t + 2 ^ 32 - s.pwr.sleepAt) % 2 ^ 32)
  let d := d.timeRestore (s.rd R.TIME_SLP_RATIO)
  d.setPwr { d.pwr with ticks := (t + 2 ^ 32 - frcTicks d.time.frc % 2 ^ 32) % 2 ^ 32 }

/-- R66: the PG_LOCK values that a wake must not clear: those set now and those of the wake record that still wait. -/
def Dev.lockBits (s : Dev) : List (Nat × Word) :=
  unitPages.filterMap fun p =>
    let w := s.boot.locks.foldl (fun a e => if e.1 = p + 0x28 then a ||| e.2 else a) (s.reg (p + 0x28))
    if w = 0 then none else some (p + 0x28, w)

/-- R536: the wake goes on as a boot from HEADER; key slots stay (R535), and PG_LOCK bits are set again with the image (R66). -/
def Dev.wakeToHeader (s : Dev) : Dev :=
  let keys := s.keys
  let s := { s with boot := { s.boot with kept := s.lockBits } }
  let s := (s.setPwr { s.pwr with phase := .boot, step := 0, hostRel := false, pulse := [] }).discard
  let s := { s with keys := keys }
  ((((s.setFld R.BOOT_STAT 31 24 0).setFld R.BOOT_STAT 15 12 0).setFld R.BOOT_STAT 7 6 3).setFld R.HST_STAT 31 28 0).setStage 3

/-- WAKE_SUPPLY_READY (R533 steps 2 to 4): supplies in range, clocks locked, the fuses and the time restored, the wake record checked.
`linkOk` that the die-to-die link retrains, `recOk` that the record matches its digest. -/
def execWakeSupplyReady (linkOk recOk : Bool) (s : State) : Host.Outcome State Fault Refusal :=
  if s.dev.pwr.phase ≠ .wake ∨ s.dev.pwr.step ≠ 0 then .next s
  else
    let d := ((s.dev.wakeReset linkOk).showFuses s.vault.fuses).showTamper s.vault
    let d := (d.setPwr { d.pwr with step := 1 }).safePersist
    .next { s with dev := if recOk then d else d.wakeToHeader }

/-- WAKE_RAIL_TIMEOUT (R598): a rail is not in range 10 ms after INH took its ACTIVE setting: as if PORST_N had been asserted. -/
def execWakeRailTimeout (s : State) : Host.Outcome State Fault Refusal :=
  onDev (fun s => if s.pwr.phase = .wake ∧ s.pwr.step = 0 then s.assertPorst else s) s

/-- R538: the hosts that the wake is to wake. -/
def Dev.hostWake (s : Dev) : Dev :=
  let a := s.bit R.PWR_CFG 24
  let b := s.bit R.PWR_CFG 25
  let s := { s with pins := { s.pins with wakeA := s.pins.wakeA || a, wakeB := s.pins.wakeB || b } }
  s.setPwr { s.pwr with pulse := (if a then [0] else []) ++ if b then [1] else [] }

/-- LEGACY_RELEASE (R533 steps 5 and 6, R536, R538): the early sections match their digests and are loaded, and the legacy side runs. (DEDUCED, log entry 77.) -/
def execLegacyRelease (ok : Bool) (s : State) : Host.Outcome State Fault Refusal :=
  if s.dev.pwr.phase ≠ .wake ∨ s.dev.pwr.step ≠ 1 then .next s
  else
    match (if ok then s.loadSecs true [2, 3, 4, 8, 9, 0xB] s.dev.boot.image else none) with
    | none => .next { s with dev := s.dev.wakeToHeader }
    | some t =>
      let t := t.applyLocks
      let d := t.dev.ttsAdopt.dataRelease.reachActive
      let d := (d.setPwr { d.pwr with step := 2 }).setBit R.PWR_STAT 0 true
      .next { t with dev := d.hostWake }

/-- LATE_SECTIONS_LOADED (R533 step 8, R536). -/
def execLateSectionsLoaded (ok : Bool) (s : State) : Host.Outcome State Fault Refusal :=
  if s.dev.pwr.phase ≠ .active ∨ s.dev.pwr.step ≠ 2 then .next s
  else
    match (if ok then s.loadSecs true [5, 6, 7, 0xA, 0xC, 0xD] s.dev.boot.image else none) with
    | none => .next { s with dev := s.dev.wakeToHeader }
    | some t =>
      let d := t.dev.gateRelease
      .next { t with dev := forN 32 Dev.portStart (d.setPwr { d.pwr with step := 3 }) }

/-- WAKE_HST_STARTED (R533 step 9, R536). -/
def execWakeHstStarted (ok : Bool) (s : State) : Host.Outcome State Fault Refusal :=
  onDev (fun s =>
    if s.pwr.phase ≠ .active ∨ s.pwr.step ≠ 3 then s
    else if ok then ((s.setPwr { s.pwr with step := 4 }).setFld R.HST_STAT 31 28 0).intcSettle
    else s.wakeToHeader) s

/-- HOST_WAKE_TIMEOUT (R538): 100 ms after legacy release. -/
def execHostWakeTimeout (s : State) : Host.Outcome State Fault Refusal :=
  onDev (fun s => (forL s.pwr.pulse Dev.wakeRelease s).setPwr { s.pwr with pulse := [] }) s

/-- DRAM_TRAINED (R533 step 7, R519, R537): training after SLEEP ends and the clear begins. -/
def execDramTrained (s : State) : Host.Outcome State Fault Refusal :=
  onDev (fun s =>
    let on := (s.pwr.phase == .wake && s.pwr.step == 1) || s.pwr.phase == .active || (s.pwr.phase == .boot && decide (3 ≤ s.stage ∧ s.stage ≤ 9))
    if s.pins.porst = false ∨ on = false ∨ s.bit R.DRAM_STAT 0 = true then s
    else (s.setBit R.DRAM_STAT 0 true).setBit R.DRAM_STAT 2 true) s

/-- The register fabric or the Tailstock sees pins: PORST_N is high. -/
def Dev.awake (s : Dev) : Bool := s.pins.porst

/-- WAKE_IN_EDGE (R541): the comparator of WAKE_IN k reports a level that has held for DEB × 64 µs. -/
def execWakeInEdge (k : Nat) (rise : Bool) (s : State) : Host.Outcome State Fault Refusal :=
  onDev (fun s =>
    if 4 ≤ k then s
    else
      let s := { s with pins := { s.pins with win := withBits s.pins.win k k (if rise then 1 else 0) } }
      if s.awake = false ∨ (s.fld (R.PWR_WIN_CFG k) 17 16).testBit (if rise then 0 else 1) = false then s
      else (if s.pwr.phase = .active then s.raise 0xA000 7 else s).wakeEvent 5 k 0) s

/-- VEH_MOVING_RISE (R539): VEH_MOVING rises; `stays` is its level from then on (DESIGN CHOICE, log entry 71). -/
def execVehMovingRise (stays : Bool) (s : State) : Host.Outcome State Fault Refusal :=
  onDev (fun s =>
    let was := s.pins.vehMoving
    let s := { s with pins := { s.pins with vehMoving := stays } }
    if s.awake = false ∨ was = true then s else s.wakeEvent 6 0 0) s

/-- PWR_TIMER_EXPIRY (R539): PWR_TIMER ticks have passed since the entry completed. -/
def execPwrTimerExpiry (s : State) : Host.Outcome State Fault Refusal :=
  onDev (fun s => if s.awake = true ∧ s.rd R.PWR_TIMER ≤ s.ticksSince then s.wakeEvent 7 0 0 else s) s

/-- The core die runs: not in SLEEP, nor on the way into it, nor before it has power again. -/
def Dev.coreOn (s : Dev) : Bool :=
  s.pins.porst && s.pwr.phase != .sleep && s.pwr.phase != .ponr && !(s.pwr.phase == .wake && s.pwr.step == 0)

/-- LINE_SAFE_STATE (R545): the link has stayed down for 10 ms; the transceivers enter their safe state. -/
def execLineSafeState (s : State) : Host.Outcome State Fault Refusal :=
  onDev (fun s => if s.coreOn = true ∧ s.pwr.dieLink = false then s.setPwr { s.pwr with lineSafe := true } else s) s

/-- R549: a voltage that stands on the other side of the threshold for 1 ms, ten samples, changes VBAT_LOW. (DEDUCED, log entry 75.) -/
def Dev.vbat (mv : Nat) (s : Dev) : Dev :=
  let mv := min mv 65535
  let uv := s.fld R.PWR_VBAT_UV 15 0
  let low := s.bit R.PWR_STAT 9
  let s := s.wr R.PWR_VBAT mv
  let other := if low then decide (uv < mv) else decide (mv < uv)
  let n := if other then s.pwr.vbatRun + 1 else 0
  if n < 10 then s.setPwr { s.pwr with vbatRun := n }
  else
    let s := (s.setPwr { s.pwr with vbatRun := 0 }).setBit R.PWR_STAT 9 (!low)
    if low then s else (s.raise 0xA000 5).safety 3

/-- VBAT_SAMPLE (R549): VBAT_SNS reads `mv`. -/
def execVbatSample (mv : Nat) (s : State) : Host.Outcome State Fault Refusal :=
  onDev (fun s => if s.coreOn = true ∧ s.pwr.phase ≠ .boot ∧ s.pwr.phase ≠ .wake then s.vbat mv else s) s

/-- R24: the link is lost: the channels are not ready and the supply source is raised. (DEDUCED, log entry 76.) -/
def Dev.linkLost (s : Dev) : Dev := (((s.setPwr { s.pwr with dieLink := false }).lineReady false).linesQuiet).safety 3

/-- D2D_LINK_LOSS (R24). -/
def execD2dLinkLoss (s : State) : Host.Outcome State Fault Refusal :=
  onDev (fun s => if s.coreOn = true ∧ s.pwr.dieLink = true then s.linkLost else s) s

/-- D2D_LINK_RETRAINED (R24, R545); in SLEEP, VCC_LINE is back (R598). -/
def execD2dLinkRetrained (s : State) : Host.Outcome State Fault Refusal :=
  onDev (fun s =>
    let s := s.setPwr { s.pwr with lineSafe := false }
    if s.coreOn then (s.setPwr { s.pwr with dieLink := true }).lineReady true else s) s

/-- XTAL_FAIL (R44): in ACTIVE and REST, the sequences between them included. -/
def execXtalFail (s : State) : Host.Outcome State Fault Refusal :=
  onDev (fun s =>
    if s.coreOn = false ∨ s.pwr.phase = .boot ∨ s.pwr.phase = .wake then s
    else
      let s := ((s.setPwr { s.pwr with xtalOk := false }).linesQuiet).safety 4
      { s with pins := { s.pins with safe := false } }) s

/-- CLK32K_LOST (R45). -/
def execClk32kLost (s : State) : Host.Outcome State Fault Refusal :=
  onDev (fun s => if s.awake = false ∨ s.bit R.PWR_STAT 8 = true then s else (s.setBit R.PWR_STAT 8 true).raise 0xA000 6) s

/-- SUPPLY_OUT_OF_RANGE (R598): a required rail leaves its range for 1 µs, or returns. -/
def execSupplyOutOfRange (bad : Bool) (s : State) : Host.Outcome State Fault Refusal :=
  onDev (fun s =>
    if s.coreOn = false then s
    else
      let s := s.setPwr { s.pwr with supplyBad := bad }
      if bad then s.safety 3 else s) s

/-- SUPPLY_BELOW_TRIP (R598, R110): a rail below its trip for 2 µs: 0 a rail of the core die or the DRAM, 1 VDD_AON, 2 VCC_LINE. -/
def execSupplyBelowTrip (rail : Nat) (s : State) : Host.Outcome State Fault Refusal :=
  if rail = 1 then
    let d := s.dev.assertPorst
    let d := ((d.wr R.PWR_FW_RUN 0).wr R.PWR_FW_BLOCK0 0).wr R.PWR_FW_BLOCK1 0
    .next { s with dev := d, vault := { fuses := s.vault.fuses, active := s.vault.active } }
  else if rail = 2 then
    onDev (fun s =>
      if s.coreOn then s.linkLost
      else if s.awake then s.setPwr { s.pwr with lineSafe := true } else s) s
  else onDev (fun s => if s.coreOn then s.assertPorst else s) s

/-- The power state of a tamper record (chapter 21): 0 ACTIVE, 1 REST, 2 SLEEP, 3 boot. -/
def tampState (p : Phase) : Nat :=
  match p with
  | .active | .restEntry | .sleepEntry => 0
  | .rest | .restExit => 1
  | .ponr | .sleep | .wake => 2
  | .boot => 3

/-- R496: a source latches and the record, if empty, is written. -/
def Vault.tamper (v : Vault) (src st tick : Nat) : Vault :=
  let v := { v with latch := v.latch ||| 2 ^ src }
  if v.tampRec.toNat.testBit 31 then v
  else { v with tampRec := BitVec.ofNat 32 (2 ^ 31 + st * 2 ^ 24 + 2 ^ src), tampTick := BitVec.ofNat 32 tick }

/-- R497, R498: outside boot, slots, cache and banks 60 to 63 are wiped, key operations end, and TAMPER is raised while the INTC is
powered; the device wakes if it may. -/
def State.tamperWipe (s : State) : State :=
  let t := ({ s with dev := s.dev.laTamper }).wipeKeys
  let d := (t.dev.setBit R.KEY_STAT 1 true).raise 0x108000 3
  let d := if d.coreOn then d.safety 2 else d
  { t with dev := d.wakeEvent 0xC 0 0 }

/-- TAMPER_INPUT (R109, R496, R497): a tamper source becomes active or inactive. -/
def execTamperInput (src : Nat) (on : Bool) (s : State) : Host.Outcome State Fault Refusal :=
  if 5 ≤ src then .next s
  else
    let st := if s.dev.pins.porst then tampState s.dev.pwr.phase else 3
    let v := { s.vault with active := withBits s.vault.active src src (if on then 1 else 0) }
    let v := if on then v.tamper src st s.dev.tailTick else v
    let d := s.dev.showTamper v
    let t : State := { s with vault := v, dev := if on = true ∧ d.coreOn = true then d.raise 0x10A000 0 else d }
    if on = false ∨ s.dev.pins.porst = false then .next t
    else if s.dev.pwr.phase = .boot then .next t.tamperHold
    else .next t.tamperWipe

/-- R450: a wake request of the MGMT target reaches the Tailstock. -/
def Dev.mgmtWakes (s : Dev) : Dev :=
  match s.intc.mgmtWake with
  | none => s
  | some _ =>
    let s := { s with intc := { s.intc with mgmtWake := none } }
    s.wakeEvent 0xB 0 0

/-- INTC_SOURCE_CHANGE (R437, R450). -/
def execIntcSourceChange (src : Nat) (s : State) : Host.Outcome State Fault Refusal :=
  onDev (fun s => if s.coreOn then (s.sourceChange src).mgmtWakes else s) s

/-- INTC_HOLDOFF_EXPIRY (R441, R450): the timer of group g for target t. -/
def execIntcHoldoffExpiry (g t : Nat) (s : State) : Host.Outcome State Fault Refusal :=
  onDev (fun s => if s.coreOn then (s.holdoffExpiry g t).mgmtWakes else s) s

end Sys2Proof.Machine
end

