-- ==== Sys2Proof/Machine/PairApply.lean ====
section
/-! DEFINITION. Journal and resync records: what the standby does with them and what the active sends in a bulk resync (R559, R562;
DESIGN CHOICE, log entry 72). -/

namespace Sys2Proof.Machine

/-- R569, R570: the member holds the active role or not; FAILOVER is high on a strapped member that holds it (DEDUCED, log entry 73). -/
def Dev.setRole (on : Bool) (s : Dev) : Dev :=
  let s := s.setBit R.PAIR_STAT 27 on
  { s with pins := { s.pins with failover := on && s.bit R.BOOT_STRAP 2 } }

/-- R558: a port becomes held: the copies that wait for it are discarded. -/
def Dev.holdPort (n : Nat) (s : Dev) : Dev :=
  let k := (List.range 8).foldl (fun a t => a + (s.qst (8 * n + t)).sram.length + (s.qst (8 * n + t)).dram.length + (s.heldOf (8 * n + t)).length) 0
  (s.incBy C.PAIR_GATED_DROP k).discardPort n

/-- The member loses the role: FAILOVER goes low and its gated items are held (R558, R569, R570). -/
def Dev.loseRole (s : Dev) : Dev :=
  if s.bit R.PAIR_STAT 27 = false then s
  else
    let s := s.setRole false
    forN 32 (fun n s => if s.gatedPort n then s.holdPort n else s) s

/-- Steps 3 to 5 of R568: gated pins at the levels of the last BEAT, FAILOVER, the safety condition and the event. -/
def Dev.takeSteps (s : Dev) : Dev :=
  let s := s.emit (.pins "GATED" [s.pair.pins.1 &&& s.rd R.PAIR_GATE_PIN0, s.pair.pins.2 &&& s.rd R.PAIR_GATE_PIN1])
  (((s.setRole true).safety 5).inc C.PAIR_TAKEOVERS).raise 0x128000 4

/-- One window table of the model as records name it: its number, block code, instance, TAW_SEL and words. -/
structure RecTab where
  id : Nat
  code : Nat
  inst : Nat
  sel : Nat
  n : Nat
  deriving DecidableEq, Repr

/-- The mirrored tables, live and staged (R562, R563). Live version slots are named by their number as the instance. -/
def recTabs : List RecTab :=
  [⟨T.node, 0x40, 0, 0, 16⟩, ⟨T.startStaged, 0x40, 0, 1, 1⟩, ⟨T.ruleKey, 0x41, 0, 0, 20⟩, ⟨T.ruleCtl, 0x41, 0, 1, 3⟩,
    ⟨T.ruleEnd, 0x41, 0, 2, 1⟩, ⟨T.matStaged, 0x41, 0, 3, 1⟩, ⟨T.zoneStaged, 0x41, 0, 5, 1⟩, ⟨T.prof, 0x42, 0, 1, 4⟩,
    ⟨T.vlan, 0x43, 0, 1, 4⟩, ⟨T.stream, 0x43, 0, 2, 2⟩, ⟨T.can11, 0x43, 0, 3, 3⟩, ⟨T.can29, 0x43, 0, 4, 4⟩] ++
  [⟨T.sid, 0x51, 0, 0x80, 4⟩, ⟨T.filter, 0x51, 0, 0x81, 3⟩, ⟨T.gate, 0x51, 0, 0x82, 8⟩, ⟨T.gpool, 0x51, 0, 0x83, 2⟩,
    ⟨T.meter, 0x51, 0, 0x84, 5⟩, ⟨T.rcvy, 0x51, 0, 0x85, 3⟩, ⟨T.gen, 0x51, 0, 0x86, 2⟩, ⟨T.ats, 0x51, 0, 0x87, 3⟩,
    ⟨T.atsGrp, 0x51, 0, 0x88, 2⟩, ⟨T.secy, 0x60, 0, 0, 5⟩, ⟨T.rxSc, 0x60, 0, 1, 3⟩, ⟨T.txSa, 0x60, 0, 2, 8⟩,
    ⟨T.rxSa, 0x60, 0, 3, 8⟩, ⟨T.canSec, 0x60, 0, 4, 4⟩, ⟨T.gwyProf, 0x34, 0, 0, 6⟩, ⟨T.slot, 0x33, 0, 0, 3⟩,
    ⟨T.slotStaged, 0x33, 0, 1, 3⟩, ⟨T.hbuf, 0x33, 0, 2, 2⟩, ⟨T.hbufStaged, 0x33, 0, 3, 2⟩] ++
  ((List.range 4).flatMap fun k => [⟨T.startOf k, 0x40, k, 2, 1⟩, ⟨T.matOf k, 0x41, k, 4, 1⟩, ⟨T.zoneOf k, 0x41, k, 6, 1⟩]) ++
  ((List.range 12).map fun t => ⟨T.shadow t, 0x43, 0, 0x80 + t, shadowWords t⟩) ++
  ((List.range 38).flatMap fun n => [⟨T.gclAdm n, 0x51, n, 0, 2⟩, ⟨T.gclOpr n, 0x51, n, 1, 2⟩])

/-- NEXT_PN and WARNED of an SA are the member's own (R559). -/
def saMerge (old new : List Nat) : List Nat :=
  ((new.set 0 ((new.getD 0 0 &&& 0xBFFFFFFF) + (old.getD 0 0 &&& 0x40000000))).set 1 (old.getD 1 0)).set 2 (old.getD 2 0)

/-- R559: a TABLE record: a window write of the entry by PAIR. -/
def Dev.recTable (code inst sel i : Nat) (ws : List Nat) (s : Dev) : Dev :=
  match winOf code inst sel with
  | none => s
  | some (w, t) =>
    match w.tab t with
    | none => s
    | some r =>
      if r.size ≤ i then s
      else if s.mayWrite .pair w.base = false then s.viol w.base
      else s.tawStore w t i (if w.isSa t then saMerge (s.entry r.id i 8) ws else ws)

/-- R559: a COMMIT record, with the version that the active gave it. A version for which no slot is free yet waits for the next
edge (R219, R244). -/
def Dev.recCommit (code inst ver : Nat) (s : Dev) : Dev :=
  if code = 0x40 then
    match s.parsApply ver with
    | some t => t.parsShow
    | none => s.setFld R.PARS_STAT 1 0 3
  else if code = 0x41 then
    match s.ruleApply ver with
    | some t => t.ruleShow
    | none => s.setFld R.RULE_STAT 1 0 3
  else if code = 0x51 ∧ inst < 38 then s.changeNow inst
  else if code = 0x33 ∧ inst < 24 then s.swapNow inst
  else s

/-- R559: a TAG record: the standby's mailbox remembers what the active's answered. -/
def Dev.recTag (ws : List Nat) (s : Dev) : Dev :=
  let w0 := ws.getD 0 0
  let m := w0 / 2 ^ 30
  if 3 ≤ m then s
  else
    let t : TagRec :=
      { tag := w0 % 65536, cpl := ws.getD 1 0 % 65536, digest := natBytes ((ws.drop 2).take 8)
        res := ((ws.drop 10).take 16).map (BitVec.ofNat 32) }
    s.setMb m { s.mb m with tags := remember t (s.mb m).tags }

/-- R559: a FLOW record: an entry ends, or takes the words of the active's with the flow counters of its own (R559). -/
def Dev.recFlow (i : Nat) (ws : List Nat) (s : Dev) : Dev :=
  if (ws.getD 0 0).testBit 31 = false then (if s.isHead i then s.flowClear i else s)
  else
    let b := if ws.length ≤ 8 then 5 else 11
    let own := s.flowShown i
    let keep := s.isHead i && own.length == ws.length && keyOf own == keyOf ws
    let ws := if keep then ((ws.set b (ws.getD b 0 / 2 ^ 8 * 2 ^ 8 + own.getD b 0 % 2 ^ 8)).set (b + 1) (own.getD (b + 1) 0)).set (b + 2)
      (own.getD (b + 2) 0) else ws
    s.flowPut i ws

/-- R559: a HOLD record: a hold buffer takes the payload; its frame is the one that its configuration gives. -/
def Dev.recHold (w : Nat) (pay : List Nat) (s : Dev) : Dev :=
  let j := w % 2048
  let d := (natBytes pay).take (bitsOf w 27 16)
  let f : LegFrame :=
    { (s.hold j).fr with
      kind := s.tfld T.hbuf j 0 27 26 + 1, ide := (s.tab T.hbuf j 1).testBit 31, id := s.tfld T.hbuf j 1 28 0
      dlc := if s.tfld T.hbuf j 0 27 26 = 2 then d.length - 1 else dlcOf d.length, data := d }
  s.bufWrite j f

/-- R559: one record of a journal. (DEDUCED, log entry 84.) (DEDUCED, log entry 86.) -/
def State.applyRec (kind : Nat) (ws : List Nat) (s : State) : State :=
  if kind = 1 then
    (List.range (ws.length / 2)).foldl (fun s k => s.writeReg .pair (ws.getD (2 * k) 0 % 2 ^ 24) (ws.getD (2 * k + 1) 0)) s
  else
    let w0 := ws.getD 0 0
    let d := s.dev
    let i := ws.getD 1 0
    { s with dev :=
      if kind = 2 then d.recTable (bitsOf w0 31 20) (bitsOf w0 19 12) (bitsOf w0 7 0) i (ws.drop 2)
      else if kind = 3 then d.recCommit (bitsOf w0 31 20) (bitsOf w0 19 12) (bitsOf w0 7 0)
      else if kind = 4 then d.recTag ws
      else if kind = 5 then d.setEntry T.mac w0 (ws.tail.take 4)
      else if kind = 6 then d.recFlow w0 ws.tail
      else if kind = 7 then d.setTfld (if w0.testBit 31 then T.flow else T.mac) i 0 15 0 (ws.getD 2 0)
      else if kind = 8 then d.recHold w0 ws.tail
      else d }

/-- The registers that a resync carries as they stand, beside those of the configuration set: the live versions, the active gate
lists and the active ranges' commands (DESIGN CHOICE, log entry 72). -/
def rawRegs : List Nat :=
  ((List.range 4).flatMap fun k => [R.RULE_VER_INFLIGHT k, R.PARS_LIVE k]) ++
  (List.range 38).flatMap fun n => [R.TSN_OPR_BASE_S_LO n, R.TSN_OPR_BASE_S_HI n, R.TSN_OPR_BASE_NS n, R.TSN_OPR_CYCLE n, R.TSN_OPR_CYC_EXT n,
    R.TSN_OPR_LIST n]

/-- R562: one record of a RESYNC frame: registers of live state and tables are taken as they stand. -/
def State.applySync (kind : Nat) (ws : List Nat) (s : State) : State :=
  let w0 := ws.getD 0 0
  let i := ws.getD 1 0
  if kind = 1 ∧ rawRegs.contains w0 = true then { s with dev := (s.dev.wr w0 i).parsShow.ruleShow }
  else if kind = 2 then
    let code := bitsOf w0 31 20
    let inst := bitsOf w0 19 12
    let sel := bitsOf w0 7 0
    if code = 0x33 ∧ sel = 0xFF then
      { s with dev := s.dev.setTts inst { s.dev.ttsCh inst with base := i, count := ws.getD 2 0 } }
    else if code = 0x43 ∧ sel = 0 then { s with dev := s.dev.setEntry T.mac i (ws.drop 2) }
    else
      match recTabs.find? fun t => t.code == code && t.inst == inst && t.sel == sel with
      | none => s
      | some t =>
        let ws := ws.drop 2
        { s with dev := s.dev.setEntry t.id i (if t.id = T.txSa ∨ t.id = T.rxSa then saMerge (s.dev.entry t.id i 8) ws else ws) }
  else s.applyRec kind ws

/-- R559: the records of a payload in their order, each counted; answers whether an OVERFLOW record ends them. -/
def State.applyRecs (f : Nat → List Nat → State → State) : Nat → List Nat → State → Bool × State
  | 0, _, s => (false, s)
  | _, [], s => (false, s)
  | n + 1, w :: ws, s =>
    if w / 2 ^ 27 = 0xF then (true, s)
    else
      let k := bitsOf w 26 16
      let t := f (w / 2 ^ 27) (ws.take k) s
      State.applyRecs f n (ws.drop k) { t with dev := t.dev.add64 C.PAIR_JRNL_RECORDS 1 }

/-- The registers of the configuration set (R563), in the order of the window. -/
def cfgRegs : List Nat :=
  (blkRows.flatMap fun r => (List.range r.inst).flatMap fun i => r.blk.rows.flatMap fun row =>
    if row.rw = 0 then [] else (List.range row.n).map fun k => r.base + i * r.pages * 0x1000 + row.off + k * row.stride).filter isCfgReg

/-- A record with its header word (R559). -/
def recOf (kind : Nat) (ws : List Nat) : List Nat := (kind * 2 ^ 27 + ws.length * 2 ^ 16) :: ws

/-- The indices at which a table holds something. -/
def Dev.tabUsed (s : Dev) (t : Nat) : List Nat :=
  ((s.tabs.filter fun e => decide (tabKey t 0 0 ≤ e.1 ∧ e.1 < tabKey (t + 1) 0 0)).map fun e => e.1 / 64 % 2 ^ 32).eraseDups

/-- R562: everything mirrored, as records: the live versions and tables first, then the registers, the schedules, the tags, and in
STATE-COPY the MAC table, the flows and the hold buffers. -/
def Dev.syncRecs (s : Dev) : List (List Nat) :=
  let raw := rawRegs.map fun o => recOf 1 [o, s.rd o]
  let tabs := recTabs.flatMap fun t => (s.tabUsed t.id).map fun i =>
    let ws := s.entry t.id i t.n
    recOf 2 ((t.code * 2 ^ 20 + t.inst * 2 ^ 12 + t.sel) :: i :: if t.id = T.txSa ∨ t.id = T.rxSa then saPlain ws else ws)
  let regs := cfgRegs.map fun o => recOf 1 [o, s.rd o]
  let tts := (List.range 24).map fun n => recOf 2 [0x33 * 2 ^ 20 + n * 2 ^ 12 + 0xFF, (s.ttsCh n).base, (s.ttsCh n).count]
  let copy := s.fld R.PAIR_CFG 31 30 == 2
  let macs := ((s.tabUsed T.mac).filter fun i => copy || s.tfld T.mac i 0 30 30 == 1).map fun i =>
    recOf 2 (0x43 * 2 ^ 20 :: i :: s.entry T.mac i 4)
  let tags := (List.range 3).flatMap fun m => (s.mb m).tags.map fun t =>
    recOf 4 ((m * 2 ^ 30 + t.tag % 65536) :: (t.tag * 2 ^ 16 + t.cpl) ::
      (bytesWords t.digest ++ (List.range 16).map fun k => ((t.res[k]?).getD 0).toNat))
  let flows := if copy then s.flowHeads.map fun i => recOf 6 (i :: flowPlain (s.flowShown i)) else []
  let holds := if copy then (s.hbuf.filter fun e => e.2.full).map fun e =>
      recOf 8 ((e.2.fr.data.length * 2 ^ 16 + e.1) :: bytesWords e.2.fr.data) else []
  raw ++ tabs ++ regs ++ tts ++ macs ++ tags ++ flows ++ holds

/-- R562: a bulk resync begins on the standby: what the frames will bring is cleared first, so that an entry that the active does
not hold is gone (DESIGN CHOICE, log entry 72). -/
def Dev.syncStart (s : Dev) : Dev :=
  let copy := s.fld R.PAIR_CFG 31 30 == 2
  let sa (t : Nat) (s : Dev) : Dev :=
    forL (s.tabUsed t) (fun i s => s.setEntry t i (saMerge (s.entry t i 8) (List.replicate 8 0))) s
  let s := forL recTabs (fun t s => if t.id = T.txSa ∨ t.id = T.rxSa then sa t.id s else s.clearTab t.id) s
  let s := forL (s.tabUsed T.mac) (fun i s =>
    if copy = true ∨ s.tfld T.mac i 0 30 30 = 1 then s.setEntry T.mac i [0, 0, 0, 0] else s) s
  let s := if copy then (s.clearTab T.flow) else s
  let s := if copy then { s with hbuf := [] } else s
  forN 3 (fun m s => s.setMb m { s.mb m with tags := [] }) s

end Sys2Proof.Machine
end

