-- ==== Sys2Proof/Machine/PairLink.lean ====
section
/-! DEFINITION. What the Epmel link brings (R552 to R572): HELLO, BEAT, JOURNAL, RESYNC, INPUT and RACC frames, and the wait of R557. -/

namespace Sys2Proof.Machine

/-- The partner's state, role and rank, of the last HELLO or BEAT; a HELLO brings the epoch too. -/
def Dev.partner (h : EplHdr) (epoch : Nat) (s : Dev) : Dev :=
  s.wr R.PAIR_PARTNER (epoch % 65536 * 2 ^ 16 + h.state % 8 * 16 + (if h.role then 8 else 0) + if h.rank then 1 else 0)

/-- R554: the code of the first check that a HELLO fails; 0 when it passes. -/
def Dev.helloJudge (h : EplHdr) (ws : List Nat) (s : Dev) : Nat :=
  let mode := s.fld R.PAIR_CFG 31 30
  let w1 := ws.getD 1 0
  let feats := (ws.drop 2).take 4
  if ws.getD 0 0 ≠ s.rd R.GLB_PART then 1
  else if w1 / 65536 ≠ s.rd R.BOOT_EPOCH % 65536 then 2
  else if w1 % 4 ≠ mode ∨ mode = 0 ∨ mode = 3 ∨ s.bit (R.DEV_FEAT 0) (7 + mode) = false ∨ (feats.getD 0 0).testBit (7 + mode) = false then 3
  else if h.rank = s.bit R.PAIR_STAT 22 then 4
  else 0

/-- R554: a HELLO arrives. -/
def Dev.helloRx (h : EplHdr) (ws : List Nat) (s : Dev) : Dev :=
  if s.eplUp = false then s
  else
    let s := s.partner h (ws.getD 1 0 / 65536)
    if s.pairState ≠ 0 then s
    else
      let c := s.helloJudge h ws
      let was := s.fld R.PAIR_STAT 19 16
      let s := s.setFld R.PAIR_STAT 19 16 c
      if c = 0 then s.setPair { s.pair with hello := some (h.role, (ws.drop 2).take 4) }
      else
        let s := s.setPair { s.pair with hello := none }
        if c = was then s else s.raise 0x128000 1

/-- HELLO_RX (R554, R555). -/
def execHelloRx (h : EplHdr) (ws : List Nat) (s : State) : Host.Outcome State Fault Refusal := onDev (Dev.helloRx h ws) s

/-- A raw stamp in FRC units (R378). -/
def rawStamp (ws : List Nat) : Nat := (ws.getD 0 0 + 2 ^ 32 * ws.getD 1 0) * 2 ^ 16 + ws.getD 2 0 % 16 * 2 ^ 12

/-- The difference of two FRC instants, the nearer way round. -/
def frcDiff (a b : Nat) : Int :=
  let d : Nat := (a + 2 ^ 96 - b % 2 ^ 96) % 2 ^ 96
  if d < 2 ^ 95 then (d : Int) else (d : Int) - (2 ^ 96 : Nat)

/-- R565: one exchange's link delay joins the last 16, and PAIR_LINK_DELAY shows their mean. -/
def Dev.linkDelay (ws : List Nat) (t4 : Nat) (s : Dev) : Dev :=
  if ((ws.drop 7).take 6).all (fun w => w == 0) then s
  else
    let d := (frcDiff t4 (rawStamp (ws.drop 7)) - frcDiff (rawStamp (ws.drop 4)) (rawStamp (ws.drop 10))) / 2
    let ds := (d :: s.pair.delays).take 16
    let m := ds.foldl (fun a x => a + x) (0 : Int) / (ds.length : Int)
    (s.setPair { s.pair with delays := ds }).wr R.PAIR_LINK_DELAY (unsgn 32 m)

/-- The mean link delay in force, in FRC units. -/
def Dev.delayNow (s : Dev) : Int :=
  s.pair.delays.foldl (fun a x => a + x) (0 : Int) / (max 1 s.pair.delays.length : Nat)

/-- A domain time from the four words of a domain stamp (R378), in 2^-64 ns. -/
def domOfWords (ws : List Nat) : Nat :=
  ((ws.getD 1 0 + 2 ^ 32 * ws.getD 2 0) * 10 ^ 9 + ws.getD 0 0) * 2 ^ 64 + ws.getD 3 0 % 65536 * 2 ^ 48

/-- R565: the samples of domain k, newest first. -/
def Dev.samplesOf (s : Dev) (k : Nat) : List (Nat × Nat) := smGet (fun _ => []) s.pair.samples k

/-- R565: the rate at which a domain runs with the active's over the samples: active time per own FRC unit, less 2^48. -/
def sampleRate (l : List (Nat × Nat)) : Option Int :=
  match l, l.getLast? with
  | (f1, t1) :: _, some (f0, t0) =>
    let df := frcDiff f1 f0
    if df ≤ 0 then none else some (((t1 : Int) - t0) / df - (2 ^ 48 : Nat))
  | _, _ => none

/-- R565: the standby steers domain k by the active's stamp at departure `at_`, of a BEAT that arrived at `arr`; answers abs(o)
in ns, rounded up. -/
def Dev.pairSteer (k at_ arr : Nat) (s : Dev) : Nat × Dev :=
  let o : Int := (at_ : Int) + s.delayNow * 2 ^ 48 - (s.domAt k arr : Int)
  let lim : Int := 2 ^ 31 - 1
  let s := s.wr (R.PAIR_OFS k) (unsgn 32 (clampInt (-lim) lim (o / 2 ^ 64)))
  let l := ((arr, at_) :: s.samplesOf k).take 16
  let s := s.setPair { s.pair with samples := smSet (fun _ => []) s.pair.samples k l }
  let s := match sampleRate l with
    | some r => s.rateSet k r
    | none => s
  let s := if o.natAbs ≤ s.fld R.PAIR_TIME_CFG 15 0 * 2 ^ 64 then (s.adjSet k o).2
    else s.stepTo k (domAdd (s.dom k).t o)
  ((o.natAbs + 2 ^ 64 - 1) / 2 ^ 64, s)

/-- R566: BEATs in a row beyond and within tolerance. -/
def Dev.timeJudge (offs : List (Nat × Nat)) (s : Dev) : Dev :=
  let tol := s.fld R.PAIR_TIME_CFG 31 16
  let cnt (p : Nat × Nat) : Nat := if tol < p.2 then smGet (fun _ => 0) s.pair.overs p.1 + 1 else 0
  let overs := offs.foldl (fun m p => smSet (fun _ => 0) m p.1 (cnt p)) s.pair.overs
  let bad := offs.any fun p => decide (tol < p.2)
  let within := if bad then 0 else s.pair.within + 1
  let four := offs.any fun p => decide (4 ≤ cnt p)
  let s := s.setPair { s.pair with overs := overs, within := within }
  if four = true ∧ s.bit R.PAIR_STAT 25 = false then
    ((s.setBit R.PAIR_STAT 25 true).inc C.PAIR_TIME_DIV_CNT).raise 0x128000 6
  else if 4 ≤ within then s.setBit R.PAIR_STAT 25 false
  else s

/-- R565: a standby steers every mapped domain from a BEAT. -/
def Dev.steerAll (ws : List Nat) (arr : Nat) (s : Dev) : Dev :=
  let ks := (List.range 8).filter fun k => s.bit R.PAIR_TIME_MAP k && (ws.getD 0 0).testBit k
  let r := ks.foldl (fun (p : List (Nat × Nat) × Dev) k =>
    let q := p.2.pairSteer k (domOfWords (ws.drop (16 + 4 * k))) arr
    (p.1 ++ [(k, q.1)], q.2)) (([] : List (Nat × Nat)), s)
  if ks = [] then r.2 else r.2.timeJudge r.1

/-- R560, R563: what a standby checks against a BEAT of the active: a JOURNAL came before it, and at equal JSEQ the digests agree. -/
def Dev.beatCheck (ws : List Nat) (s : Dev) : Dev :=
  if s.pairState ≠ 2 then s
  else if s.pair.jrn = false then
    ((s.setPair { s.pair with base := false, frag := none }).inc C.PAIR_JRNL_GAP).resyncAsk
  else if ws.getD 3 0 ≠ s.rd R.PAIR_JSEQ ∨ s.digest = ws.getD 1 0 * 2 ^ 32 + ws.getD 2 0 then s
  else ((s.inc C.PAIR_DIGEST_MISM).pairGoto 3).raise 0x128000 5

/-- PAIR_STAT.ELIGIBLE (R564). -/
def Dev.pairEligible (s : Dev) : Bool := s.pairState == 2 || (s.pairState == 3 && s.bit R.PAIR_CTRL 0)

/-- A BEAT arrives (R553, R560, R563 to R567, R569); its second stamp point `sub` FRC units into the present cycle. (DEDUCED, log entry 83.) -/
def Dev.beatRx (h : EplHdr) (ws : List Nat) (sub : Nat) (s : Dev) : Dev :=
  if s.eplUp = false then s
  else
    let w0 := ws.getD 0 0
    let t4 := s.stampRx 3 sub
    let s := ((s.add64 C.PAIR_BEAT_RX 1).partner h (s.fld R.PAIR_PARTNER 31 16)).setBit R.PAIR_STAT 26 true
    let s := s.linkDelay ws t4
    let s := s.setPair { s.pair with
      beat := true, dep := rawStamp (ws.drop 4), arr := t4, pins := (ws.getD 13 0, ws.getD 14 0 % 256), quiet := w0.testBit 25 }
    let s := if h.role then s.beatCheck ws else s
    let s := if h.role = true ∧ s.pairState = 2 then s.steerAll ws t4 else s
    let s := s.setPair { s.pair with jrn := false }
    if w0.testBit 26 = true ∧ s.pairEligible = true ∧ s.hstHalted = false then (s.pairGoto 1).takeSteps
    else if s.pairState = 1 ∧ s.pair.yielded = true ∧ h.role = true then s.loseRole.pairGoto 3
    else s

/-- BEAT_RX (R565). -/
def execBeatRx (h : EplHdr) (ws : List Nat) (sub : Nat) (s : State) : Host.Outcome State Fault Refusal := onDev (Dev.beatRx h ws sub) s

/-- R560: a gap: the standby asks for a resync. -/
def Dev.jrnGap (s : Dev) : Dev :=
  ((s.setPair { s.pair with base := false, frag := none }).inc C.PAIR_JRNL_GAP).resyncAsk

/-- R559, R560: a JOURNAL frame arrives. -/
def State.journalRx (h : EplHdr) (ws : List Nat) (s : State) : State :=
  let d := s.dev
  if d.eplUp = false ∨ (d.pairState ≠ 2 ∧ d.pairState ≠ 4) then s
  else
    let p := d.pair
    let fits := match p.frag with
      | some (q, k) => h.seq == q && h.frag == k
      | none => h.frag == 0 && (!p.base || h.seq == (d.rd R.PAIR_JSEQ + 1) % 2 ^ 32)
    if fits = false then
      (if p.base = false ∧ p.frag = none then s else { s with dev := d.jrnGap })
    else
      match State.applyRecs State.applyRec (ws.length + 1) ws s with
      | (true, t) => { t with dev := t.dev.jrnGap }
      | (false, t) =>
        let q := t.dev.pair
        if h.frag + 1 < h.nfrag then { t with dev := t.dev.setPair { q with base := true, frag := some (h.seq, h.frag + 1) } }
        else { t with dev := (t.dev.setPair { q with base := true, frag := none, jrn := true }).wr R.PAIR_JSEQ h.seq }

/-- JOURNAL_RX (R559, R560). -/
def execJournalRx (h : EplHdr) (ws : List Nat) (s : State) : Host.Outcome State Fault Refusal := .next (s.journalRx h ws)

/-- R562: a RESYNC frame's records are applied by a member in RESYNC. -/
def State.resyncRx (ws : List Nat) (s : State) : State :=
  if s.dev.eplUp = false ∨ s.dev.pairState ≠ 4 then s else (State.applyRecs State.applySync (ws.length + 1) ws s).2

/-- RESYNC_RX (R562). -/
def execResyncRx (_h : EplHdr) (ws : List Nat) (s : State) : Host.Outcome State Fault Refusal := .next (s.resyncRx ws)

/-- R562: RESYNC_CTL: a request at the active, START and END at the member in RESYNC. A halted member goes on to DIVERGED (R569). -/
def Dev.resyncCtl (op : Nat) (s : Dev) : Dev :=
  if s.eplUp = false then s
  else if op = 1 then (if s.pairState = 1 then s.setPair { s.pair with resync := true } else s)
  else if s.pairState ≠ 4 then s
  else if op = 2 then s.syncStart
  else if op = 3 then ((s.pairGoto (if s.hstHalted then 3 else 2)).inc C.PAIR_RESYNCS).raise 0x128000 7
  else s

/-- RESYNC_REQUEST_RX (R562). -/
def execResyncRequestRx (s : State) : Host.Outcome State Fault Refusal := onDev (Dev.resyncCtl 1) s

/-- RESYNC_START_RX (R562). -/
def execResyncStartRx (s : State) : Host.Outcome State Fault Refusal := onDev (Dev.resyncCtl 2) s

/-- RESYNC_END_RX (R562). -/
def execResyncEndRx (s : State) : Host.Outcome State Fault Refusal := onDev (Dev.resyncCtl 3) s

/-- R561: an INPUT frame enters as if received on its port, with the active's stamp, versions and class. -/
def Dev.inputRx (ws : List Nat) (bytes : List Byte) (s : Dev) : Dev :=
  if s.eplUp = false ∨ (s.pairState ≠ 2 ∧ s.pairState ≠ 4) ∨ s.fld R.PAIR_CFG 31 30 ≠ 1 then s
  else
    let w0 := ws.getD 0 0
    let s := s.add64 C.PAIR_INPUT_FRAMES 1
    let v : FrameSt := { bytes := bytes, inPort := bitsOf w0 29 24, stamp := rawStamp ws.tail, tc := w0 % 8 }
    match s.storeFrame v with
    | (none, s) => s
    | (some f, s) =>
      let s := s.setFrame f { s.frame f with rver := bitsOf w0 23 16, gver := bitsOf w0 15 8 }
      (s.hashIn f).2

/-- INPUT_RX (R561). -/
def execInputRx (_h : EplHdr) (ws : List Nat) (bytes : List Byte) (s : State) : Host.Outcome State Fault Refusal :=
  onDev (Dev.inputRx ws bytes) s

/-- R572: a remote access of the partner is performed as requester PAIR and answered. -/
def State.raccRx (wr : Bool) (off v : Nat) (s : State) : State :=
  if s.dev.eplUp = false ∨ s.dev.pairState = 0 then s
  else if wr then
    let t := s.writeReg .pair off v
    { t with dev := t.dev.eplOne E.rsp (Config.rspSeal 0) }
  else
    let was := s.dev.rdata
    let d := s.dev.readReg .pair off
    { s with dev := { d.eplOne E.rsp (Config.rspSeal (d.rdata.toNat % 2 ^ 32)) with rdata := was } }

/-- RACC_RX (R572). (DEDUCED, log entry 85.) -/
def execRaccRx (wr : Bool) (off v : Nat) (s : State) : Host.Outcome State Fault Refusal := .next (s.raccRx wr off v)

/-- PAIR_WAIT_EXPIRY (R557, R550): a member that has not paired since release takes the role. -/
def execPairWaitExpiry (s : State) : Host.Outcome State Fault Refusal :=
  onDev (fun s =>
    if s.bit R.BOOT_STRAP 2 = false ∨ s.pairState ≠ 0 ∨ s.pair.once = true ∨ s.dpReleased = false ∨
      s.passed s.pair.relAt (s.fld R.PAIR_CFG 15 0 * 1000000) = false then s else s.setRole true) s

/-- The words of a BEAT or of journal records (R10). -/
def payWords (bs : List Byte) : List Nat := bytesWords bs

/-- The first `n` words of a payload in network byte order (R11). -/
def wireWords (n : Nat) (bs : List Byte) : List Nat := (List.range n).map fun k => beAt bs (4 * k) 4

/-- R552: a whole Epmel frame that the MAC finds good goes to what its TYPE names; another EVER or TYPE counts EPL_BAD. -/
def State.epmelRx (bs : List Byte) (sub : Nat) (s : State) : State :=
  let b0 := beAt bs 0 1
  let b1 := beAt bs 1 1
  let ty := b0 % 16
  if bs.length < 16 ∨ b0 / 16 ≠ 1 ∨ ty = 0 ∨ 8 < ty then { s with dev := s.dev.inc C.PAIR_EPL_BAD }
  else
    let h : EplHdr :=
      { rank := b1.testBit 7, state := bitsOf b1 6 4, role := b1.testBit 3, seq := beAt bs 4 4, frag := beAt bs 8 2, nfrag := beAt bs 10 2,
        turn := beAt bs 12 4 }
    let pay := (bs.drop 16).take (beAt bs 2 2)
    let ws := payWords pay
    if ty = E.hello then { s with dev := s.dev.helloRx h (wireWords 6 pay) }
    else if ty = E.beat then { s with dev := s.dev.beatRx h ws sub }
    else if ty = E.journal then s.journalRx h ws
    else if ty = E.resync then s.resyncRx ws
    else if ty = E.ctl then { s with dev := s.dev.resyncCtl (beAt pay 0 4) }
    else if ty = E.input then { s with dev := s.dev.inputRx (wireWords 4 pay) (pay.drop 16) }
    else if ty = E.racc then
      let q := Config.raccOpen pay
      s.raccRx q.1 q.2.1 q.2.2
    else { s with dev := s.dev.raccAnswer (Config.rspOpen pay) }

/-- R125, R142, R552: bytes of a frame on P3 in EPMEL mode. The MAC judges it as any frame; one with a bad FCS counts EPL_BAD too. -/
def State.epmelBytes (bytes : List Byte) (fcsOk more : Bool) (sub : Nat) (obs : LineObs) (s : State) : State :=
  let d := s.dev
  if d.ck.deaf.contains 3 then { s with dev := d.rxSkip 3 more }
  else if d.loopMac 3 then { s with dev := (d.rxCutOff 3).rxSkip 3 more }
  else
    let d := (d.loopLine 3 bytes).lineObs 3 obs
    let m := d.fld (R.ETH_MAX_FRAME 3) 15 0
    let whole := ((d.wireOf 3).map (·.1)).getD [] ++ bytes
    if more = true ∧ m < whole.length then
      { s with dev := (((d.rxClear 3).rxSkip 3 true).rxJudge 3 (m + 1) false).2 }
    else if more then { s with dev := d.setCk { d.ck with wire := smPut 3 (whole, 0) d.ck.wire } }
    else
      match (d.rxClear 3).rxJudge 3 (whole.length + 4) fcsOk with
      | (false, d) => { s with dev := Dev.when (!fcsOk) (fun d => d.inc C.PAIR_EPL_BAD) d }
      | (true, d) =>
        State.epmelRx whole sub { s with dev := (d.add64 (C.ETH_RX_FRAMES 3) 1).castCount (C.ETH_RX_UCAST 3) whole }

/-- ETH_FRAME_RX (R125, R552): bytes of a frame on port p from DA on, without FCS, `sub` FRC units into the cycle at its stamp
point. A frame may come in several parts; `more` says that its tail is still to come. On P3 in EPMEL mode the frame is an
Epmel frame from its header on. (DEDUCED, log entry 56.) -/
def execEthFrameRx (p : Nat) (bytes : List Byte) (fcsOk more : Bool) (sub : Nat) (obs : LineObs) (s : State) :
    Host.Outcome State Fault Refusal :=
  if p = 3 ∧ s.dev.bit R.BOOT_STRAP 2 = true ∧ s.dev.epmelOn = true ∧ s.dev.portUp 3 = true then
    .next (s.epmelBytes bytes fcsOk more sub obs)
  else onDev (Dev.ethFrameRx p bytes fcsOk more sub obs) s

end Sys2Proof.Machine
end

