-- ==== Sys2Proof/Machine/PairEdge.lean ====
section
/-! DEFINITION. The pair block's part of a turn edge (R553 to R555, R559, R561, R562, R567 to R571): step 3 of R54, and the count
of BEATs missed after step 7. -/

namespace Sys2Proof.Machine

/-- Records gathered into payloads of at most 9,184 bytes, no record cut (R552, R559). (DEDUCED, log entry 82.) -/
def packRecs (cur : List Nat) : List (List Nat) → List (List Nat)
  | [] => [cur]
  | r :: rs => if 2296 < cur.length + r.length ∧ cur ≠ [] then cur :: packRecs r rs else packRecs (cur ++ r) rs

/-- R559: the journal of the ending turn is closed under the next number and sent. -/
def Dev.closeJournal (s : Dev) : Dev :=
  let p := s.pair
  let q := (s.rd R.PAIR_JSEQ + 1) % 2 ^ 32
  let fs := packRecs [] p.jrnl
  let s := (s.add64 C.PAIR_JRNL_RECORDS p.jrnl.length).wr R.PAIR_JSEQ q
  let s := forL fs.zipIdx (fun f s => s.eplSend E.journal q f.2 fs.length (natBytes f.1)) s
  s.setPair { s.pair with jrnl := [], words := 0, ovf := false }

/-- R562: a bulk resync, whole at this edge (DESIGN CHOICE, log entry 72). -/
def Dev.sendResync (s : Dev) : Dev :=
  let recs := s.syncRecs
  let fs := packRecs [] recs
  let s := s.eplOne E.ctl (wireBytes [2])
  let s := forL fs.zipIdx (fun f s => s.eplSend E.resync (s.eplSeq E.resync) f.2 fs.length (natBytes f.1)) s
  let s := (s.add64 C.PAIR_JRNL_RECORDS recs.length).eplOne E.ctl (wireBytes [3])
  s.setPair { s.pair with resync := false }

/-- R554: a HELLO. -/
def Dev.sendHello (s : Dev) : Dev :=
  let w1 := s.rd R.BOOT_EPOCH % 65536 * 65536 + s.fld R.PAIR_CFG 31 30
  let ws := [s.rd R.GLB_PART, w1, s.rd (R.DEV_FEAT 0), s.rd (R.DEV_FEAT 1), s.rd (R.DEV_FEAT 2), s.rd (R.DEV_FEAT 3)]
  let s := s.eplOne E.hello (wireBytes ws)
  s.setPair { s.pair with helloTx := true }

/-- R555, R76: hosts that hold a feature outside the intersection are renegotiated. -/
def Dev.pairFeats (feats : List Nat) (s : Dev) : Dev :=
  let s := forN 4 (fun k s => s.wr (R.PAIR_FEAT k) (s.rd (R.DEV_FEAT k) &&& feats.getD k 0)) s
  forN 2 (fun e s =>
    let out := (List.range 4).any fun k => (s.rd (drvFeat e k) &&& s.rd (R.PAIR_FEAT k)) != s.rd (drvFeat e k)
    if s.bit (featCtrl e) 1 = true ∧ out = true then s.featEnd e else s) s

/-- R555, R570: pairing completes at this edge, with the partner's ROLE and features of its last HELLO. -/
def Dev.pairUp (role : Bool) (feats : List Nat) (s : Dev) : Dev :=
  let own := s.bit R.PAIR_STAT 27
  let rank := s.bit R.PAIR_STAT 22
  let wins := if own then !role || !rank else !role && !rank
  let s := if own = true ∧ role = true ∧ rank = true then
      ((s.setBit R.PAIR_STAT 23 true).inc C.PAIR_TWO_ACTIVE_CNT).raise 0x128000 2
    else s
  let s := if wins then (s.setRole true).pairGoto 1 else s.loseRole.pairGoto 4
  let s := (s.pairFeats feats).setBit (R.CMB_STAT 2) 1 true
  let s := s.setPair { s.pair with once := true, fresh := true, resync := wins, hello := none, base := false, frag := none, miss := 0 }
  s.raise 0x128000 0

/-- R553: the BEAT; `yield` that it hands over the role. Words 4 to 6 and 16 on are written at departure. -/
def Dev.sendBeat (yield : Bool) (gpio tout : Nat) (s : Dev) : Dev :=
  let dep := roundStamp (s.departAt 3)
  let d := s.digest
  let map := s.fld R.PAIR_TIME_MAP 7 0
  let w0 := s.fld R.PWR_STAT 31 28 * 2 ^ 28 + (if s.hstHalted then 2 ^ 27 else 0) + (if yield then 2 ^ 26 else 0) +
    (if s.pwr.phase == .sleepEntry then 2 ^ 25 else 0) + map
  let doms := (List.range 8).flatMap fun k => if map.testBit k then domWords (s.domAt k dep) else [0, 0, 0, 0]
  let ws := [w0, d / 2 ^ 32, d % 2 ^ 32, s.rd R.PAIR_JSEQ] ++ rawWords dep ++ rawWords s.pair.dep ++ rawWords s.pair.arr ++
    [gpio &&& s.rd R.PAIR_GATE_PIN0, tout &&& s.rd R.PAIR_GATE_PIN1, 0] ++ doms
  (s.add64 C.PAIR_BEAT_TX 1).eplOne E.beat (natBytes ws)

/-- R569: what follows the BEAT that hands over: a planned handover leaves a STANDBY, a halted active a DIVERGED member, once its
partner is eligible. -/
def Dev.afterYield (s : Dev) : Dev :=
  let halted := s.hstHalted
  let s := s.setPair { s.pair with hand := false, yielded := s.pair.yielded || halted }
  if s.fld R.PAIR_PARTNER 6 4 ≠ 2 then s
  else
    let s := s.loseRole.pairGoto (if halted then 3 else 2)
    s.setPair { s.pair with base := true, frag := none, jrn := false, jrnl := [], words := 0, ovf := false, resync := false }

/-- R561: the input frames of the ending turn. -/
def Dev.sendInputs (s : Dev) : Dev :=
  let is := s.pair.inputs
  let s := s.setPair { s.pair with inputs := [] }
  if s.eplUp = false then s
  else
    forL is (fun i s =>
      let w0 := i.port % 64 * 2 ^ 24 + i.rver % 256 * 2 ^ 16 + i.gver % 256 * 2 ^ 8 + i.tc % 8
      (s.add64 C.PAIR_INPUT_FRAMES 1).eplOne E.input (wireBytes (w0 :: rawWords i.stamp) ++ i.bytes)) s

/-- R555, R569: what stands before the frames of step 3 leave: a halted standby diverges, and pairing completes. -/
def Dev.pairTurn (s : Dev) : Dev :=
  let s := if s.pairState = 2 ∧ s.hstHalted = true then s.pairGoto 3 else s
  match s.pair.hello with
  | none => s
  | some h => if s.pairState = 0 ∧ s.pair.helloTx = true then s.pairUp h.1 h.2 else s

/-- R571: the member is in REST, where only an empty JOURNAL and the BEAT leave. -/
def Dev.pairRests (s : Dev) : Bool := s.pwr.phase == .rest || s.pwr.phase == .restExit

/-- R554, R559, R562: the JOURNAL frames, a bulk resync that is due, and the HELLO. -/
def Dev.pairFrames (s : Dev) : Dev :=
  let s := Dev.when (s.pairState == 1) Dev.closeJournal s
  let s := Dev.when (s.pairState == 1 && s.pair.resync && !s.pair.fresh && s.eplUp && !s.pairRests) Dev.sendResync s
  Dev.when (s.pairState == 0 && s.eplUp) Dev.sendHello s

/-- R569: this BEAT hands over the role. -/
def Dev.yields (s : Dev) : Bool :=
  s.pairState == 1 && ((s.pair.hand && s.fld R.PAIR_PARTNER 6 4 == 2) || (s.hstHalted && !s.pair.yielded))

/-- The pair block is off: the member is not strapped to a pair, or PD8 is off in REST (R46, R550, R571). -/
def Dev.pairOff (s : Dev) : Bool := !s.bit R.BOOT_STRAP 2 || (s.pwr.phase == .rest && !s.bit (R.ETH_CTRL 3) 1)

/-- Step 3 of R54 in the pair block (R553 to R555, R559, R561, R562, R569, R571); `gpio` and `tout` are the levels of the pins. A
bulk resync and the input frames wait while the member is in REST. -/
def Dev.pairStep3 (gpio tout : Nat) (s : Dev) : Dev :=
  if s.pairOff then s
  else
    let s := s.pairTurn.pairFrames
    let y := s.yields && s.eplUp
    let s := Dev.when s.eplUp (Dev.sendBeat y gpio tout) s
    let s := Dev.when (!s.pairRests) Dev.sendInputs s
    let s := Dev.when y Dev.afterYield s
    s.setPair { s.pair with hand := false }

/-- R567, R568, R571: the member takes over from a partner that is lost. In REST it wakes first. -/
def Dev.takeover (s : Dev) : Dev :=
  let s := s.pairAlone
  if s.pwr.phase = .rest ∨ s.pwr.phase = .restExit then
    let s := (s.setBit R.PAIR_STAT 27 true).setPair { s.pair with taken := true }
    s.wakeEvent 0xA 3 0
  else s.takeSteps

/-- R567: consecutive misses end the pair. -/
def Dev.pairLost (s : Dev) : Dev :=
  if s.pairState = 1 then s.pairAlone.raise 0x128000 3
  else if s.pairEligible then s.takeover
  else s.pairAlone.loseRole.raise 0x128000 3

/-- R567, R571: after step 7: a BEAT came, or one is missed. -/
def Dev.pairMiss (s : Dev) : Dev :=
  if s.pairOff then s
  else
    let p := s.pair
    let s := s.setPair { p with beat := false, fresh := false }
    let s := if s.pair.taken = true ∧ s.pwr.phase = .active then (s.setPair { s.pair with taken := false }).takeSteps else s
    if s.pairState = 0 then (if p.beat then s else s.setBit R.PAIR_STAT 26 false)
    else if p.beat then s.setPair { s.pair with miss := 0 }
    else if p.fresh then s
    else if p.quiet then s.pairAlone
    else
      let s := (s.inc C.PAIR_BEAT_MISS).setPair { s.pair with miss := p.miss + 1 }
      if max 1 (min 2 (s.fld R.PAIR_CFG 27 24)) ≤ p.miss + 1 then s.pairLost else s

end Sys2Proof.Machine
end

