-- ==== Sys2Proof/Machine/Turn.lean ====
section
/-! DEFINITION. The turn edge (R47 to R57, R612): its placement, index and counter, the snapshots, and the work of its eight steps. -/

namespace Sys2Proof.Machine

/-- Failed reseeds of the DRBG in a row (R458), word 0. -/
def T.rng : Nat := 0x10380

/-- R48: an aligned instant falls in this FRC cycle. -/
def Dev.turnAligned (s : Dev) : Bool :=
  let (_, b, u) := s.turnSpan
  decide ((s.turn.phase + s.turnAim * s.turnNs) * u < b)

/-- R48, R51, R55: edges are placed between release and the point of no return, in REST as well, at an aligned instant at least
half a period after the last edge or the release. -/
def Dev.edgeDue (s : Dev) : Bool :=
  s.time.run && (s.pwr.phase == .active || s.pwr.phase == .restEntry || s.pwr.phase == .rest || s.pwr.phase == .restExit ||
    s.pwr.phase == .sleepEntry) && decide (s.halfTurn ≤ (s.time.frc + 2 ^ 96 - s.turn.last % 2 ^ 96) % 2 ^ 96) && s.turnAligned

/-- R54 step 1, R367: the snapshots of every page that does not hold them; a page that holds counts the edge. -/
def Dev.latchSnaps (s : Dev) : Dev :=
  let held := unitPages.filter fun p => s.bit (p + 0x2C) 0
  let isHeld (k : Nat) : Bool := held.contains (unitBase k)
  let live := s.regs.filter fun e => isCounter e.1 && !isHeld e.1
  let snap := live.foldl (fun m e => smSet (fun _ => (0 : Word)) m e.1 e.2) (s.snap.filter fun e => isHeld e.1)
  let s := { s with snap := snap, snapTurn := s.turnCnt, snapEx := s.snapEx.filter fun e => held.contains e.1 }
  forL held (fun p s => s.setFld (p + 0x2C) 15 8 (min 255 (s.fld (p + 0x2C) 15 8 + 1))) s

/-- R50, R52: the counter, the index and the instant of this edge; answers whether the index jumped. -/
def Dev.turnCount (s : Dev) : Bool × Dev :=
  let was := s.rd64 R.TURN_IDX_LO
  let i := s.turnAim % 2 ^ 64
  let jump := !s.turn.rebase && i != (was + 1) % 2 ^ 64
  let f := s.time.frc
  let s := (s.wr64 R.TURN_CNT_LO (s.turnCnt + 1)).wr64 R.TURN_IDX_LO i
  let s := (((s.wr R.TURN_EDGE_FRC0 f).wr R.TURN_EDGE_FRC1 (f / 2 ^ 32)).wr R.TURN_EDGE_FRC2 (f / 2 ^ 64))
  (jump, { s with turn := { s.turn with rebase := false, last := f } })

/-- R55: the edges that run only steps 1, 5 and 7 and the pair block's part of step 3. -/
def Dev.reduced (s : Dev) : Bool := s.pwr.phase == .rest || s.pwr.phase == .restExit

/-- R56: an edge that can give the Headstock turn work, and that is judged where the edge before it gave work. -/
def Dev.turnWorks (s : Dev) : Bool := s.pwr.hostRel && s.fld R.HST_STAT 31 28 != 3 && !s.reduced

/-- R56, R612: an edge that ends a turn with work is judged; `done` that TURN_HST_DONE was written in it. -/
def Dev.turnJudge (done : Bool) (s : Dev) : Dev :=
  let s := if done then s.wr R.TURN_OVR_RUN 0 else s
  if (s.hst.workGiven && s.turnWorks) = false then s
  else
    let s := if done then s else ((s.raise 0x1000 1).inc C.TURN_OVR_CNT).inc C.TURN_OVR_RUN
    let ended := if done then (s.hst.doneAt).getD s.time.frc else s.time.frc
    let load := (ended - s.hst.workAt) / 2 ^ 16
    (s.wr R.TURN_LOAD load).wr R.TURN_LOAD_MAX (max (s.rd R.TURN_LOAD_MAX) load)

/-- R49: staged turn settings take effect, or are refused; answers whether they changed. -/
def Dev.turnApply (s : Dev) : Bool × Dev :=
  if s.bit R.TURN_CTRL 0 = false then (false, s)
  else
    let k := s.fld R.TURN_CFG 6 0
    let ph := s.fld R.TURN_PHASE 20 0
    let s := (s.setBit R.TURN_CTRL 0 false).setBit R.TURN_STAT 1 false
    if k < 2 ∨ 64 < k ∨ k * 31250 ≤ ph then (false, s.setBit R.TURN_STAT 3 true)
    else (true, { s with turn := { s.turn with k := k, phase := ph, rebase := true } })

/-- Step 2 of R54: versions, the pause of an update, and turn settings. In HALTED no version commits (R504). -/
def Dev.turnStep2 (s : Dev) : Bool × Dev :=
  let g := s.bit R.PARS_STAT 0
  let r := s.bit R.RULE_STAT 0
  let s := if s.hstHalted then
      let s := ((s.setBit R.PARS_STAT 0 false).setBit R.RULE_STAT 0 false).parsEdge.ruleEdge
      (s.setBit R.PARS_STAT 0 g).setBit R.RULE_STAT 0 r
    else s.parsEdge.ruleEdge.pauseEdge
  s.turnApply

/-- R296, R190: the shadow tables and entries that the comparator leaves out: those under a pending commit or swap. -/
def Dev.shadowSkip (s : Dev) (t i : Nat) : Bool :=
  if t = 4 ∨ t = 5 ∨ t = 6 then s.bit R.RULE_STAT 2 || s.bit R.RULE_STAT 0
  else if t = 7 ∨ t = 8 then s.bit R.PARS_STAT 2 || s.bit R.PARS_STAT 0
  else if t = 10 then
    (List.range 24).any fun n => (s.ttsCh n).skip &&
      (decide ((s.ttsCh n).base ≤ i ∧ i < (s.ttsCh n).base + (s.ttsCh n).count) ||
        decide ((s.stagedRange n).1 ≤ i ∧ i < (s.stagedRange n).1 + (s.stagedRange n).2))
  else if t = 11 then (s.ttsCh (i / 64)).skip
  else if t = 9 then s.bit (R.TSN_STAT (i / 1024)) 31
  else false

/-- R458: the DRBG is reseeded, or goes on with its old seed. -/
def Dev.reseed (ok : Bool) (s : Dev) : Dev :=
  if ok then ((s.setTab T.rng 0 0 0).setBit R.CPE_STAT 1 false).setBit R.CPE_STAT 2 false
  else
    let n := s.tab T.rng 0 0 + 1
    let s := ((s.setTab T.rng 0 0 n).setBit R.CPE_STAT 1 true).raise 0xF0000 3
    if n = 64 then (s.setBit R.CPE_STAT 2 true).raise 0xF0000 4 else s

/-- Step 6 of R54, with the other slices that run at an edge (R248, R268, R286, R296, R321). -/
def Dev.turnSlices (e : TurnEnv) (skip : Nat → Nat → Bool) (s : Dev) : Dev :=
  ((((s.flowScan e.flowBad).macScan e.macBad e.macCorr).burrSlice e.leaks e.healed e.doubles).shadowSlice skip e.shdBad e.liveBad).ruleScrub e.ruleCorr e.ruleBad

/-- R56: whether this edge gives the Headstock turn work, and when that begins. -/
def Dev.giveWork (startNs : Nat) (s : Dev) : Dev :=
  { s with hst := { s.hst with
      workGiven := s.turnWorks
      workAt := s.time.frc + min 6000 startNs * 2 ^ 16
      doneAt := none
      sinceRestart := s.hst.sinceRestart.map fun n => n + 1 } }

/-- What runs at every edge before step 2: counter, snapshots, judgement. Answers whether the index jumped. -/
def Dev.turnStep1 (s : Dev) : Bool × Dev :=
  let done := s.bit R.TURN_STAT 2
  let r := ({ forN 32 Dev.lpiTouch s with once := [] }).turnCount
  let s := (r.2.latchSnaps.turnJudge done).setBit R.TURN_STAT 2 false
  (r.1, if r.1 then (s.inc C.TURN_STEP_CNT).raise 0x1000 2 else s)

/-- The edge's work on the shapers, schedules, outputs, key store and entropy source (R349, R188, R176, R388, R458, R482, R140). -/
def Dev.turnEngines (moved : Bool) (e : TurnEnv) (s : Dev) : Dev :=
  let s := (forN 34 Dev.cqfEdge s).ttsEdge moved
  let s := forL e.keyBad Dev.slotUncorr s
  let s := s.reseed e.reseed
  forL e.obs (fun o s => s.sqiShow o.port o.sqi) s

/-- R388: outputs in mode TURN begin a pulse at each edge. -/
def Dev.turnPulses (s : Dev) : Dev := forN 8 (fun k s => if s.toutMode k = 3 then s.toutPulse k else s) s

/-- R392: the keeper stops at the first edge in ACTIVE. -/
def Dev.keeperStop (s : Dev) : Dev :=
  if s.pwr.phase = .active ∧ s.pwr.keeper = true then
    { s.setPwr { s.pwr with keeper := false } with time := { s.time with keepQ := [] } }
  else s

/-- Steps 2 to 6 of R54 at a full edge. -/
def Dev.turnFull (jump done : Bool) (e : TurnEnv) (s : Dev) : Dev :=
  let skip := s.shadowSkip
  let r := s.turnStep2
  let s := (r.2.keeperStop.entryEdge done).pairStep3 e.gpio e.tout
  let s := Dev.when (s.fld R.HST_STAT 31 28 == 0) Dev.checkpoint s
  ((s.truEdge (fun _ => true) e.obs).turnSlices e skip).turnEngines (jump || r.1) e

/-- A turn edge (R54, R55). (DEDUCED, log entry 81.) -/
def Dev.turnEdge (e : TurnEnv) (s : Dev) : Dev :=
  if s.edgeDue = false then s
  else
    let done := s.bit R.TURN_STAT 2
    let r := s.turnStep1
    let s := if r.2.reduced then (r.2.pairStep3 e.gpio e.tout).truEdge (fun n => s.bit (R.ETH_CTRL n) 1) e.obs else r.2.turnFull r.1 done e
    let s := (s.turnPulses.raise 0x1000 0).giveWork e.startNs
    s.pairMiss.mgmtWakes

/-- TURN_EDGE (R54): an aligned instant of R48 falls in this FRC cycle. (DEDUCED, log entry 80.) -/
def execTurnEdge (e : TurnEnv) (s : State) : Host.Outcome State Fault Refusal := onDev (Dev.turnEdge e) s

end Sys2Proof.Machine
end

