-- ==== Sys2Proof/Machine/Dispatch.lean ====
section
/-! DEFINITION. One arm for each command of the table. -/

namespace Sys2Proof.Machine

/-- A command's effect on everything but the queue. -/
def exec (i : Instr) (s : State) : Host.Outcome State Fault Refusal :=
  match i with
  | .registerWrite r off size v => Sys2Proof.Machine.execRegisterWrite r off size v s
  | .loRegisterRead r off size => Sys2Proof.Machine.execLoRegisterRead r off size s
  | .rcRead r off => Sys2Proof.Machine.execRcRead r off s
  | .softRst r p => Sys2Proof.Machine.execSoftRst r p s
  | .evForce r p v => Sys2Proof.Machine.execEvForce r p v s
  | .pgOwnerWrite r p v => Sys2Proof.Machine.execPgOwnerWrite r p v s
  | .pgLockWrite r p v => Sys2Proof.Machine.execPgLockWrite r p v s
  | .satClear r off v => Sys2Proof.Machine.execSatClear r off v s
  | .tawRead r w => Sys2Proof.Machine.execTawRead r w s
  | .tawWrite r w => Sys2Proof.Machine.execTawWrite r w s
  | .writeValidLast r w => Sys2Proof.Machine.execWriteValidLast r w s
  | .tawOpDone w ecc => Sys2Proof.Machine.execTawOpDone w ecc s
  | .featRequest r e => Sys2Proof.Machine.execFeatRequest r e s
  | .featAnswer e => Sys2Proof.Machine.execFeatAnswer e s
  | .reneg r e => Sys2Proof.Machine.execReneg r e s
  | .cmbGo r m => Sys2Proof.Machine.execCmbGo r m s
  | .cmbTake => Sys2Proof.Machine.execCmbTake s
  | .cmbAbort r m v => Sys2Proof.Machine.execCmbAbort r m v s
  | .nop m => Sys2Proof.Machine.execNop m s
  | .identify m => Sys2Proof.Machine.execIdentify m s
  | .featQuery m => Sys2Proof.Machine.execFeatQuery m s
  | .tagFlush m => Sys2Proof.Machine.execTagFlush m s
  | .porstAssert => Sys2Proof.Machine.execPorstAssert s
  | .porstRelease st => Sys2Proof.Machine.execPorstRelease st s
  | .pllLock => Sys2Proof.Machine.execPllLock s
  | .fuseStageDone ok prog => Sys2Proof.Machine.execFuseStageDone ok prog s
  | .memoryStageDone dramOk linkOk => Sys2Proof.Machine.execMemoryStageDone dramOk linkOk s
  | .headerStageDone a b => Sys2Proof.Machine.execHeaderStageDone a b s
  | .imageStageDone img => Sys2Proof.Machine.execImageStageDone img s
  | .verifyStageDone => Sys2Proof.Machine.execVerifyStageDone s
  | .keysStageDone => Sys2Proof.Machine.execKeysStageDone s
  | .tablesStageDone => Sys2Proof.Machine.execTablesStageDone s
  | .dpRelease us => Sys2Proof.Machine.execDpRelease us s
  | .hostRelease us => Sys2Proof.Machine.execHostRelease us s
  | .bootTimeout => Sys2Proof.Machine.execBootTimeout s
  | .turnEdge e => Sys2Proof.Machine.execTurnEdge e s
  | .turnApply r => Sys2Proof.Machine.execTurnApply r s
  | .clrOvr r => Sys2Proof.Machine.execClrOvr r s
  | .turnHstDone r => Sys2Proof.Machine.execTurnHstDone r s
  | .portEnWrite r n v => Sys2Proof.Machine.execPortEnWrite r n v s
  | .ethModeWrite r n v => Sys2Proof.Machine.execEthModeWrite r n v s
  | .linkUp n inband align sqi plca => Sys2Proof.Machine.execLinkUp n inband align sqi plca s
  | .linkDown n fault => Sys2Proof.Machine.execLinkDown n fault s
  | .inbandRateChange n rate => Sys2Proof.Machine.execInbandRateChange n rate s
  | .ethFrameRx p bytes fcsOk more sub obs => Sys2Proof.Machine.execEthFrameRx p bytes fcsOk more sub obs s
  | .spindlePass k env => Sys2Proof.Machine.execSpindlePass k env s
  | .recircReenter => Sys2Proof.Machine.execRecircReenter s
  | .txSelect n sent ecc info => Sys2Proof.Machine.execTxSelect n sent ecc info s
  | .ethTxDone n tap coll => Sys2Proof.Machine.execEthTxDone n tap coll s
  | .lpiEntry n rx => Sys2Proof.Machine.execLpiEntry n rx s
  | .lpiExitDone n rx => Sys2Proof.Machine.execLpiExitDone n rx s
  | .sleepReq r n => Sys2Proof.Machine.execSleepReq r n s
  | .tc10Slept n => Sys2Proof.Machine.execTc10Slept n s
  | .tc10Fail n => Sys2Proof.Machine.execTc10Fail n s
  | .tc10RemoteSleep n => Sys2Proof.Machine.execTc10RemoteSleep n s
  | .wakeReq r n sleep => Sys2Proof.Machine.execWakeReq r n sleep s
  | .tc10Woke n => Sys2Proof.Machine.execTc10Woke n s
  | .diagStart r n => Sys2Proof.Machine.execDiagStart r n s
  | .diagDone n result dist => Sys2Proof.Machine.execDiagDone n result dist s
  | .mdioWrite r n addr => Sys2Proof.Machine.execMdioWrite r n addr s
  | .mdioRead r n addr => Sys2Proof.Machine.execMdioRead r n addr s
  | .mdioDone resp => Sys2Proof.Machine.execMdioDone resp s
  | .mdioPoll n status => Sys2Proof.Machine.execMdioPoll n status s
  | .chEnWrite r n v => Sys2Proof.Machine.execChEnWrite r n v s
  | .canIntegrated n => Sys2Proof.Machine.execCanIntegrated n s
  | .canFrameRx n f ago => Sys2Proof.Machine.execCanFrameRx n f ago s
  | .canBusError n code data tx plain dom => Sys2Proof.Machine.execCanBusError n code data tx plain dom s
  | .boffDelayExpiry n => Sys2Proof.Machine.execBoffDelayExpiry n s
  | .recover r n => Sys2Proof.Machine.execRecover r n s
  | .canRecoveryDone n => Sys2Proof.Machine.execCanRecoveryDone n s
  | .canTxStart n tdcv => Sys2Proof.Machine.execCanTxStart n tdcv s
  | .canTxDone n => Sys2Proof.Machine.execCanTxDone n s
  | .arbLost n => Sys2Proof.Machine.execArbLost n s
  | .canCancel r n v => Sys2Proof.Machine.execCanCancel r n v s
  | .chSleepWrite r n v => Sys2Proof.Machine.execChSleepWrite r n v s
  | .canWakeDetect n reason f => Sys2Proof.Machine.execCanWakeDetect n reason f s
  | .gwyEnterFrame => Sys2Proof.Machine.execGwyEnterFrame s
  | .gwyCopyIn ecc info => Sys2Proof.Machine.execGwyCopyIn ecc info s
  | .gwyBatchTimeout p => Sys2Proof.Machine.execGwyBatchTimeout p s
  | .ttsEnWrite r n v => Sys2Proof.Machine.execTtsEnWrite r n v s
  | .ttsRefDue n sub idle => Sys2Proof.Machine.execTtsRefDue n sub idle s
  | .ttsRefRx n prio cnt gap mark ago => Sys2Proof.Machine.execTtsRefRx n prio cnt gap mark ago s
  | .ttsRefTimeout n => Sys2Proof.Machine.execTtsRefTimeout n s
  | .ttsWindowStart n k tdcv busy => Sys2Proof.Machine.execTtsWindowStart n k tdcv busy s
  | .ttsTxenClose n => Sys2Proof.Machine.execTtsTxenClose n s
  | .rxMiss n => Sys2Proof.Machine.execRxMiss n s
  | .ttsSwap r n v => Sys2Proof.Machine.execTtsSwap r n v s
  | .swapDone n => Sys2Proof.Machine.execSwapDone n s
  | .ttsHbclr r n v => Sys2Proof.Machine.execTtsHbclr r n v s
  | .linEnWrite r n v => Sys2Proof.Machine.execLinEnWrite r n v s
  | .linSlotStart n busy => Sys2Proof.Machine.execLinSlotStart n busy s
  | .linHeaderRx n id ago => Sys2Proof.Machine.execLinHeaderRx n id ago s
  | .linResponseRx n data sum => Sys2Proof.Machine.execLinResponseRx n data sum s
  | .linNoResp n => Sys2Proof.Machine.execLinNoResp n s
  | .linSleepCmdRx n => Sys2Proof.Machine.execLinSleepCmdRx n s
  | .linIdleTimeout n => Sys2Proof.Machine.execLinIdleTimeout n s
  | .linWakeReq r n => Sys2Proof.Machine.execLinWakeReq r n s
  | .linWoke n => Sys2Proof.Machine.execLinWoke n s
  | .linWakingDone n => Sys2Proof.Machine.execLinWakingDone n s
  | .serEnWrite r n v => Sys2Proof.Machine.execSerEnWrite r n v s
  | .serFrameRx n bytes err ago => Sys2Proof.Machine.execSerFrameRx n bytes err ago s
  | .serTxStart n defer => Sys2Proof.Machine.execSerTxStart n defer s
  | .serTxDone n coll => Sys2Proof.Machine.execSerTxDone n coll s
  | .parsCommit r => Sys2Proof.Machine.execParsCommit r s
  | .parsCheckDone bad => Sys2Proof.Machine.execParsCheckDone bad s
  | .ruleCommit r => Sys2Proof.Machine.execRuleCommit r s
  | .ruleCheckDone bad badMat => Sys2Proof.Machine.execRuleCheckDone bad badMat s
  | .zoneSet m race => Sys2Proof.Machine.execZoneSet m race s
  | .flowInsertServe k bad => Sys2Proof.Machine.execFlowInsertServe k bad s
  | .find r => Sys2Proof.Machine.execFind r s
  | .insert r => Sys2Proof.Machine.execInsert r s
  | .delete r => Sys2Proof.Machine.execDelete r s
  | .srchDone k bad => Sys2Proof.Machine.execSrchDone k bad s
  | .flowPurgeWrite r v => Sys2Proof.Machine.execFlowPurgeWrite r v s
  | .learnApply => Sys2Proof.Machine.execLearnApply s
  | .shadowRead r => Sys2Proof.Machine.execShadowRead r s
  | .shadowWrite r last => Sys2Proof.Machine.execShadowWrite r last s
  | .bufCfgWrite r off v => Sys2Proof.Machine.execBufCfgWrite r off v s
  | .bufDeepWrite r k v => Sys2Proof.Machine.execBufDeepWrite r k v s
  | .spillWriteDone k => Sys2Proof.Machine.execSpillWriteDone k s
  | .refill k ecc word => Sys2Proof.Machine.execRefill k ecc word s
  | .reorderTimeout f => Sys2Proof.Machine.execReorderTimeout f s
  | .sgChangeReq r => Sys2Proof.Machine.execSgChangeReq r s
  | .sgChange g => Sys2Proof.Machine.execSgChange g s
  | .configChangeReq r n v => Sys2Proof.Machine.execConfigChangeReq r n v s
  | .configChange n => Sys2Proof.Machine.execConfigChange n s
  | .gclEntryAdvance n => Sys2Proof.Machine.execGclEntryAdvance n s
  | .preemptVerify n ok => Sys2Proof.Machine.execPreemptVerify n ok s
  | .rcvyReset r => Sys2Proof.Machine.execRcvyReset r s
  | .mirScfgWrite r k v => Sys2Proof.Machine.execMirScfgWrite r k v s
  | .capRecordWrite reading ecc info => Sys2Proof.Machine.execCapRecordWrite reading ecc info s
  | .capFreeze r v => Sys2Proof.Machine.execCapFreeze r v s
  | .capDrainDeliver ecc word descs => Sys2Proof.Machine.execCapDrainDeliver ecc word descs s
  | .capRelease r n => Sys2Proof.Machine.execCapRelease r n s
  | .timeFrc0Read r => Sys2Proof.Machine.execTimeFrc0Read r s
  | .tdSLoRead r k => Sys2Proof.Machine.execTdSLoRead r k s
  | .xsnap r => Sys2Proof.Machine.execXsnap r s
  | .tdRateHiWrite r k v => Sys2Proof.Machine.execTdRateHiWrite r k v s
  | .step r k rel => Sys2Proof.Machine.execStep r k rel s
  | .tdAdjWrite r k v => Sys2Proof.Machine.execTdAdjWrite r k v s
  | .adjDone k => Sys2Proof.Machine.execAdjDone k s
  | .tdEnWrite r k v => Sys2Proof.Machine.execTdEnWrite r k v s
  | .toutArm r k v => Sys2Proof.Machine.execToutArm r k v s
  | .toutPulse k => Sys2Proof.Machine.execToutPulse k s
  | .tcapEdge idx rise sub => Sys2Proof.Machine.execTcapEdge idx rise sub s
  | .tcapPop r => Sys2Proof.Machine.execTcapPop r s
  | .tsfPop r => Sys2Proof.Machine.execTsfPop r s
  | .keepSyncInterval d => Sys2Proof.Machine.execKeepSyncInterval d s
  | .keepFrameRx => Sys2Proof.Machine.execKeepFrameRx s
  | .keepLost d => Sys2Proof.Machine.execKeepLost d s
  | .slpRatioMeasure span => Sys2Proof.Machine.execSlpRatioMeasure span s
  | .ringEnWrite r k v => Sys2Proof.Machine.execRingEnWrite r k v s
  | .ringTailWrite r k v => Sys2Proof.Machine.execRingTailWrite r k v s
  | .rpCfgWrite r n v => Sys2Proof.Machine.execRpCfgWrite r n v s
  | .start r k => Sys2Proof.Machine.execStart r k s
  | .stop r k abort => Sys2Proof.Machine.execStop r k abort s
  | .ringStopped k => Sys2Proof.Machine.execRingStopped k s
  | .abort r k => Sys2Proof.Machine.execAbort r k s
  | .force r k => Sys2Proof.Machine.execForce r k s
  | .hifTxFetch e views => Sys2Proof.Machine.execHifTxFetch e views s
  | .hifTxComplete k => Sys2Proof.Machine.execHifTxComplete k s
  | .hifRxDeliver e ecc info part views => Sys2Proof.Machine.execHifRxDeliver e ecc info part views s
  | .dmaErr k canWrite => Sys2Proof.Machine.execDmaErr k canWrite s
  | .modHoldoffExpiry n => Sys2Proof.Machine.execModHoldoffExpiry n s
  | .pcieLinkChange e env => Sys2Proof.Machine.execPcieLinkChange e env s
  | .perstAssert e => Sys2Proof.Machine.execPerstAssert e s
  | .perstRise e => Sys2Proof.Machine.execPerstRise e s
  | .intcSourceChange src => Sys2Proof.Machine.execIntcSourceChange src s
  | .intcHoldoffExpiry g t => Sys2Proof.Machine.execIntcHoldoffExpiry g t s
  | .intcClaim r t => Sys2Proof.Machine.execIntcClaim r t s
  | .intcDone r t v => Sys2Proof.Machine.execIntcDone r t v s
  | .intcSrcCfgWrite r src v => Sys2Proof.Machine.execIntcSrcCfgWrite r src v s
  | .intcTgtSleepWrite r v => Sys2Proof.Machine.execIntcTgtSleepWrite r v s
  | .msixPendingSend e => Sys2Proof.Machine.execMsixPendingSend e s
  | .safetyCondition c => Sys2Proof.Machine.execSafetyCondition c s
  | .intcSafeForce r v => Sys2Proof.Machine.execIntcSafeForce r v s
  | .gcmEnc k env => Sys2Proof.Machine.execGcmEnc k env s
  | .gcmDec k env => Sys2Proof.Machine.execGcmDec k env s
  | .cmacGen k env => Sys2Proof.Machine.execCmacGen k env s
  | .cmacVer k env => Sys2Proof.Machine.execCmacVer k env s
  | .sha3256 k env => Sys2Proof.Machine.execSha3256 k env s
  | .random k env => Sys2Proof.Machine.execRandom k env s
  | .laStart => Sys2Proof.Machine.execLaStart s
  | .laDone k => Sys2Proof.Machine.execLaDone k s
  | .laAbort r k v => Sys2Proof.Machine.execLaAbort r k v s
  | .cpeUwinWrite r k lim v => Sys2Proof.Machine.execCpeUwinWrite r k lim v s
  | .keyInstall m => Sys2Proof.Machine.execKeyInstall m s
  | .keyErase m => Sys2Proof.Machine.execKeyErase m s
  | .keyDerive m => Sys2Proof.Machine.execKeyDerive m s
  | .attest m => Sys2Proof.Machine.execAttest m s
  | .lcTransition m burnOk => Sys2Proof.Machine.execLcTransition m burnOk s
  | .lcReset => Sys2Proof.Machine.execLcReset s
  | .ownerKey m burnOk => Sys2Proof.Machine.execOwnerKey m burnOk s
  | .tamperInput src on => Sys2Proof.Machine.execTamperInput src on s
  | .entFail => Sys2Proof.Machine.execEntFail s
  | .lockstepMismatch unit => Sys2Proof.Machine.execLockstepMismatch unit s
  | .hstRestarted ok us => Sys2Proof.Machine.execHstRestarted ok us s
  | .ckptExtra => Sys2Proof.Machine.execCkptExtra s
  | .benchRead r addr n busy ecc => Sys2Proof.Machine.execBenchRead r addr n busy ecc s
  | .benchWrite r addr bytes busy => Sys2Proof.Machine.execBenchWrite r addr bytes busy s
  | .benchOwnWrite r n v => Sys2Proof.Machine.execBenchOwnWrite r n v s
  | .handoverDone n => Sys2Proof.Machine.execHandoverDone n s
  | .add r busy => Sys2Proof.Machine.execAdd r busy s
  | .swap r busy => Sys2Proof.Machine.execSwap r busy s
  | .cas r busy => Sys2Proof.Machine.execCas r busy s
  | .dramScrub ecc => Sys2Proof.Machine.execDramScrub ecc s
  | .dramCleared => Sys2Proof.Machine.execDramCleared s
  | .pwrReqActive r => Sys2Proof.Machine.execPwrReqActive r s
  | .pwrReqRest r => Sys2Proof.Machine.execPwrReqRest r s
  | .pwrReqSleep r => Sys2Proof.Machine.execPwrReqSleep r s
  | .confirm r => Sys2Proof.Machine.execConfirm r s
  | .drainDone => Sys2Proof.Machine.execDrainDone s
  | .drainTimeout => Sys2Proof.Machine.execDrainTimeout s
  | .restEntered => Sys2Proof.Machine.execRestEntered s
  | .restExitDone => Sys2Proof.Machine.execRestExitDone s
  | .pointOfNoReturn => Sys2Proof.Machine.execPointOfNoReturn s
  | .sleepEntered => Sys2Proof.Machine.execSleepEntered s
  | .minSleepExpiry => Sys2Proof.Machine.execMinSleepExpiry s
  | .wakeSupplyReady linkOk recOk => Sys2Proof.Machine.execWakeSupplyReady linkOk recOk s
  | .wakeRailTimeout => Sys2Proof.Machine.execWakeRailTimeout s
  | .legacyRelease ok => Sys2Proof.Machine.execLegacyRelease ok s
  | .lateSectionsLoaded ok => Sys2Proof.Machine.execLateSectionsLoaded ok s
  | .wakeHstStarted ok => Sys2Proof.Machine.execWakeHstStarted ok s
  | .hostWakeTimeout => Sys2Proof.Machine.execHostWakeTimeout s
  | .wakeInEdge k rise => Sys2Proof.Machine.execWakeInEdge k rise s
  | .vehMovingRise stays => Sys2Proof.Machine.execVehMovingRise stays s
  | .pwrTimerExpiry => Sys2Proof.Machine.execPwrTimerExpiry s
  | .fwWindowExpiry => Sys2Proof.Machine.execFwWindowExpiry s
  | .lineSafeState => Sys2Proof.Machine.execLineSafeState s
  | .nmEnWrite r n v => Sys2Proof.Machine.execNmEnWrite r n v s
  | .nmReqWrite r n v => Sys2Proof.Machine.execNmReqWrite r n v s
  | .nmCycle n => Sys2Proof.Machine.execNmCycle n s
  | .nmTimeout n => Sys2Proof.Machine.execNmTimeout n s
  | .vbatSample mv => Sys2Proof.Machine.execVbatSample mv s
  | .d2dLinkLoss => Sys2Proof.Machine.execD2dLinkLoss s
  | .d2dLinkRetrained => Sys2Proof.Machine.execD2dLinkRetrained s
  | .xtalFail => Sys2Proof.Machine.execXtalFail s
  | .clk32kLost => Sys2Proof.Machine.execClk32kLost s
  | .supplyOutOfRange bad => Sys2Proof.Machine.execSupplyOutOfRange bad s
  | .supplyBelowTrip rail => Sys2Proof.Machine.execSupplyBelowTrip rail s
  | .helloRx h ws => Sys2Proof.Machine.execHelloRx h ws s
  | .beatRx h ws sub => Sys2Proof.Machine.execBeatRx h ws sub s
  | .journalRx h ws => Sys2Proof.Machine.execJournalRx h ws s
  | .resyncRx h ws => Sys2Proof.Machine.execResyncRx h ws s
  | .resyncRequestRx => Sys2Proof.Machine.execResyncRequestRx s
  | .resyncStartRx => Sys2Proof.Machine.execResyncStartRx s
  | .resyncEndRx => Sys2Proof.Machine.execResyncEndRx s
  | .inputRx h ws bytes => Sys2Proof.Machine.execInputRx h ws bytes s
  | .raccRx wr off v => Sys2Proof.Machine.execRaccRx wr off v s
  | .raccRspRx v => Sys2Proof.Machine.execRaccRspRx v s
  | .raccRead r => Sys2Proof.Machine.execRaccRead r s
  | .raccWrite r => Sys2Proof.Machine.execRaccWrite r s
  | .raccTimeout => Sys2Proof.Machine.execRaccTimeout s
  | .pairSwitch r => Sys2Proof.Machine.execPairSwitch r s
  | .pairResync r => Sys2Proof.Machine.execPairResync r s
  | .pairWaitExpiry => Sys2Proof.Machine.execPairWaitExpiry s
  | .updBegin m => Sys2Proof.Machine.execUpdBegin m s
  | .updWrite m => Sys2Proof.Machine.execUpdWrite m s
  | .updFinish m img => Sys2Proof.Machine.execUpdFinish m img s
  | .activate m img room => Sys2Proof.Machine.execActivate m img room s
  | .activateFwLoaded ok => Sys2Proof.Machine.execActivateFwLoaded ok s
  | .activateSectionsLoaded ok => Sys2Proof.Machine.execActivateSectionsLoaded ok s
  | .activated => Sys2Proof.Machine.execActivated s
  | .updFloor m burnOk => Sys2Proof.Machine.execUpdFloor m burnOk s
  | .updStatus m => Sys2Proof.Machine.execUpdStatus m s
  | .updCancel m => Sys2Proof.Machine.execUpdCancel m s
  | .hstCopyTake ecc info => Sys2Proof.Machine.execHstCopyTake ecc info s
  | .hstFrameSend bytes tc tsr td tag ref => Sys2Proof.Machine.execHstFrameSend bytes tc tsr td tag ref s
  | .jtagInstruction idx st => Sys2Proof.Machine.execJtagInstruction idx st s
  | .serWakeActivity n => Sys2Proof.Machine.execSerWakeActivity n s
  | .swkFrameDecoded n cc err => Sys2Proof.Machine.execSwkFrameDecoded n cc err s
  | .dramTrained => Sys2Proof.Machine.execDramTrained s
  | .hstStateRestored => Sys2Proof.Machine.execHstStateRestored s

end Sys2Proof.Machine
end

