-- ==== Sys2Proof/Machine/Step.lean ====
section
/-! DEFINITION. One step: the command at the front of the queue, or one clock cycle when no command waits (DESIGN CHOICE, log entry 1). -/

namespace Sys2Proof.Machine

/-- The block left to itself for one cycle: one cycle of the time clock while it runs (R369), else one tick of the Tailstock (R540);
nothing while PORST_N is low. -/
def Dev.idle (s : Dev) : Dev :=
  if s.pins.porst = false then s
  else if s.time.run then s.timeTick.linTick
  else { s with pwr := { s.pwr with ticks := (s.pwr.ticks + 1) % 2 ^ 32 } }

/-- One step: take the command at the front of the queue and carry it out; with an empty queue, one cycle passes. -/
def step (s : State) : Host.Outcome State Fault Refusal :=
  match s.pending with
  | [] => .next { s with dev := s.dev.idle }
  | c :: rest => exec c { s with pending := rest }

/-- The state with the command that a table word spells at the front of its queue; the table gives no row bits, so no word spells
one. -/
def State.withFetchWord (s : State) (nbits w : Nat) : State :=
  match decodeTableWord nbits w with
  | some c => { s with pending := c :: s.pending }
  | none => s

end Sys2Proof.Machine
end

