-- ==== Sys2Proof/Safety.lean ====
section
/-! DEFINITION. The terms in which the statements speak: when a register write is accepted, when a command completes, and what it
leaves alone. -/

namespace Sys2Proof.Machine

/-- A write by a requester reaches a register and is accepted: its path answers (R113, R114, R610), the page's owner admits it (R63),
the unit is ready (R61), and a member that is not active does not refuse it as configuration (R564). -/
abbrev Accepts (s : State) (r : Req) (off : Nat) : Prop :=
  s.dev.reach r off = true ∧ s.dev.mayWrite r off = true ∧ s.dev.ready off = true ∧
    (isCfgReg off = true → hostLike r = true → s.dev.notActive = false)

/-- A write by a requester to a register of ring pair n or of its rings is accepted (R417). -/
abbrev PairAccepts (s : State) (r : Req) (n off : Nat) : Prop :=
  s.dev.reach r off = true ∧ s.dev.pairOwner n r = true ∧ s.dev.ready off = true ∧
    (isCfgReg off = true → hostLike r = true → s.dev.notActive = false)

/-- A command completes: it answers a next state, of which a property holds. -/
def Completes (i : Instr) (s : State) (p : State → Prop) : Prop := ∃ t, exec i s = .next t ∧ p t

/-- Two states agree but for the registers listed: every other register, the tables, the Bench, what outlives PORST_N and the
queue. -/
def SameBut (regs : List Nat) (s t : State) : Prop :=
  (∀ o, o ∉ regs → t.dev.rd o = s.dev.rd o) ∧ t.dev.tabs = s.dev.tabs ∧ t.bench = s.bench ∧ t.vault = s.vault ∧
    t.pending = s.pending

/-- The registers of a counter: its word, its SAT register and the EV_RAW of its page. -/
def Cnt.touches (c : Cnt) : List Nat := [c.at_, c.sat, c.page + 0x14]

/-- Mailbox m's command is answered: CMB_CPL shows its tag, the status and RSVD_NONZERO, CMB_RES the results of an OK, BUSY is clear
and CPL_READY is raised (R80, R81). `s` is the state that the command was given in. -/
def Answered (m status : Nat) (res : List Nat) (s t : Dev) : Prop :=
  t.rd (R.CMB_CPL m) = s.cmbTag m * 2 ^ 16 + status + (if s.cmbRsvd m then 0x200 else 0) ∧ t.cmbBusy m = false ∧
    t.bit (0x2014 + 0x1000 * m) 0 = true ∧
    (status = 0 → ∀ k < 16, k < res.length → t.rd (R.CMB_RES m k) = ((res[k]?).getD 0) % 2 ^ 32)

/-- A read of this offset has no rule of its own: no FIFO, claim or time group, and no register that a read changes (R13, R16). -/
def plainRead (off : Nat) : Bool :=
  off % 4 == 0 && off != R.TIME_FRC 0 && off != R.TCAP_E 0 && off != R.TSF_E 0 &&
    !decide (R.INTC_CLAIM 0 ≤ off ∧ off ≤ R.INTC_CLAIM 3) && (domGroup off).isNone &&
    !decide (C.ETH_LPI_TIME 0 ≤ off ∧ off ≤ C.ETH_LPI_TIME 31)

/-- The registers of access type RC that hold their value as a register (R16). -/
def rcRegs : List Nat := [R.TURN_LOAD_MAX, R.FWD_SHD_STAT, R.BUF_BURR_INFO, R.BUF_UNCORR_INFO, R.CPE_CAN_FAIL, R.HST_MISMATCH,
  R.BENCH_ERR_INFO, R.DRAM_CORR_INFO, R.DRAM_UNCORR_INFO]

/-- The commands that can store to the Bench or wipe banks of it: writes of the window (the atomic units, R512), Bench writes, and
the operations whose chapters say so. -/
def storesToBench : Instr → Bool
  | .registerWrite _ _ _ _ | .softRst _ _ | .evForce _ _ _ | .pgOwnerWrite _ _ _ | .pgLockWrite _ _ _ | .satClear _ _ _
  | .benchWrite _ _ _ _ | .add _ _ | .swap _ _ | .cas _ _ | .laDone _ | .attest _ | .hstRestarted _ _ | .memoryStageDone _ _
  | .hostRelease _ | .lcTransition _ _ | .tamperInput _ _ | .porstRelease _ | .jtagInstruction _ _ | .journalRx _ _
  | .resyncRx _ _ | .raccRx _ _ _ | .ethFrameRx _ _ _ _ _ _ => true
  | _ => false

/-- The commands that can burn fuses or change the tamper state of PD0. -/
def writesVault : Instr → Bool
  | .fuseStageDone _ _ | .lcTransition _ _ | .ownerKey _ _ | .updFloor _ _ | .supplyBelowTrip _ | .tamperInput _ _ => true
  | _ => false

/-- Where Bench accesses that succeed leave their BUSY results and corrected words (R510, R513). -/
def benchNotes : List Nat :=
  [C.BENCH_BUSY_CNT, C.BENCH_BUSY_CNT + 4, C.BENCH_CORR.at_, C.BENCH_CORR.sat, C.BENCH_CORR.page + 0x14]

/-- The OP write `i` of window k, whose TAW_SEL lies at `w`, does what R67 to R71 say: an operation that passes its judgement starts,
one that does not ends at once with its status, one while another runs sets OVERRUN alone, and one on a page that another requester
owns ends with NOT_OWNER. -/
def OpWrite (r : Req) (w op : Nat) (k : Win) (i : Instr) (s : State) : Prop :=
  (s.dev.mayWrite r (w + 8) = true → s.dev.ready (w + 8) = true → s.dev.tawRefused r k op = false →
    (s.dev.bit (w + 8) 31 = false → s.dev.tawJudge k op = 0 → Completes i s fun t =>
      t.dev.bit (w + 8) 31 = true ∧ t.dev.fld (w + 8) 2 0 = op ∧ SameBut [w + 8] s t) ∧
    (s.dev.bit (w + 8) 31 = false → s.dev.tawJudge k op ≠ 0 → Completes i s fun t =>
      t.dev.bit (w + 8) 31 = false ∧ t.dev.fld (w + 8) 23 16 = s.dev.tawJudge k op ∧ SameBut [w + 8] s t) ∧
    (s.dev.bit (w + 8) 31 = true → Completes i s fun t => t.dev.bit (w + 8) 30 = true ∧ t.dev.bit (w + 8) 31 = true ∧
      SameBut [w + 8] s t)) ∧
  (s.dev.mayWrite r (w + 8) = false → s.dev.bit (w + 8) 31 = false → Completes i s fun t =>
    t.dev.fld (w + 8) 23 16 = 5 ∧ t.dev.bit (w + 8) 31 = false ∧ t.dev.bit (unitBase (w + 8) + 0x10) 4 = true ∧
    SameBut ([w + 8, unitBase (w + 8) + 0x10] ++ C.GLB_OWN_VIOL.touches) s t)

/-- No purge's invalidation and no later frame's copies stand at the head of an insertion queue, which are served at once (R260). -/
def insStops : List FlowReq → Bool
  | .purge .. :: _ | .pass .. :: _ => false
  | _ => true

/-- A search operation with this OP waits in the queue of its tuple's shard (R273). -/
def SearchQueued (op : Nat) (s t : State) : Prop :=
  t.dev.bit R.FLOW_SRCH_CMD 31 = true ∧ t.dev.fld R.FLOW_SRCH_CMD 1 0 = op ∧
    t.dev.insQ ((s.dev.keyHash (keyOf s.dev.srchWords)).1 % 4) = s.dev.insQ ((s.dev.keyHash (keyOf s.dev.srchWords)).1 % 4) ++
      [.search op (s.dev.keyHash (keyOf s.dev.srchWords)).1 (s.dev.keyHash (keyOf s.dev.srchWords)).2] ∧
    SameBut [R.FLOW_SRCH_CMD] s t

/-- A search operation of a tuple whose KIND the table has not ends at once with BAD_KIND (R273). -/
def SearchBadKind (s t : State) : Prop :=
  t.dev.bit R.FLOW_SRCH_CMD 31 = false ∧ t.dev.fld R.FLOW_SRCH_CMD 23 16 = 4 ∧ t.dev.bit 0x90014 3 = true ∧
    t.dev.lk = s.dev.lk ∧ SameBut [R.FLOW_SRCH_CMD, 0x90014] s t

/-- A search operation has ended with this STATUS (R273). -/
def SearchEnded (st : Nat) (s t : State) : Prop :=
  t.dev.bit R.FLOW_SRCH_CMD 31 = false ∧ t.dev.fld R.FLOW_SRCH_CMD 23 16 = st ∧ t.dev.bit 0x90014 3 = true ∧
    t.bench = s.bench ∧ t.vault = s.vault

/-- A command of this kind to this PRTAD, DEVAD and REGAD waits for the management bus (R123). -/
def MdioQueued (n : Nat) (read : Bool) (addr : Nat) (s t : State) : Prop :=
  t.dev.bit (R.ETH_MDIO_CMD n) 31 = true ∧
    t.dev.mdio = s.dev.mdio ++ [{ port := n, read := read, addr := addr % 2 ^ 26, data := s.dev.rd (R.ETH_MDIO_DATA n) % 65536 }] ∧
    SameBut (R.ETH_MDIO_CMD n :: C.PAIR_JRNL_OVF.touches) s t

/-- A command given while the page's own is BUSY sets OVERLAP alone (R123). -/
def MdioOverlap (n : Nat) (s t : State) : Prop :=
  t.dev.bit (R.ETH_MDIO_CMD n) 27 = true ∧ t.dev.mdio = s.dev.mdio ∧ SameBut (R.ETH_MDIO_CMD n :: C.PAIR_JRNL_OVF.touches) s t

/-- A request for REST (n = 1) or SLEEP (n = 2) pends (R521). -/
def PwrPends (n : Nat) (s t : State) : Prop :=
  t.dev.fld R.PWR_STAT 27 24 = 8 + n ∧ t.dev.fld R.PWR_CTRL 25 24 = n ∧ t.dev.pwr = s.dev.pwr ∧
    SameBut ([R.PWR_CTRL, R.PWR_STAT] ++ C.PAIR_JRNL_OVF.touches) s t

/-- A request for REST or SLEEP has only set REQ_ERR; `refused` that it raised its event too (R521). -/
def PwrRefused (refused : Bool) (s t : State) : Prop :=
  t.dev.bit R.PWR_STAT 10 = true ∧ t.dev.fld R.PWR_STAT 27 24 = s.dev.fld R.PWR_STAT 27 24 ∧ t.dev.pwr = s.dev.pwr ∧
    (refused = true → t.dev.bit 0xA014 2 = true) ∧
    SameBut ([R.PWR_CTRL, R.PWR_STAT] ++ (if refused then [0xA014] else []) ++ C.PAIR_JRNL_OVF.touches) s t

/-- The die-to-die link is lost: the channels are not ready and the supply source is raised (R24, R144). -/
def LinkLost (s t : State) : Prop :=
  t.dev.pwr = { s.dev.pwr with dieLink := false } ∧ t.dev.bit R.INTC_SAFE_RAW 3 = true ∧
    (∀ n < 24, t.dev.bit (R.CAN_STAT n) 27 = true ∧ (t.dev.canCh n).att = none) ∧ t.bench = s.bench ∧ t.vault = s.vault

/-- A remote access of a member in ALONE ends at once (R572). -/
def RaccAlone (op : Nat) (s t : State) : Prop :=
  t.dev.rd R.PAIR_RACC_CMD = 2 ^ 16 + op ∧ t.dev.bit 0x128014 8 = true ∧
    SameBut ([R.PAIR_RACC_CMD, 0x128014] ++ C.PAIR_JRNL_OVF.touches) s t

/-- A remote access is BUSY, and its RACC frame has left (R572). -/
def RaccSent (op : Nat) (s t : State) : Prop :=
  t.dev.rd R.PAIR_RACC_CMD = 2 ^ 31 + op ∧ t.dev.pairState = s.dev.pairState ∧
    (s.dev.eplUp = true → s.dev.loopMac 3 = false → t.dev.out.length = s.dev.out.length + 1) ∧ t.bench = s.bench ∧ t.vault = s.vault

end Sys2Proof.Machine
end

