-- ==== Sys2Proof/Certificates/Slice0/Obligations.lean ====
section
/-! DEFINITION. The statements for the provers, family by family. Each is about one command or one family of commands, or about every
step. -/

open Sys2Proof Sys2Proof.Machine

/-- The block's step: the command at the front of the queue is carried out with the queue's rest. -/
def Obligations.StepTakesTheFrontCommand : Prop :=
  ∀ (s : State) (c : Instr) (rest : List Instr), s.pending = c :: rest → step s = exec c { s with pending := rest }

/-- The model's choice of log entry 1: with no command waiting one clock cycle passes. While PORST_N is low nothing changes; while the
time clock runs the FRC counts 2.5 ns (R369) and, but for a LIN go-to-sleep command in progress whose end may have come (R198), only the
registers of the time page may change; else the Tailstock ticks. -/
def Obligations.AnEmptyQueuePassesOneCycle : Prop :=
  ∀ s : State, s.pending = [] →
    (s.dev.pins.porst = false → step s = .next s) ∧
    (s.dev.pins.porst = true → s.dev.time.run = true → ∃ t, step s = .next t ∧
      t.dev.time.frc = (s.dev.time.frc + 0x28000) % 2 ^ 96 ∧ t.bench = s.bench ∧ t.vault = s.vault ∧ t.pending = [] ∧
      ((∀ n, n < 8 → (s.dev.linCh n).bye = none) → ∀ o, o < 0x10000 ∨ 0x11000 ≤ o → t.dev.rd o = s.dev.rd o)) ∧
    (s.dev.pins.porst = true → s.dev.time.run = false → ∃ t, step s = .next t ∧
      t.dev.pwr.ticks = (s.dev.pwr.ticks + 1) % 2 ^ 32 ∧ t.dev.regs = s.dev.regs ∧ t.bench = s.bench ∧ t.vault = s.vault ∧
      t.pending = [])

/-- Every command completes, in every state, but for a Bench access that runs past the 4 MB of the Bench (R7, chapter 22): that one faults, and
nothing is ever refused. -/
def Obligations.OnlyBenchAccessesPastTheEndStop : Prop :=
  ∀ (i : Instr) (s : State),
    (∀ f, exec i s = .fault f → f = .benchAddress ∧
      ((∃ r a n busy ecc, i = .benchRead r a n busy ecc ∧ 0x400000 < a.toNat + n) ∨
        ∃ r a bytes busy, i = .benchWrite r a bytes busy ∧ 0x400000 < a.toNat + bytes.length)) ∧
    (∀ x, exec i s ≠ .refused x) ∧
    (∀ r a n busy ecc, i = .benchRead r a n busy ecc → 0x400000 < a.toNat + n → exec i s = .fault .benchAddress) ∧
    (∀ r a bytes busy, i = .benchWrite r a bytes busy → 0x400000 < a.toNat + bytes.length → exec i s = .fault .benchAddress)

/-- The Bench keeps its canonical form in every step: addresses strictly rising, no listed byte that reads as an unlisted one. -/
def Obligations.TheBenchStaysCanonical : Prop :=
  ∀ s t : State, Memory.wf s.bench = true → step s = .next t → Memory.wf t.bench = true

/-- The Bench has its canonical form right after reset. -/
def Obligations.TheBenchIsCanonicalAtReset : Prop := Memory.wf State.reset.bench = true ∧ ∀ a, benchByte State.reset.bench a = 0

/-- The fuses burn one way (R492, R494, R587): once the life-cycle state is not BLANK, no step clears a programmed or a revoked mark,
replaces a programmed owner digest, lowers SEC_FLOOR, or moves the life-cycle state but along R492's table; what the factory fused
stays. -/
def Obligations.FusesBurnOneWay : Prop :=
  ∀ s t : State, step s = .next t → s.vault.fuses.lc ≠ 0 →
    (t.vault.fuses.lc = s.vault.fuses.lc ∨ lcAllowed s.vault.fuses.lc t.vault.fuses.lc = true) ∧
    (s.vault.fuses.prog0 = true → t.vault.fuses.prog0 = true ∧ t.vault.fuses.kh0 = s.vault.fuses.kh0) ∧
    (s.vault.fuses.prog1 = true → t.vault.fuses.prog1 = true ∧ t.vault.fuses.kh1 = s.vault.fuses.kh1) ∧
    (s.vault.fuses.rev0 = true → t.vault.fuses.rev0 = true) ∧ (s.vault.fuses.rev1 = true → t.vault.fuses.rev1 = true) ∧
    s.vault.fuses.floor ≤ t.vault.fuses.floor ∧ t.vault.fuses.roots = s.vault.fuses.roots ∧
    t.vault.fuses.uidLo = s.vault.fuses.uidLo ∧ t.vault.fuses.uidHi = s.vault.fuses.uidHi ∧
    t.vault.fuses.sirev = s.vault.fuses.sirev ∧ t.vault.fuses.devFeat = s.vault.fuses.devFeat ∧
    t.vault.fuses.tampCfg = s.vault.fuses.tampCfg ∧ t.vault.fuses.pgFeat = s.vault.fuses.pgFeat

/-- A tamper latch stays set (R496, R110) in every step but a trip of VDD_AON, which holds PD0 itself. -/
def Obligations.TamperLatchesStay : Prop :=
  ∀ s t : State, step s = .next t → s.pending.head? ≠ some (.supplyBelowTrip 1) →
    (∀ n, s.vault.latch.testBit n = true → t.vault.latch.testBit n = true) ∧
    (s.vault.tampRec.toNat.testBit 31 = true → t.vault.tampRec = s.vault.tampRec ∧ t.vault.tampTick = s.vault.tampTick)

/-- No command touches the queue of the commands that wait; every byte of the Bench stays under every command that stores none, and the
fuses and the tamper state under every command that writes none. -/
def Obligations.OnlyStoresChangeBenchAndVault : Prop :=
  ∀ (i : Instr) (s t : State), exec i s = .next t →
    t.pending = s.pending ∧ (storesToBench i = false → ∀ a, benchByte t.bench a = benchByte s.bench a) ∧
    (writesVault i = false → t.vault = s.vault)

/-- R12: aligned accesses of 4 bytes are carried out, aligned ones of 8 as two, the lower offset first, and any other changes nothing
and reads zero. -/
def Obligations.AccessSizesOfTheWindow : Prop :=
  ∀ (r : Req) (off size v : Nat) (s : State),
    (size = 4 → off % 4 = 0 → exec (.registerWrite r off size v) s = .next (s.writeReg r off v) ∧
      exec (.loRegisterRead r off size) s = .next { s with dev := s.dev.readReg r off }) ∧
    (size = 8 → off % 8 = 0 →
      exec (.registerWrite r off size v) s = .next ((s.writeReg r off v).writeReg r (off + 4) (v / 2 ^ 32)) ∧
      ∃ t, exec (.loRegisterRead r off size) s = .next t ∧
        t.dev = ((s.dev.readReg r off).readReg r (off + 4)).answer
          ((s.dev.readReg r off).rdata.toNat % 2 ^ 32 + 2 ^ 32 * ((s.dev.readReg r off).readReg r (off + 4)).rdata.toNat)) ∧
    (¬(size = 4 ∧ off % 4 = 0) → ¬(size = 8 ∧ off % 8 = 0) →
      exec (.registerWrite r off size v) s = .next s ∧ exec (.loRegisterRead r off size) s = .next { s with dev := s.dev.answer 0 })

/-- R14, R16: an accepted write of a register without a rule of its own sets its RW bits, its RWL bits unless the page is locked,
clears its W1C bits where 1 is written and leaves every other bit; an unassigned offset ignores the write. Nothing else changes. -/
def Obligations.PlainRegistersFollowTheirAccessTypes : Prop :=
  ∀ (r : Req) (off v : Nat) (s : State) (row : BlkRow) (i o : Nat), Accepts s r off → off % 4 = 0 → off < 0x128000 →
    hdrOf off = none → winAt off = none → atomAt off = none → isSatReg off = false → (off < R.BENCH_OWN 0 ∨ R.BENCH_OWN 63 < off) →
    blkOf off = some (row, i, o) → row.blk ∈ [Blk.boot, .tru, .gwy, .key, .lcs, .bench, .dram, .hst] →
    (row.blk.row? o = none → exec (.registerWrite r off 4 v) s = .next s) ∧
    ∀ g, row.blk.row? o = some g → Completes (.registerWrite r off 4 v) s fun t =>
      (∀ b < 32, t.dev.bit off b =
        if g.w1c.testBit b = true ∧ v.testBit b = true then false
        else if g.rw.testBit b = true ∧ ¬(g.lock = true ∧ s.dev.bit (off - o + 0x28) 0 = true) then v.testBit b
        else s.dev.bit off b) ∧
      SameBut (off :: C.PAIR_JRNL_OVF.touches) s t

/-- R64, R66: who may write PG_OWNER, what it then holds, and that any other write counts as a violation; PG_LOCK bits are set by the
owner or HST alone and no write clears one. -/
def Obligations.OwnershipAndLocks : Prop :=
  ∀ (r : Req) (p v : Nat) (s : State), p ∈ unitPages → s.dev.reach r (p + 0x24) = true → v < 2 ^ 32 →
    ((r = .hst ∨ (s.dev.ownerOf p = 0xF ∧ v % 16 = r.id) ∨ (s.dev.ownerOf p = r.id ∧ v % 16 = 0xF)) →
      Completes (.pgOwnerWrite r p v) s (fun t =>
        t.dev.ownerOf p = (if s.dev.bit (p + 0x28) 1 then s.dev.ownerOf p else ownVal v) ∧ SameBut [p + 0x24] s t)) ∧
    (¬(r = .hst ∨ (s.dev.ownerOf p = 0xF ∧ v % 16 = r.id) ∨ (s.dev.ownerOf p = r.id ∧ v % 16 = 0xF)) →
      Completes (.pgOwnerWrite r p v) s (fun t => t.dev.bit (p + 0x10) 4 = true ∧ t.dev.ownerOf p = s.dev.ownerOf p ∧
        (s.dev.frozen 0 = false → s.dev.rd C.GLB_OWN_VIOL.at_ < 0xFFFFFFFE → t.dev.rd C.GLB_OWN_VIOL.at_ = s.dev.rd C.GLB_OWN_VIOL.at_ + 1) ∧
        SameBut ([p + 0x10] ++ C.GLB_OWN_VIOL.touches) s t)) ∧
    ((r = .hst ∨ s.dev.ownerOf p = r.id) → Completes (.pgLockWrite r p v) s (fun t =>
      t.dev.rd (p + 0x28) = (s.dev.rd (p + 0x28) ||| v % 4) ∧ SameBut [p + 0x28] s t)) ∧
    (¬(r = .hst ∨ s.dev.ownerOf p = r.id) → exec (.pgLockWrite r p v) s = .next s)

/-- R61: SOFT_RST clears EV_RAW and OWN_VIOL, zeroes the block's live counters and keeps the rest of the header; on the GLB, TURN,
CMB, KEY and LCS pages it has no effect. -/
def Obligations.SoftReset : Prop :=
  ∀ (r : Req) (p : Nat) (s : State) (row : BlkRow), p ∈ unitPages → s.dev.reach r (p + 0x0C) = true → blkOf p = some (row, 0, 0) →
    s.dev.rd (p + 0x0C) < 8 → s.dev.bit (p + 0x0C) 1 = false →
    (row.blk ∈ [Blk.glb, .turn, .cmb, .key, .lcs] → Completes (.softRst r p) s fun t => SameBut [] s t) ∧
    (row.blk ∈ [Blk.pwr, .intc, .tru, .hif, .pars, .rule, .flow, .buf, .mir, .cpe, .bench, .dram, .hst, .pair] →
      Completes (.softRst r p) s fun t =>
        t.dev.rd (p + 0x14) = 0 ∧ t.dev.bit (p + 0x10) 4 = false ∧
        (∀ o, p ≤ o → o < p + row.pages * 0x1000 → isCounter o = true → t.dev.rd o = 0) ∧
        (∀ h ∈ [0x08, 0x0C, 0x1C, 0x24, 0x28, 0x2C, 0x38], t.dev.rd (p + h) = s.dev.rd (p + h)) ∧
        (∀ o, o < p ∨ p + row.pages * 0x1000 ≤ o → t.dev.rd o = s.dev.rd o) ∧ t.bench = s.bench ∧ t.vault = s.vault)

/-- R62, R439: a write of EV_FORCE sets the EV_RAW bits written and nothing else, as the events would; a safety condition sets its bit of
INTC_SAFE_RAW, and a write of INTC_SAFE_FORCE sets the bits written, and nothing else. -/
def Obligations.ForcedEventsAndSafetyConditions : Prop :=
  (∀ (r : Req) (p v : Nat) (s : State), p ∈ unitPages → s.dev.reach r (p + 0x20) = true → v < 2 ^ 32 →
    Completes (.evForce r p v) s (fun t =>
      (∀ b < 32, t.dev.bit (p + 0x14) b = (s.dev.bit (p + 0x14) b || v.testBit b)) ∧ SameBut [p + 0x14] s t) ∧
    ∀ e < 32, exec (.evForce r p (2 ^ e)) s = .next { s with dev := s.dev.raise p e }) ∧
  (∀ s : State,
    (∀ c < 6, Completes (.safetyCondition c) s fun t => t.dev.bit R.INTC_SAFE_RAW c = true ∧
      (∀ b, b ≠ c → t.dev.bit R.INTC_SAFE_RAW b = s.dev.bit R.INTC_SAFE_RAW b) ∧ SameBut [R.INTC_SAFE_RAW] s t) ∧
    (∀ (r : Req) (v : Nat), Accepts s r R.INTC_SAFE_FORCE → Completes (.intcSafeForce r v) s fun t =>
      (∀ b, t.dev.bit R.INTC_SAFE_RAW b = (s.dev.bit R.INTC_SAFE_RAW b || (decide (b < 16) && v.testBit b))) ∧
      SameBut (R.INTC_SAFE_RAW :: C.PAIR_JRNL_OVF.touches) s t))

/-- R13, R60, R366: reading the low half of a pair holds its high half; a read of an RC register answers its value and clears it, and
nothing else; writing 1 to a counter's SAT bit clears the bit and zeroes the counter, and nothing else, and writing 0 changes nothing of
it. -/
def Obligations.ReadsThatHoldOrClear : Prop :=
  (∀ (r r' : Req) (off off' : Nat) (s : State), s.dev.reach r off = true → isLo off = true → isHi off = false → plainRead off = true →
    plainRead (off + 4) = true → plainRead off' = true → r' ≠ r → (0x1000 ≤ off ∨ off + 4 < 0x1000) → (off + 4 < 0xA000 ∨ 0xA000 ≤ off) →
    ∃ t, exec (.loRegisterRead r off 4) s = .next t ∧ t.dev.rdata = BitVec.ofNat 64 (s.dev.peek off) ∧ t.dev.regs = (s.dev.readClear off).regs ∧
      ∃ u, exec (.loRegisterRead r' off' 4) t = .next u ∧
        ∃ w, exec (.loRegisterRead r (off + 4) 4) u = .next w ∧ w.dev.rdata = BitVec.ofNat 64 (s.dev.peek (off + 4) % 2 ^ 32) ∧
          w.dev.regs = u.dev.regs) ∧
  (∀ (r : Req) (off : Nat) (s : State), off ∈ rcRegs → s.dev.reach r off = true →
    Completes (.rcRead r off) s fun t =>
      t.dev.rdata = BitVec.ofNat 64 (s.dev.rd off) ∧ t.dev.rd off = 0 ∧ SameBut [off] s t) ∧
  (∀ (r : Req) (c : Cnt) (s : State), c ∈ [C.GLB_OWN_VIOL, C.TURN_STEP_CNT, C.HST_LOCKSTEP_CNT, C.HST_RESTART_CNT, C.BENCH_OWN_REFUSED, C.KEY_ENT_FAIL] →
    Accepts s r c.sat →
    Completes (.satClear r c.sat (2 ^ c.bit)) s (fun t =>
      t.dev.rd c.at_ = 0 ∧ t.dev.bit c.sat c.bit = false ∧ SameBut ([c.at_, c.sat] ++ C.PAIR_JRNL_OVF.touches) s t) ∧
    Completes (.satClear r c.sat 0) s fun t => SameBut C.PAIR_JRNL_OVF.touches s t)


/-- R81, R80, R504: what the Headstock does with the next outstanding command: a closed mailbox, a remembered tag, a COUNT above 32 or
an opcode that no chapter defines completes it at once; any other is taken and goes on as its opcode's command. -/
def Obligations.TheHeadstockTakesTheNextCommand : Prop :=
  ∀ (m : Nat) (rest : List Nat) (s : State), m < 4 → s.dev.bells = m :: rest →
    (s.dev.hstHalted = true → Completes .cmbTake s fun t => Answered m 2 [] s.dev t.dev) ∧
    (s.dev.hstServes = true →
      (s.dev.cmbOpen m = false → 3 < s.dev.cmbOp m → Completes .cmbTake s fun t => Answered m 6 [] s.dev t.dev) ∧
      ((s.dev.cmbOpen m = true ∨ s.dev.cmbOp m ≤ 3) →
        (∀ g, (s.dev.mb m).tags.find? (fun g => g.tag == s.dev.cmbTag m) = some g →
          (g.digest = s.dev.cmbDigest m → Completes .cmbTake s fun t =>
            t.dev.rd (R.CMB_CPL m) = s.dev.cmbTag m * 2 ^ 16 + (g.cpl ||| 0x100) % 2 ^ 16 ∧ t.dev.cmbBusy m = false ∧
            (∀ k < 16, t.dev.rd (R.CMB_RES m k) = ((g.res[k]?).getD 0).toNat) ∧ (t.dev.mb m).tags = (s.dev.mb m).tags) ∧
          (g.digest ≠ s.dev.cmbDigest m → Completes .cmbTake s fun t =>
            Answered m 4 [] s.dev t.dev ∧ (t.dev.mb m).tags = (s.dev.mb m).tags)) ∧
        ((s.dev.mb m).tags.find? (fun g => g.tag == s.dev.cmbTag m) = none →
          ((32 < s.dev.cmbCount m ∨ opMasks (s.dev.cmbOp m) (s.dev.arg m 0) = none) → Completes .cmbTake s fun t =>
            Answered m 3 [] s.dev t.dev) ∧
          (s.dev.cmbCount m ≤ 32 → opMasks (s.dev.cmbOp m) (s.dev.arg m 0) ≠ none → Completes .cmbTake s fun t =>
            (t.dev.mb m).taken = true ∧ m ∉ t.dev.bells ∧ SameBut [] s t))))

/-- R85: the four opcodes of the mailbox complete OK with the results of the table and leave the Bench, the fuses and the tamper state;
after TAG_FLUSH only its own tag is remembered. -/
def Obligations.MailboxOpcodes : Prop :=
  ∀ (m : Nat) (s : State), m < 4 →
    (s.dev.cmbRuns m 0 = true → Completes (.nop m) s fun t => Answered m 0 [] s.dev t.dev ∧ t.bench = s.bench ∧ t.vault = s.vault) ∧
    (s.dev.cmbRuns m 1 = true → Completes (.identify m) s fun t =>
      Answered m 0 ([R.GLB_PART, R.GLB_SIREV, R.GLB_UID_LO, R.GLB_UID_HI, R.DEV_FEAT 0, R.DEV_FEAT 1, R.DEV_FEAT 2, R.DEV_FEAT 3].map s.dev.rd)
        s.dev t.dev ∧ t.bench = s.bench ∧ t.vault = s.vault) ∧
    (s.dev.cmbRuns m 2 = true → Completes (.featQuery m) s fun t =>
      Answered m 0 (if m < 2 then [drvFeat m 0, drvFeat m 1, drvFeat m 2, drvFeat m 3, featCtrl m].map s.dev.rd else [0, 0, 0, 0, 0])
        s.dev t.dev ∧ t.bench = s.bench ∧ t.vault = s.vault) ∧
    (s.dev.cmbRuns m 3 = true → Completes (.tagFlush m) s fun t =>
      Answered m 0 [] s.dev t.dev ∧ (t.dev.mb m).tags.map TagRec.tag = [s.dev.cmbTag m] ∧ t.bench = s.bench ∧ t.vault = s.vault)

/-- R78, R63, R84: a mailbox's own requester writes CMB_GO, and any other's write sets OWN_VIOL; an abort that names a taken command before its completion
point ends it with ABORTED, and one that names no outstanding command is answered NOTHING_TO_ABORT and changes nothing of it. -/
def Obligations.TheDoorbellAndAborts : Prop :=
  (∀ (r : Req) (m : Nat) (s : State), m < 4 → s.dev.reach r (R.CMB_HDR m) = true → s.dev.failed = false →
    (r.id = m + 1 → s.dev.mayWrite r (R.CMB_HDR m) = true →
      (s.dev.cmbBusy m = false → s.dev.hstHalted = false → Completes (.cmbGo r m) s fun t =>
        t.dev.cmbBusy m = true ∧ t.dev.bells = s.dev.bells ++ [m] ∧ SameBut [R.CMB_STAT m] s t) ∧
      (s.dev.cmbBusy m = true → Completes (.cmbGo r m) s fun t =>
        t.dev.bit (R.CMB_STAT m) 2 = true ∧ t.dev.cmbBusy m = true ∧ t.dev.bells = s.dev.bells ∧ SameBut [R.CMB_STAT m] s t) ∧
      (s.dev.cmbBusy m = false → s.dev.hstHalted = true → Completes (.cmbGo r m) s fun t => Answered m 2 [] s.dev t.dev)) ∧
    (r.id ≠ m + 1 → Completes (.cmbGo r m) s fun t =>
      t.dev.bit (0x2010 + 0x1000 * m) 4 = true ∧ t.dev.cmbBusy m = s.dev.cmbBusy m ∧ t.dev.bells = s.dev.bells ∧
      SameBut ([0x2010 + 0x1000 * m] ++ C.GLB_OWN_VIOL.touches) s t)) ∧
  (∀ (r : Req) (m v : Nat) (s : State), m < 4 → s.dev.reach r (R.CMB_HDR m) = true → s.dev.failed = false → r.id = m + 1 →
    s.dev.mayWrite r (R.CMB_HDR m) = true → v < 2 ^ 32 → v.testBit 0 = true →
    (s.dev.cmbBusy m = true → s.dev.cmbTag m = v / 2 ^ 16 → (s.dev.mb m).taken = true →
      3 < s.dev.cmbOp m → Completes (.cmbAbort r m v) s fun t =>
        Answered m 5 [] s.dev t.dev ∧ t.dev.rd (R.CMB_ABORT m) = v / 2 ^ 16 * 2 ^ 16 + 2 ∧ t.dev.bit (0x2014 + 0x1000 * m) 1 = true) ∧
    ((s.dev.cmbBusy m = false ∨ s.dev.cmbTag m ≠ v / 2 ^ 16) → Completes (.cmbAbort r m v) s fun t =>
      t.dev.rd (R.CMB_ABORT m) = v / 2 ^ 16 * 2 ^ 16 + 0x0B02 ∧ t.dev.bit (0x2014 + 0x1000 * m) 1 = true ∧
      SameBut [R.CMB_ABORT m, 0x2014 + 0x1000 * m] s t))

/-- R74, R76, R65, R611: a host's request stands until it is answered; the answer is OK with an open mailbox exactly when bit 0 is asked
for and nothing outside the offer; RENEG ends the agreement and closes the mailbox; an assertion of PERST_N returns the host's unlocked
pages to no owner, ends its agreement and closes its mailbox, and while the fabric is off only the pin's level changes. -/
def Obligations.FeatureAgreementAndPerst : Prop :=
  (∀ (e : Nat) (s : State), e < 2 →
    (s.dev.reach (hostOf e) (featCtrl e) = true → s.dev.mayWrite (hostOf e) 0 = true →
      Completes (.featRequest (hostOf e) e) s (fun t => t.dev.bit (featCtrl e) 0 = true ∧ SameBut [featCtrl e] s t) ∧
      Completes (.reneg (hostOf e) e) s (fun t =>
        t.dev.fld (featCtrl e) 2 0 = 0 ∧ t.dev.bit (R.CMB_STAT e) 1 = false ∧ t.bench = s.bench ∧ t.vault = s.vault)) ∧
    (s.dev.bit (featCtrl e) 0 = true → s.dev.bit (featCtrl e) 1 = false →
      ((s.dev.bit (drvFeat e 0) 0 = true ∧ ∀ k < 4, s.dev.rd (drvFeat e k) &&& s.dev.offered k = s.dev.rd (drvFeat e k)) →
        Completes (.featAnswer e) s fun t => t.dev.fld (featCtrl e) 2 0 = 3 ∧ t.dev.bit (R.CMB_STAT e) 1 = true ∧
          t.dev.bit 0x14 (1 + e) = true ∧ SameBut [featCtrl e, R.CMB_STAT e, 0x14] s t) ∧
      (¬(s.dev.bit (drvFeat e 0) 0 = true ∧ ∀ k < 4, s.dev.rd (drvFeat e k) &&& s.dev.offered k = s.dev.rd (drvFeat e k)) →
        Completes (.featAnswer e) s fun t => t.dev.fld (featCtrl e) 2 0 = 4 ∧ t.dev.bit 0x14 (1 + e) = true ∧
          SameBut [featCtrl e, 0x14] s t)) ∧
    (s.dev.reach (hostOf (1 - e)) (featCtrl e) = true → Completes (.featRequest (hostOf (1 - e)) e) s fun t =>
      t.dev.bit 0x10 4 = true ∧ SameBut ([0x10] ++ C.GLB_OWN_VIOL.touches) s t)) ∧
  (∀ (e : Nat) (s : State), e < 2 →
    (s.dev.perst e = true → s.dev.fabricOn = true → Completes (.perstAssert e) s fun t =>
      t.dev.perst e = false ∧ (∀ p ∈ unitPages, t.dev.ownerOf p =
        if s.dev.ownerOf p = e + 1 ∧ s.dev.bit (p + 0x28) 1 = false then 0xF else s.dev.ownerOf p) ∧
      t.dev.fld (featCtrl e) 2 0 = 0 ∧ t.dev.bit (R.CMB_STAT e) 1 = false ∧ (s.dev.upd.holder = e + 1 → t.dev.upd.holder = 7) ∧
      t.bench = s.bench ∧ t.vault = s.vault) ∧
    (s.dev.perst e = true → s.dev.fabricOn = false → exec (.perstAssert e) s = .next { s with dev := s.dev.setPerst e false }) ∧
    (s.dev.perst e = false → s.dev.pins.porst = false → exec (.perstRise e) s = .next { s with dev := s.dev.setPerst e true }) ∧
    (s.dev.perst e = false → Completes (.perstRise e) s fun t => t.dev.perst e = true ∧ t.bench = s.bench ∧ t.vault = s.vault))


/-- R87, R88: PORST_N falling puts every register at its Reset cell but the false-wake registers of PD0, empties everything that the
device holds, drives SAFE_N and RESET_OUT_N low and both INH to the enable level, and leaves fuses and tamper state; the next rise
with no tamper samples the straps and starts boot in POR. -/
def Obligations.PowerOnReset : Prop :=
  ∀ s : State, Completes .porstAssert s fun t =>
    (∀ o, o ∉ [R.PWR_FW_RUN, R.PWR_FW_BLOCK0, R.PWR_FW_BLOCK1] → t.dev.reg o = regReset o) ∧
    (∀ o ∈ [R.PWR_FW_RUN, R.PWR_FW_BLOCK0, R.PWR_FW_BLOCK1], t.dev.rd o = s.dev.rd o) ∧
    t.dev = { Dev.porst with regs := t.dev.regs, out := s.dev.out, free := s.dev.free, pins := t.dev.pins } ∧
    t.dev.pins.porst = false ∧ t.dev.pins.safe = false ∧ t.dev.pins.resetOut = false ∧ t.dev.pins.inh0 = true ∧
    t.dev.pins.inh1 = true ∧ t.vault = s.vault ∧
    (s.vault.latch = 0 → s.vault.active = 0 → tapHolds s.dev.pins.tap = false → ∀ st : Straps, st.clk32k = true →
      Completes (.porstRelease st) t fun u => u.dev.pins.porst = true ∧ u.dev.stage = 0 ∧
        u.dev.rd R.BOOT_STRAP = st.sel % 4 + (if st.pairEn then 4 else 0) ∧ u.dev.bit R.PAIR_STAT 22 = st.rank ∧
        (∀ o, o ∉ [R.BOOT_STRAP, R.PAIR_STAT, R.LCS_TAMP_STAT, R.LCS_TAMP_REC, R.LCS_TAMP_TICK] → u.dev.rd o = t.dev.rd o) ∧
        u.bench = t.bench ∧ u.vault = t.vault)

/-- R109: PORST_N rising with a tamper latched or active ends in TAMPER_HOLD with slots, cache and banks 60 to 63 wiped and the other
banks as they were; R610: a TAP instruction of the EXTEST class holds the block in reset, any other leaves it running. -/
def Obligations.TamperHoldAndTheTap : Prop :=
  ∀ (s : State) (st : Straps) (i : TapInst),
    (s.dev.pins.porst = false → tapHolds s.dev.pins.tap = false → (s.vault.latch ≠ 0 ∨ s.vault.active ≠ 0) →
      Completes (.porstRelease st) s fun t => t.dev.stage = 0xE ∧ t.dev.fld R.BOOT_STAT 31 24 = 0x10 ∧ t.dev.keys = [] ∧
        t.dev.cache = [] ∧ t.dev.bit R.INTC_SAFE_RAW 2 = true ∧
        (∀ a, benchByte t.bench a = if 0x3C0000 ≤ a ∧ a < 0x400000 then 0 else benchByte s.bench a) ∧ t.vault = s.vault) ∧
    (tapHolds (tapGives s.vault.fuses.lc i) = true → Completes (.jtagInstruction i st) s fun t =>
      t.dev.pins.porst = false ∧ t.dev.pins.tap = tapGives s.vault.fuses.lc i ∧ t.dev.pins.safe = false ∧
      (∀ o, o ∉ [R.PWR_FW_RUN, R.PWR_FW_BLOCK0, R.PWR_FW_BLOCK1] → t.dev.reg o = regReset o) ∧ t.vault = s.vault) ∧
    (tapHolds (tapGives s.vault.fuses.lc i) = false → tapHolds s.dev.pins.tap = false → Completes (.jtagInstruction i st) s fun t =>
      t.dev.pins.tap = tapGives s.vault.fuses.lc i ∧ t.dev.pins.porst = s.dev.pins.porst ∧ SameBut [] s t)

/-- R111, R89, R103, R109: the stages POR, FUSE and MEMORY. -/
def Obligations.BootReadsFusesAndMemory : Prop :=
  ∀ s : State, s.dev.pins.porst = true →
    (s.dev.stage = 0 → Completes .pllLock s fun t =>
      t.dev.stage = 1 ∧ t.dev.time.frc = 0 ∧ t.dev.time.run = true ∧ SameBut [R.BOOT_STAT] s t) ∧
    (s.dev.stage = 1 → Completes (.fuseStageDone false none) s fun t =>
      t.dev.stage = 0xF ∧ t.dev.fld R.BOOT_STAT 31 24 = 0x0F ∧ SameBut [R.BOOT_STAT] s t) ∧
    (s.dev.stage = 1 → (∀ g ∈ s.vault.fuses.pgFeat, g.1 ∈ unitPages) → Completes (.fuseStageDone true none) s fun t =>
      t.dev.pins.resetOut = true ∧ t.vault = s.vault ∧ t.dev.lc = s.vault.fuses.lc % 16 ∧
      t.dev.rd R.GLB_SIREV = s.vault.fuses.sirev % 256 ∧ t.dev.reg R.GLB_UID_LO = s.vault.fuses.uidLo ∧
      t.dev.reg R.GLB_UID_HI = s.vault.fuses.uidHi ∧ t.dev.rd (R.DEV_FEAT 0) = s.vault.fuses.devFeat % 2 ^ 16 ∧
      t.dev.rd R.BOOT_FLOOR = s.vault.fuses.floor % 128 ∧
      (s.vault.fuses.lc = 0 → t.dev.stage = 0xF ∧ t.dev.fld R.BOOT_STAT 31 24 = 0x11) ∧
      (s.vault.fuses.lc = 5 → t.dev.stage = 0xF ∧ t.dev.fld R.BOOT_STAT 31 24 = 0x12) ∧
      (s.vault.fuses.lc ≠ 0 → s.vault.fuses.lc ≠ 5 → t.dev.stage = 2)) ∧
    (s.dev.stage = 2 → ∀ link, Completes (.memoryStageDone false link) s fun t =>
      t.dev.stage = 0xF ∧ t.dev.fld R.BOOT_STAT 31 24 = 0x0E ∧ SameBut [R.BOOT_STAT] s t) ∧
    (s.dev.stage = 2 → ∀ link, Completes (.memoryStageDone true link) s fun t =>
      t.dev.stage = (if s.dev.fld R.BOOT_STRAP 1 0 = 3 then 0xB else 3) ∧ t.dev.bit R.DRAM_STAT 0 = true ∧
      t.dev.bit R.DRAM_STAT 2 = true ∧ t.dev.pwr.dieLink = link ∧ (link = false → t.dev.bit R.BOOT_STAT 11 = true) ∧
      (∀ a, benchByte t.bench a = 0) ∧ (∀ o, o ∉ [R.BOOT_STAT, R.DRAM_STAT] → t.dev.rd o = s.dev.rd o) ∧ t.vault = s.vault)

/-- R104, R105, R94: HEADER orders the candidates, IMAGE takes the chosen one's image, and a candidate that fails with no other left
ends in HALT with its code. -/
def Obligations.BootChoosesAnImage : Prop :=
  ∀ s : State, s.dev.pins.porst = true →
    (s.dev.stage = 3 → ∀ a b : Option (List Word), hdrCode s.dev a = 0 → hdrCode s.dev b ≠ 0 → s.dev.fld R.BOOT_STRAP 1 0 = 0 →
      hdrCode s.dev b < 256 → Completes (.headerStageDone a b) s fun t =>
        t.dev.stage = 4 ∧ t.dev.fld R.BOOT_STAT 7 6 = 0 ∧ t.dev.boot.cand = [] ∧ t.dev.boot.hdrA = a.getD [] ∧
        t.dev.fld R.BOOT_SLOT_A 31 24 = 0 ∧ t.dev.fld R.BOOT_SLOT_B 31 24 = hdrCode s.dev b ∧
        SameBut [R.BOOT_STAT, R.BOOT_SLOT_A, R.BOOT_SLOT_B, R.BOOT_SEQ_A, R.BOOT_SEQ_B] s t) ∧
    (s.dev.stage = 3 → ∀ a b : Option (List Word), hdrCode s.dev a = 0 → hdrCode s.dev b = 0 → s.dev.fld R.BOOT_STRAP 1 0 = 0 →
      Completes (.headerStageDone a b) s fun t =>
        t.dev.stage = 4 ∧ t.dev.fld R.BOOT_STAT 7 6 = (if wordAt (a.getD []) 6 < wordAt (b.getD []) 6 then 1 else 0) ∧
        t.dev.boot.cand = [if wordAt (a.getD []) 6 < wordAt (b.getD []) 6 then 0 else 1]) ∧
    (s.dev.stage = 3 → Completes (.headerStageDone none none) s fun t =>
      t.dev.stage = 0xF ∧ t.dev.fld R.BOOT_STAT 31 24 = 2) ∧
    (s.dev.stage = 4 → ∀ img, Completes (.imageStageDone (some img)) s fun t =>
      t.dev.stage = 5 ∧ t.dev.boot.image = img ∧ SameBut [R.BOOT_STAT] s t) ∧
    (s.dev.stage = 4 → s.dev.boot.cand = [] → Completes (.imageStageDone none) s fun t =>
      t.dev.stage = 0xF ∧ t.dev.fld R.BOOT_STAT 31 24 = 0x0D ∧ t.bench = s.bench ∧ t.vault = s.vault) ∧
    (s.dev.stage = 4 → ∀ n rest, s.dev.boot.cand = n :: rest → n < 2 → Completes (.imageStageDone none) s fun t =>
      t.dev.stage = 4 ∧ t.dev.bit R.BOOT_STAT 13 = true ∧ t.dev.fld R.BOOT_STAT 7 6 = n ∧ t.dev.boot.cand = rest ∧ t.dev.tabs = [])

/-- R107, R108, R97, R112: VERIFY, KEYS and TABLES, and the time limit of boot. -/
def Obligations.BootVerifiesAndLoads : Prop :=
  ∀ s : State, s.dev.pins.porst = true →
    (s.dev.stage = 5 → ∀ dig un, verifyImage s.vault.fuses s.dev.boot.image = (0, dig, un) → Completes .verifyStageDone s fun t =>
      t.dev.stage = 6 ∧ t.dev.boot.digest = dig ∧ t.dev.bit R.BOOT_STAT 12 = un ∧ SameBut [R.BOOT_STAT] s t) ∧
    (s.dev.stage = 5 → (verifyImage s.vault.fuses s.dev.boot.image).1 ≠ 0 → (verifyImage s.vault.fuses s.dev.boot.image).1 < 256 →
      s.dev.boot.cand = [] → Completes .verifyStageDone s fun t =>
        t.dev.stage = 0xF ∧ t.dev.fld R.BOOT_STAT 31 24 = (verifyImage s.vault.fuses s.dev.boot.image).1 ∧ t.bench = s.bench ∧
        t.vault = s.vault) ∧
    (s.dev.stage = 6 → Completes .keysStageDone s fun t =>
      t.dev.stage = 7 ∧ t.dev.bit R.KEY_STAT 0 = true ∧
      t.dev.slot 0 = deviceSlot (deviceKey s.vault.fuses (ascii "KEK" ++ s.dev.uid)) (2 ^ KA.wrap) ∧
      t.dev.slot 1 = deviceSlot (deviceKey s.vault.fuses (ascii "IDENTITY" ++ s.dev.uid)) 0 ∧ t.bench = s.bench ∧ t.vault = s.vault) ∧
    (s.dev.stage = 7 → s.loadSecs true allSecs s.dev.boot.image ≠ none → Completes .tablesStageDone s fun t =>
      t.dev.stage = 8 ∧ t.dev.rd R.BOOT_BUILD = wordAt s.dev.boot.image 7 ∧ t.dev.boot.locks = []) ∧
    (s.dev.stage = 7 → s.loadSecs true allSecs s.dev.boot.image = none → s.dev.boot.cand = [] → Completes .tablesStageDone s fun t =>
      t.dev.stage = 0xF ∧ t.dev.fld R.BOOT_STAT 31 24 = 0x0C ∧ t.bench = s.bench ∧ t.vault = s.vault) ∧
    (s.dev.stage < 8 → Completes .bootTimeout s fun t =>
      t.dev.stage = 0xF ∧ t.dev.fld R.BOOT_STAT 31 24 = 0x13 ∧ SameBut [R.BOOT_STAT] s t)

/-- R111, R50: data-plane release and host release; R493: the reset that follows a life-cycle transition. -/
def Obligations.TheReleases : Prop :=
  ∀ (s : State) (us : Nat), us < 2 ^ 32 → s.dev.pins.porst = true →
    (s.dev.stage = 8 → Completes (.dpRelease us) s fun t =>
      t.dev.stage = 9 ∧ t.dev.pins.safe = s.dev.pwr.xtalOk ∧ t.dev.pwr.phase = .active ∧ t.dev.rd64 R.TURN_CNT_LO = 0 ∧
      t.dev.rd R.BOOT_T_DP = us ∧ t.dev.turn.last = s.dev.time.frc ∧ t.bench = s.bench ∧ t.vault = s.vault) ∧
    (s.dev.stage = 9 → Completes (.hostRelease us) s fun t =>
      t.dev.stage = 0xA ∧ t.dev.pwr.hostRel = true ∧ t.dev.bit R.BOOT_STAT 15 = true ∧ t.dev.bit 0x8014 0 = true ∧
      t.dev.rd R.BOOT_T_HOST = us ∧ (s.dev.bit R.BOOT_STAT 13 = true → t.dev.bit 0x8014 1 = true) ∧ t.bench = s.bench ∧ t.vault = s.vault) ∧
    (s.dev.lcReset = true → Completes .lcReset s fun t =>
      t.dev.pins.porst = false ∧ t.dev.pins.safe = false ∧ t.dev.keys = [] ∧
      (∀ o, o ∉ [R.PWR_FW_RUN, R.PWR_FW_BLOCK0, R.PWR_FW_BLOCK1] → t.dev.reg o = regReset o) ∧ t.vault = s.vault)

/-- R488, R489, R487: who may use the key opcodes, and what KEY_INSTALL, KEY_ERASE and KEY_DERIVE leave in the slot they name: applied
at once on a slot out of use, held on one in use, and no other slot changed. -/
def Obligations.KeyCommands : Prop :=
  ∀ (m : Nat) (s : State), m < 4 →
    (∀ c ∈ [(0x30, Instr.keyInstall m), (0x31, .keyErase m), (0x32, .keyDerive m), (0x33, .attest m), (0x34, .lcTransition m true),
        (0x35, .ownerKey m true)], s.dev.cmbRuns m c.1 = true →
      (s.dev.cmbKeys m = false → Completes c.2 s fun t => Answered m 6 [] s.dev t.dev ∧ t.dev.keys = s.dev.keys ∧ t.bench = s.bench ∧
        t.vault = s.vault) ∧
      (s.dev.cmbKeys m = true → s.vault.latch ≠ 0 → Completes c.2 s fun t => Answered m 8 [] s.dev t.dev ∧ t.dev.keys = s.dev.keys ∧
        t.bench = s.bench ∧ t.vault = s.vault)) ∧
    (s.dev.cmbKeys m = true → s.vault.latch = 0 →
      (∀ n, s.dev.cmbRuns m 0x30 = true → n = bitsOf (s.dev.arg m 0) 9 0 → (s.dev.arg m 0).testBit 31 = false → s.dev.lc ≠ 3 →
        s.dev.lc ≠ 4 → s.dev.installRefused m n = 0 → (s.dev.slot n).held = none →
        ((s.dev.slot n).inUse = 0 → Completes (.keyInstall m) s fun t =>
          Answered m 0 [t.dev.slotStat n] s.dev t.dev ∧
          (t.dev.slot n).key = s.dev.argBytes m 4 8 ∧ (t.dev.slot n).attr = instAttr (s.dev.arg m 1) (m + 1) ∧
          (t.dev.slot n).limit = s.dev.arg m 2 + 2 ^ 32 * bitsOf (s.dev.arg m 3) 15 0 ∧ (t.dev.slot n).use = 0 ∧
          (t.dev.slot n).inUse = 0 ∧ (t.dev.slot n).held = none ∧ (t.dev.slot n).errored = false ∧ n ∉ t.dev.cache ∧ (∀ k, k ≠ n → t.dev.slot k = s.dev.slot k) ∧ t.bench = s.bench ∧ t.vault = s.vault) ∧
        (0 < (s.dev.slot n).inUse → Completes (.keyInstall m) s fun t =>
          Answered m 0 [t.dev.slotStat n] s.dev t.dev ∧ (t.dev.slot n).key = (s.dev.slot n).key ∧
          (t.dev.slot n).held = some (.write (s.dev.argBytes m 4 8) (instAttr (s.dev.arg m 1) (m + 1))
            (s.dev.arg m 2 + 2 ^ 32 * bitsOf (s.dev.arg m 3) 15 0)) ∧
          (∀ k, k ≠ n → t.dev.slot k = s.dev.slot k) ∧ t.bench = s.bench ∧ t.vault = s.vault)) ∧
      (∀ n, s.dev.cmbRuns m 0x30 = true → n = bitsOf (s.dev.arg m 0) 9 0 → (s.dev.arg m 0).testBit 31 = false →
        (s.dev.lc = 3 ∨ s.dev.lc = 4) → Completes (.keyInstall m) s fun t => Answered m 6 [] s.dev t.dev ∧ t.dev.keys = s.dev.keys) ∧
      (∀ n, s.dev.cmbRuns m 0x31 = true → n = bitsOf (s.dev.arg m 0) 9 0 → 8 ≤ n → s.dev.slotForeign n (m + 1) = false →
        (s.dev.slot n).held = none → (s.dev.slot n).inUse = 0 → Completes (.keyErase m) s fun t =>
          Answered m 0 [t.dev.slotStat n] s.dev t.dev ∧ t.dev.slot n = {} ∧ n ∉ t.dev.cache ∧
          (∀ k, k ≠ n → t.dev.slot k = s.dev.slot k) ∧ t.bench = s.bench ∧ t.vault = s.vault) ∧
      (∀ dst src, s.dev.cmbRuns m 0x32 = true → dst = bitsOf (s.dev.arg m 0) 25 16 → src = bitsOf (s.dev.arg m 0) 9 0 → src ≠ dst →
        s.dev.installRefused m dst = 0 → (s.dev.slot dst).held = none → (s.dev.slot dst).inUse = 0 →
        (s.dev.slot src).attr.testBit KA.valid = true → (s.dev.slot src).attr.testBit KA.derive_ = true →
        (s.dev.slot src).errored = false → (s.dev.slot src).use + 1 ≤ (s.dev.slot src).limit → Completes (.keyDerive m) s fun t =>
          Answered m 0 [t.dev.slotStat dst] s.dev t.dev ∧
          (t.dev.slot dst).key = kmac256 (s.dev.slot src).key (s.dev.argBytes m 4 8) (ascii "FLIHOLT DERIVE") ∧
          (t.dev.slot dst).attr = instAttr (s.dev.arg m 1) (m + 1) ∧ (t.dev.slot src).use = (s.dev.slot src).use + 1 ∧
          (∀ k, k ≠ dst → k ≠ src → t.dev.slot k = s.dev.slot k) ∧ t.bench = s.bench ∧ t.vault = s.vault))

/-- R489: a wrapped install is accepted exactly when its tag holds under the device KEK, which counts one use. -/
def Obligations.WrappedKeyInstall : Prop :=
  ∀ (m n : Nat) (s : State), m < 4 → s.dev.cmbRuns m 0x30 = true → s.dev.cmbKeys m = true → s.vault.latch = 0 →
    n = bitsOf (s.dev.arg m 0) 9 0 → (s.dev.arg m 0).testBit 31 = true → s.dev.installRefused m n = 0 → (s.dev.slot n).held = none →
    (s.dev.slot n).inUse = 0 → (s.dev.slot 0).attr.testBit KA.valid = true → (s.dev.slot 0).attr.testBit KA.wrap = true →
    (s.dev.slot 0).errored = false → (s.dev.slot 0).use + 1 ≤ (s.dev.slot 0).limit →
    (gcmTag (s.dev.slot 0).key (s.dev.argBytes m 4 3) (s.dev.argBytes m 0 4) (s.dev.argBytes m 7 8) = s.dev.argBytes m 15 4 →
      Completes (.keyInstall m) s fun t => Answered m 0 [t.dev.slotStat n] s.dev t.dev ∧
        (t.dev.slot n).key = gcmText (s.dev.slot 0).key (s.dev.argBytes m 4 3) (s.dev.argBytes m 7 8) ∧
        (t.dev.slot 0).use = (s.dev.slot 0).use + 1) ∧
    (gcmTag (s.dev.slot 0).key (s.dev.argBytes m 4 3) (s.dev.argBytes m 0 4) (s.dev.argBytes m 7 8) ≠ s.dev.argBytes m 15 4 →
      Completes (.keyInstall m) s fun t => Answered m 0xA [] s.dev t.dev ∧ t.dev.slot n = s.dev.slot n ∧
        (t.dev.slot 0).use = (s.dev.slot 0).use + 1)

/-- R490: ATTEST stores its record and signature in the Bench, 2,548 bytes from the address of ARG1, and no other byte; R491: a health
failure of the entropy source is counted and raised. -/
def Obligations.AttestationAndEntropy : Prop :=
  ∀ (m : Nat) (s : State), m < 4 →
    (s.dev.cmbRuns m 0x33 = true → s.dev.cmbKeys m = true → s.vault.latch = 0 →
      (s.dev.arg m 1 % 8 = 0 → s.dev.arg m 1 + 2548 ≤ 0x3C0000 → s.dev.pwr.hostRel = true → Completes (.attest m) s fun t =>
        Answered m 0 [2548] s.dev t.dev ∧
        (∀ i < 32, ∀ b < 4, benchByte t.bench (s.dev.arg m 1 + 4 * i + b) =
          BitVec.ofNat 8 (((s.dev.attestRecord m)[i]?).getD 0 / 2 ^ (8 * b))) ∧
        (∀ a, a < s.dev.arg m 1 ∨ s.dev.arg m 1 + 2548 ≤ a → benchByte t.bench a = benchByte s.bench a) ∧ t.vault = s.vault) ∧
      ((s.dev.arg m 1 % 8 ≠ 0 ∨ 0x3C0000 < s.dev.arg m 1 + 2548) → Completes (.attest m) s fun t =>
        Answered m 3 [] s.dev t.dev ∧ t.bench = s.bench)) ∧
    Completes .entFail s fun t => t.dev.bit R.KEY_STAT 2 = true ∧ t.dev.bit 0x108014 2 = true ∧
      (s.dev.frozen 0x108000 = false → s.dev.rd C.KEY_ENT_FAIL.at_ < 0xFFFFFFFE → t.dev.rd C.KEY_ENT_FAIL.at_ = s.dev.rd C.KEY_ENT_FAIL.at_ + 1) ∧
      SameBut (R.KEY_STAT :: C.KEY_ENT_FAIL.touches) s t

/-- R493, R494: a life-cycle transition and an owner digest burn what they name and nothing else; a transition wipes every slot, the
key cache and banks 60 to 63. -/
def Obligations.LifeCycleAndOwnerKeys : Prop :=
  ∀ (m : Nat) (burnOk : Bool) (s : State), m < 4 → s.dev.cmbKeys m = true → s.vault.latch = 0 →
    (s.dev.cmbRuns m 0x34 = true →
      (lcAllowed s.vault.fuses.lc (bitsOf (s.dev.arg m 0) 3 0) = false → Completes (.lcTransition m burnOk) s fun t =>
        Answered m 3 [] s.dev t.dev ∧ t.vault = s.vault ∧ t.bench = s.bench ∧ t.dev.keys = s.dev.keys) ∧
      (lcAllowed s.vault.fuses.lc (bitsOf (s.dev.arg m 0) 3 0) = true → s.dev.pins.vehMoving = true →
        Completes (.lcTransition m burnOk) s fun t => Answered m 2 [] s.dev t.dev ∧ t.vault = s.vault ∧ t.dev.keys = s.dev.keys) ∧
      (s.vault.fuses.lc = 1 → bitsOf (s.dev.arg m 0) 3 0 = 2 → s.dev.pins.vehMoving = false → s.vault.fuses.prog0 = true →
        s.vault.fuses.rev0 = false →
        (burnOk = true → Completes (.lcTransition m burnOk) s fun t =>
          Answered m 0 [t.dev.rd R.LCS_STATE] s.dev t.dev ∧ t.vault = { s.vault with fuses := { s.vault.fuses with lc := 2 } } ∧
          t.dev.lc = 2 ∧ t.dev.keys = [] ∧ t.dev.cache = [] ∧ t.dev.lcReset = true ∧
          (∀ a, benchByte t.bench a = if 0x3C0000 ≤ a ∧ a < 0x400000 then 0 else benchByte s.bench a)) ∧
        (burnOk = false → Completes (.lcTransition m burnOk) s fun t =>
          Answered m 7 [] s.dev t.dev ∧ t.vault = s.vault ∧ t.bench = s.bench ∧ t.dev.keys = s.dev.keys))) ∧
    (s.dev.cmbRuns m 0x35 = true → s.vault.fuses.lc = 1 → (∀ g ∈ s.vault.fuses.pgFeat, g.1 ∈ unitPages) → (s.dev.arg m 0).testBit 8 = false → (s.dev.arg m 0).testBit 0 = false →
      (s.vault.fuses.prog0 = false → burnOk = true → Completes (.ownerKey m burnOk) s fun t =>
        Answered m 0 [t.dev.rd R.LCS_OWNER] s.dev t.dev ∧ t.dev.bit R.LCS_OWNER 0 = true ∧
        t.vault.fuses.kh0 = (List.range 8).map (fun k => BitVec.ofNat 32 (s.dev.arg m (1 + k))) ∧
        t.vault = { s.vault with fuses := { s.vault.fuses with prog0 := true, kh0 := t.vault.fuses.kh0 } } ∧ t.bench = s.bench) ∧
      (s.vault.fuses.prog0 = true → Completes (.ownerKey m burnOk) s fun t =>
        Answered m 2 [] s.dev t.dev ∧ t.vault = s.vault ∧ t.bench = s.bench))

/-- R574, R578, R579, R581, R576: the staging opcodes: a requester that may not is refused, and UPD_BEGIN, UPD_WRITE, UPD_FINISH and
UPD_CANCEL move the engine as the state table says. -/
def Obligations.StagingAnUpdate : Prop :=
  ∀ (m : Nat) (s : State) (img : List Word), m < 4 →
    (∀ c ∈ [(0x41, Instr.updWrite m), (0x42, .updFinish m img), (0x46, .updCancel m)], s.dev.cmbRuns m c.1 = true →
      s.dev.updRefused m false = true → Completes c.2 s fun t => Answered m 6 [] s.dev t.dev ∧ t.dev.upd = { s.dev.upd with last := 6 } ∧
        t.bench = s.bench ∧ t.vault = s.vault) ∧
    (s.dev.cmbRuns m 0x40 = true → s.dev.updRefused m true = false → s.dev.upd.state ≠ 3 → s.dev.vbatLow = false →
      (1024 ≤ s.dev.arg m 0 → s.dev.arg m 0 ≤ 25165824 → Completes (.updBegin m) s fun t =>
        Answered m 0 [s.dev.inactiveSlot] s.dev t.dev ∧ t.dev.upd.state = 1 ∧ t.dev.upd.holder = m + 1 ∧ t.dev.upd.len = s.dev.arg m 0 ∧
        t.dev.upd.done = [] ∧ t.dev.upd.last = 0 ∧ t.bench = s.bench ∧ t.vault = s.vault) ∧
      ((s.dev.arg m 0 < 1024 ∨ 25165824 < s.dev.arg m 0) → Completes (.updBegin m) s fun t =>
        Answered m 3 [] s.dev t.dev ∧ t.dev.upd = { s.dev.upd with last := 3 })) ∧
    (s.dev.updRefused m false = false →
      (s.dev.cmbRuns m 0x41 = true → s.dev.upd.state = 1 → s.dev.vbatLow = false → 4 ≤ s.dev.arg m 2 → s.dev.arg m 2 ≤ 65536 →
        s.dev.arg m 0 % 4 = 0 → s.dev.arg m 2 % 4 = 0 → s.dev.arg m 0 + s.dev.arg m 2 ≤ s.dev.upd.len →
        s.dev.arg m 1 + s.dev.arg m 2 ≤ 0x3C0000 → (∀ g ∈ s.dev.upd.done, rangesMeet (s.dev.arg m 0) (s.dev.arg m 2) g.1 g.2 = false) →
        Completes (.updWrite m) s fun t => Answered m 0 [t.dev.upd.written] s.dev t.dev ∧
          t.dev.upd.done = (s.dev.arg m 0, s.dev.arg m 2) :: s.dev.upd.done ∧ t.dev.upd.state = 1 ∧ t.bench = s.bench ∧
          t.dev.out = s.dev.out ++ (s.dev.upd.newUnits (s.dev.arg m 0) (s.dev.arg m 2)).map (fun k =>
            Out.pins "xspi erase" [s.dev.inactiveSlot, 4096 * k]) ++ [.pins "xspi program" (s.dev.inactiveSlot :: s.dev.arg m 0 ::
            (benchBytes s.bench (s.dev.arg m 1) (s.dev.arg m 2)).map BitVec.toNat)]) ∧
      (s.dev.cmbRuns m 0x41 = true → s.dev.upd.state ≠ 1 → Completes (.updWrite m) s fun t =>
        Answered m 2 [] s.dev t.dev ∧ t.dev.upd = { s.dev.upd with last := 2 }) ∧
      (s.dev.cmbRuns m 0x42 = true → s.dev.upd.state = 1 → s.dev.upd.written = s.dev.upd.len →
        (sha3_256 (wordSlice img 0 s.dev.upd.len) = s.dev.argBytes m 0 8 → hdrCode s.dev (some img) = 0 →
          Completes (.updFinish m img) s fun t => Answered m 0 [wordAt img 6, bitsOf (wordAt img 5) 6 0] s.dev t.dev ∧
            t.dev.upd.state = 2 ∧ t.dev.upd.hdr = img ∧ t.dev.upd.ev.testBit 0 = true) ∧
        (sha3_256 (wordSlice img 0 s.dev.upd.len) ≠ s.dev.argBytes m 0 8 → Completes (.updFinish m img) s fun t =>
          Answered m 0xA [] s.dev t.dev ∧ t.dev.upd.state = 0 ∧ t.dev.upd.holder = 7)) ∧
      (s.dev.cmbRuns m 0x46 = true → (s.dev.upd.state = 1 ∨ s.dev.upd.state = 2) → Completes (.updCancel m) s fun t =>
        Answered m 0 [] s.dev t.dev ∧ t.dev.upd.state = 0 ∧ t.dev.upd.holder = 7 ∧ t.bench = s.bench ∧ t.vault = s.vault))

/-- R582, R583, R584, R588: an activation reaches its completion point with the pause armed, carries its steps in order and ends in IDLE
with the slots exchanged; a read that fails leaves the old firmware and a STAGED slot. -/
def Obligations.ActivatingAnUpdate : Prop :=
  ∀ (m : Nat) (s : State) (ws : List Word) (room : Bool), m < 4 →
    (s.dev.cmbRuns m 0x43 = true → s.dev.updRefused m true = false →
      (s.dev.activateRefused room = true → ∀ img, Completes (.activate m img room) s fun t =>
        Answered m 2 [] s.dev t.dev ∧ t.dev.upd = { s.dev.upd with last := 2 }) ∧
      (s.dev.activateRefused room = false → Completes (.activate m none room) s fun t =>
        Answered m 2 [] s.dev t.dev ∧ t.dev.upd.state = 0 ∧ t.dev.upd.holder = 7) ∧
      (s.dev.activateRefused room = false → (verifyImage s.vault.fuses ws).1 = 0 → Completes (.activate m (some ws) room) s fun t =>
        Answered m 0 [wordAt ws 6] s.dev t.dev ∧ t.dev.upd.state = 3 ∧ t.dev.upd.pause = 1 ∧ t.dev.upd.image = ws ∧
        t.dev.upd.holder = s.dev.upd.holder ∧ t.bench = s.bench ∧ t.vault = s.vault)) ∧
    (s.dev.upd.pause = 2 →
      Completes (.activateFwLoaded true) s (fun t => t.dev.upd.pause = (if s.dev.fld R.PAIR_STAT 31 28 = 2 then 5 else 3) ∧
        t.dev.upd.state = s.dev.upd.state ∧ SameBut [] s t) ∧
      Completes (.activateFwLoaded false) s (fun t => t.dev.upd.pause = 0 ∧ t.dev.upd.state = 2 ∧ t.dev.upd.ev.testBit 2 = true ∧
        SameBut [] s t)) ∧
    (s.dev.upd.pause = 3 →
      Completes (.activateSectionsLoaded false) s (fun t => t.dev.upd.pause = 0 ∧ t.dev.upd.state = 2 ∧ t.dev.upd.ev.testBit 2 = true ∧
        SameBut [] s t) ∧
      (State.loadSecs false pauseSecs s.dev.upd.image { s with dev := s.dev.clearReplaced } ≠ none →
        State.loadSecs false [3, 4] s.dev.upd.image s ≠ none → Completes (.activateSectionsLoaded true) s fun t => t.dev.upd.pause = 4)) ∧
    (s.dev.upd.pause = 5 → Completes .activated s fun t =>
      t.dev.upd.pause = 0 ∧ t.dev.upd.state = 0 ∧ t.dev.upd.holder = 7 ∧ t.dev.upd.ev.testBit 1 = true ∧
      t.dev.fld R.BOOT_STAT 7 6 = s.dev.inactiveSlot ∧ t.dev.rd R.BOOT_BUILD = wordAt s.dev.upd.image 7 ∧
      t.dev.boot.image = s.dev.upd.image ∧ t.bench = s.bench ∧ t.vault = s.vault)

/-- R587, R589: SEC_FLOOR rises to what the running image allows; UPD_STATUS answers the engine's word and then clears the events
named and writes the enables. -/
def Obligations.UpdateFloorAndStatus : Prop :=
  ∀ (m : Nat) (s : State), m < 4 →
    (s.dev.cmbRuns m 0x44 = true → s.dev.updRefused m true = false →
      (s.vault.fuses.floor < bitsOf (s.dev.arg m 0) 6 0 → bitsOf (s.dev.arg m 0) 6 0 ≤ s.dev.runSecVer → s.dev.pins.vehMoving = false →
        Completes (.updFloor m true) s (fun t => Answered m 0 [bitsOf (s.dev.arg m 0) 6 0] s.dev t.dev ∧
          t.vault = { s.vault with fuses := { s.vault.fuses with floor := bitsOf (s.dev.arg m 0) 6 0 } } ∧
          t.dev.rd R.BOOT_FLOOR = bitsOf (s.dev.arg m 0) 6 0 ∧ t.bench = s.bench) ∧
        Completes (.updFloor m false) s (fun t => Answered m 7 [] s.dev t.dev ∧ t.vault = s.vault)) ∧
      ((bitsOf (s.dev.arg m 0) 6 0 ≤ s.vault.fuses.floor ∨ s.dev.runSecVer < bitsOf (s.dev.arg m 0) 6 0) → ∀ ok,
        Completes (.updFloor m ok) s fun t => Answered m 3 [] s.dev t.dev ∧ t.vault = s.vault)) ∧
    (s.dev.cmbRuns m 0x45 = true → s.dev.cmbKeys m = true → Completes (.updStatus m) s fun t =>
      Answered m 0 [s.dev.updWord, s.dev.upd.written] s.dev t.dev ∧
      (∀ b < 3, t.dev.upd.ev.testBit b = (s.dev.upd.ev.testBit b && !(s.dev.arg m 0).testBit b)) ∧
      t.dev.upd.en = (if (s.dev.arg m 1).testBit 31 then s.dev.arg m 1 % 8 else s.dev.upd.en) ∧
      t.dev.upd.state = s.dev.upd.state ∧ t.bench = s.bench ∧ t.vault = s.vault)

/-- R500, R502, R503: the Headstock's lock-step, its restart and its forced checkpoint. -/
def Obligations.LockStepAndRestart : Prop :=
  ∀ s : State,
    (s.dev.fld R.HST_STAT 31 28 = 0 → s.dev.stage = 0xA → ∀ unit < 4,
      (s.dev.inEscWindow = false → Completes (.lockstepMismatch unit) s fun t =>
        t.dev.fld R.HST_STAT 31 28 = 1 ∧ t.dev.bit R.INTC_SAFE_RAW 0 = true ∧ t.dev.rd R.HST_MISMATCH = 2 ^ 31 + unit ∧
        (∀ m < 4, (t.dev.mb m).taken = false) ∧ t.dev.pins = s.dev.pins ∧ t.bench = s.bench ∧ t.vault = s.vault ∧
        ((∀ m < 4, (s.dev.mb m).taken = true → s.dev.cmbOp m ≠ 0x20) →
          SameBut ([R.HST_STAT, R.INTC_SAFE_RAW, R.HST_MISMATCH] ++ C.HST_LOCKSTEP_CNT.touches) s t)) ∧
      (s.dev.inEscWindow = true → Completes (.lockstepMismatch unit) s fun t =>
        t.dev.fld R.HST_STAT 31 28 = 2 ∧ t.dev.bit R.INTC_SAFE_RAW 0 = true ∧ t.dev.bit R.INTC_SAFE_RAW 4 = true ∧
        t.dev.pins.safe = false ∧ t.bench = s.bench ∧ t.vault = s.vault)) ∧
    (s.dev.fld R.HST_STAT 31 28 = 1 → ∀ us < 2 ^ 16,
      Completes (.hstRestarted true us) s (fun t =>
        t.dev.fld R.HST_STAT 31 28 = 0 ∧ t.dev.rd R.HST_RESTART_US = us ∧ t.dev.rd R.HST_LOG_USED = 0 ∧ t.dev.hst.log = [] ∧
        t.dev.bit 0x120014 0 = true ∧
        (∀ a, (∀ e ∈ s.dev.hst.log, a < e.1 ∨ e.1 + e.2.length ≤ a) → benchByte t.bench a = benchByte s.bench a) ∧
        (∀ w old, s.dev.hst.log = [(w, old)] → ∀ i, ∀ h : i < old.length, benchByte t.bench (w + i) = old[i]) ∧ t.vault = s.vault) ∧
      Completes (.hstRestarted false us) s (fun t =>
        t.dev.fld R.HST_STAT 31 28 = 2 ∧ t.dev.pins.safe = false ∧ t.bench = s.bench ∧ t.vault = s.vault)) ∧
    (65536 ≤ s.dev.hst.log.length → Completes .ckptExtra s fun t =>
      t.dev.hst.log = [] ∧ t.dev.rd R.HST_LOG_USED = 0 ∧ t.dev.rd64 R.HST_CKPT_TURN_LO = s.dev.rd64 R.TURN_CNT_LO ∧
      t.dev.bit 0x120014 1 = true ∧ SameBut ([R.HST_LOG_USED, R.HST_CKPT_TURN_LO, R.HST_CKPT_TURN_LO + 4] ++ C.HST_CKPT_EXTRA.touches) s t)

/-- R505, R506, R508, R510, R514: a Bench read answers the bytes as they stand, those of a secure bank as zero to a requester that may
not read it; a Bench write stores the bytes of every word that its requester may write, but none in a bank that is being wiped, and no
other; a write of which no word is allowed is counted by word; one that never gets the word gives up. -/
def Obligations.BenchReadsAndWrites : Prop :=
  ∀ (r : Req) (addr : BitVec 22) (n : Nat) (bytes : List Byte) (busy : Nat) (s : State), s.dev.benchReach r = true →
    (addr.toNat + n ≤ 0x400000 → busy < 17 → benchMayRead r addr.toNat = true →
      Completes (.benchRead r addr n busy 0) s fun t =>
        t.dev.rbytes.length = n ∧ t.dev.rdata = BitVec.ofNat 64 (leNat (t.dev.rbytes.take 8)) ∧
        (∀ i < n, t.dev.rbytes[i]? = some (if benchMayRead r (addr.toNat + i) then benchByte s.bench (addr.toNat + i) else 0)) ∧
        SameBut [C.BENCH_BUSY_CNT, C.BENCH_BUSY_CNT + 4] s t) ∧
    (addr.toNat + n ≤ 0x400000 → benchMayRead r addr.toNat = false →
      Completes (.benchRead r addr n busy 0) s fun t => t.dev.rbytes = List.replicate n 0 ∧ t.dev.rdata = 0 ∧ SameBut [] s t) ∧
    (addr.toNat + bytes.length ≤ 0x400000 → busy < 17 → Completes (.benchWrite r addr bytes busy) s fun t =>
      (∀ a, benchByte t.bench a =
        if addr.toNat ≤ a ∧ a < addr.toNat + bytes.length ∧ s.dev.benchMayWrite r (a / 8 * 8) = true ∧
            (s.dev.wiping = false ∨ a < 0x3C0000) then (bytes[a - addr.toNat]?).getD 0 else benchByte s.bench a) ∧
      (r ≠ .hst → ∀ o, o ∉ [C.BENCH_BUSY_CNT, C.BENCH_BUSY_CNT + 4] ++ C.BENCH_OWN_REFUSED.touches → t.dev.rd o = s.dev.rd o) ∧
      ((∀ w ∈ benchWords addr.toNat bytes.length, s.dev.benchMayWrite r (8 * w) = false) →
        (s.dev.frozen 0x110000 = false → t.dev.rd C.BENCH_OWN_REFUSED.at_ =
          min 0xFFFFFFFF (s.dev.rd C.BENCH_OWN_REFUSED.at_ + (benchWords addr.toNat bytes.length).length)) ∧
        SameBut C.BENCH_OWN_REFUSED.touches s t) ∧
      t.vault = s.vault ∧ t.dev.tabs = s.dev.tabs) ∧
    (addr.toNat + bytes.length ≤ 0x400000 → bytes ≠ [] → (∀ w ∈ benchWords addr.toNat bytes.length, s.dev.benchMayWrite r (8 * w) = true) →
      17 ≤ busy → Completes (.benchWrite r addr bytes busy) s fun t => t.dev.bit 0x110014 0 = true ∧ t.bench = s.bench ∧ t.vault = s.vault)

/-- R512: the atomic operations on the 64-bit word at ATOM_ADDR, outside a bank that is being wiped (R514): what each stores, that
ATOM_OLD answers the old word, and that a refused one changes nothing. -/
def Obligations.AtomicOperations : Prop :=
  ∀ (r : Req) (busy : Nat) (s : State), r.id < 5 → s.dev.reach r (R.ATOM_CMD r.id) = true → s.dev.benchReach r = true →
    s.dev.mayWrite r (R.ATOM_CMD r.id) = true → (hostLike r = true → s.dev.notActive = false) →
    (s.dev.benchMayWrite r (s.dev.fld (R.ATOM_ADDR r.id) 21 3 * 8) = true → busy < 17 →
      (s.dev.wiping = false ∨ s.dev.fld (R.ATOM_ADDR r.id) 21 3 * 8 < 0x3C0000) →
      (Completes (.add r busy) s fun t =>
        t.dev.rd64 (R.ATOM_OLD_LO r.id) = leNat (benchBytes s.bench (s.dev.fld (R.ATOM_ADDR r.id) 21 3 * 8) 8) ∧
        t.dev.rd (R.ATOM_CMD r.id) = 1 ∧
        leNat (benchBytes t.bench (s.dev.fld (R.ATOM_ADDR r.id) 21 3 * 8) 8) =
          (leNat (benchBytes s.bench (s.dev.fld (R.ATOM_ADDR r.id) 21 3 * 8) 8) + s.dev.rd64 (R.ATOM_OPND_LO r.id)) % 2 ^ 64 ∧
        (∀ a, a < s.dev.fld (R.ATOM_ADDR r.id) 21 3 * 8 ∨ s.dev.fld (R.ATOM_ADDR r.id) 21 3 * 8 + 8 ≤ a →
          benchByte t.bench a = benchByte s.bench a) ∧ t.vault = s.vault) ∧
      (Completes (.swap r busy) s fun t =>
        t.dev.rd64 (R.ATOM_OLD_LO r.id) = leNat (benchBytes s.bench (s.dev.fld (R.ATOM_ADDR r.id) 21 3 * 8) 8) ∧
        t.dev.rd (R.ATOM_CMD r.id) = 2 ∧
        leNat (benchBytes t.bench (s.dev.fld (R.ATOM_ADDR r.id) 21 3 * 8) 8) = s.dev.rd64 (R.ATOM_OPND_LO r.id) ∧
        (∀ a, a < s.dev.fld (R.ATOM_ADDR r.id) 21 3 * 8 ∨ s.dev.fld (R.ATOM_ADDR r.id) 21 3 * 8 + 8 ≤ a →
          benchByte t.bench a = benchByte s.bench a) ∧ t.vault = s.vault) ∧
      (leNat (benchBytes s.bench (s.dev.fld (R.ATOM_ADDR r.id) 21 3 * 8) 8) = s.dev.rd64 (R.ATOM_CMP_LO r.id) →
        Completes (.cas r busy) s fun t =>
          t.dev.rd (R.ATOM_CMD r.id) = 2 ^ 30 + 3 ∧
          t.dev.rd64 (R.ATOM_OLD_LO r.id) = s.dev.rd64 (R.ATOM_CMP_LO r.id) ∧
          leNat (benchBytes t.bench (s.dev.fld (R.ATOM_ADDR r.id) 21 3 * 8) 8) = s.dev.rd64 (R.ATOM_OPND_LO r.id) ∧
          (∀ a, a < s.dev.fld (R.ATOM_ADDR r.id) 21 3 * 8 ∨ s.dev.fld (R.ATOM_ADDR r.id) 21 3 * 8 + 8 ≤ a →
            benchByte t.bench a = benchByte s.bench a) ∧ t.vault = s.vault) ∧
      (leNat (benchBytes s.bench (s.dev.fld (R.ATOM_ADDR r.id) 21 3 * 8) 8) ≠ s.dev.rd64 (R.ATOM_CMP_LO r.id) →
        Completes (.cas r busy) s fun t =>
          t.dev.rd (R.ATOM_CMD r.id) = 3 ∧
          t.dev.rd64 (R.ATOM_OLD_LO r.id) = leNat (benchBytes s.bench (s.dev.fld (R.ATOM_ADDR r.id) 21 3 * 8) 8) ∧
          SameBut [C.BENCH_BUSY_CNT, C.BENCH_BUSY_CNT + 4, R.ATOM_CMD r.id, R.ATOM_OLD_LO r.id, R.ATOM_OLD_LO r.id + 4] s t)) ∧
    (s.dev.benchMayWrite r (s.dev.fld (R.ATOM_ADDR r.id) 21 3 * 8) = false →
      (Completes (.add r busy) s fun t =>
        t.dev.rd (R.ATOM_CMD r.id) = 0x060001 ∧ SameBut (R.ATOM_CMD r.id :: C.BENCH_OWN_REFUSED.touches) s t) ∧
      (Completes (.swap r busy) s fun t =>
        t.dev.rd (R.ATOM_CMD r.id) = 0x060002 ∧ SameBut (R.ATOM_CMD r.id :: C.BENCH_OWN_REFUSED.touches) s t) ∧
      (Completes (.cas r busy) s fun t =>
        t.dev.rd (R.ATOM_CMD r.id) = 0x060003 ∧ SameBut (R.ATOM_CMD r.id :: C.BENCH_OWN_REFUSED.touches) s t))

/-- R507, R63: a bank passes to its new owner at the write, stays PENDING until the old owner's writes have landed, and any other write
is counted, by the page's owner or by the bank's; R518, R519: the scrubber's progress and the end of the clear. -/
def Obligations.BankOwnersAndDram : Prop :=
  ∀ s : State,
    (∀ (r : Req) (n v : Nat), n < 60 → s.dev.reach r (R.BENCH_OWN n) = true → s.dev.mayWrite r (R.BENCH_OWN n) = false →
      Completes (.benchOwnWrite r n v) s fun t => t.dev.bit 0x110010 4 = true ∧
        SameBut (0x110010 :: C.GLB_OWN_VIOL.touches) s t) ∧
    (∀ (r : Req) (n v : Nat), n < 60 → Accepts s r (R.BENCH_OWN n) →
      (s.dev.bit (R.BENCH_OWN n) 31 = false → (r = .hst ∨ s.dev.fld (R.BENCH_OWN n) 3 0 = r.id) →
        Completes (.benchOwnWrite r n v) s fun t => t.dev.rd (R.BENCH_OWN n) = 2 ^ 31 + ownVal v ∧
          (∀ (q : Req) (a : Nat), bankOf a = n → t.dev.benchMayWrite q a =
            (q == .hst || q == .cpe || q == .dma || ownVal v == q.id)) ∧
          SameBut (R.BENCH_OWN n :: C.PAIR_JRNL_OVF.touches) s t) ∧
      ((s.dev.bit (R.BENCH_OWN n) 31 = true ∨ (r ≠ .hst ∧ s.dev.fld (R.BENCH_OWN n) 3 0 ≠ r.id)) →
        Completes (.benchOwnWrite r n v) s fun t =>
          (s.dev.frozen 0x110000 = false → t.dev.rd C.BENCH_OWN_REFUSED.at_ = min 0xFFFFFFFF (s.dev.rd C.BENCH_OWN_REFUSED.at_ + 1)) ∧
          SameBut (C.BENCH_OWN_REFUSED.touches ++ C.PAIR_JRNL_OVF.touches) s t)) ∧
    (∀ n < 60, s.dev.bit (R.BENCH_OWN n) 31 = true → Completes (.handoverDone n) s fun t =>
      t.dev.bit (R.BENCH_OWN n) 31 = false ∧ t.dev.fld (R.BENCH_OWN n) 3 0 = s.dev.fld (R.BENCH_OWN n) 3 0 ∧
      t.dev.bit 0x110014 2 = true ∧ SameBut [R.BENCH_OWN n, 0x110014] s t) ∧
    (s.dev.bit R.DRAM_SCRUB_CFG 31 = true → s.dev.bit R.DRAM_STAT 0 = true → s.dev.bit R.DRAM_STAT 1 = false →
      s.dev.rd R.DRAM_SCRUB_POS < 2 ^ 24 → ∀ ecc < 3, Completes (.dramScrub ecc) s fun t =>
        t.dev.rd R.DRAM_SCRUB_POS = (s.dev.rd R.DRAM_SCRUB_POS + 1) % 2 ^ 24 ∧
        (ecc = 2 → t.dev.bit 0x118014 0 = true) ∧
        (ecc = 2 → s.dev.rd R.DRAM_SCRUB_POS * 32 < 0x1E000000 → t.dev.fld R.HST_STAT 31 28 = s.dev.fld R.HST_STAT 31 28) ∧
        (ecc = 2 → 0x1E000000 ≤ s.dev.rd R.DRAM_SCRUB_POS * 32 → t.dev.fld R.HST_STAT 31 28 = 2 ∧ t.dev.pins.safe = false) ∧
        (ecc = 0 → t.dev.pins = s.dev.pins) ∧ t.bench = s.bench ∧ t.vault = s.vault) ∧
    (s.dev.bit R.DRAM_STAT 2 = true → Completes .dramCleared s fun t =>
      t.dev.bit R.DRAM_STAT 2 = false ∧ t.dev.bit 0x118014 2 = true ∧ SameBut [R.DRAM_STAT, 0x118014] s t)

/-- R474, R475, R478: the next waiting page starts when fewer than four run: a bad operand ends it with BAD_ARG, a keyless operation
runs, a keyed one counts one use of its slot and holds it in use. -/
def Obligations.LookAsideStarts : Prop :=
  ∀ (k : Nat) (s : State), s.dev.laNext = some k → ((List.range 16).filter fun j => (s.dev.laPage j).running).length < 4 →
    (s.dev.laBadArg k = true → (s.dev.laPage k).running = false → Completes .laStart s fun t =>
      t.dev.bit (R.LA_STAT k) 31 = false ∧ t.dev.bit (R.LA_STAT k) 30 = true ∧ t.dev.fld (R.LA_STAT k) 23 16 = 3 ∧
      (t.dev.laPage k).waiting = false ∧ t.dev.bit (0xF1014 + 0x1000 * k) 0 = true ∧ t.dev.keys = s.dev.keys ∧ t.bench = s.bench) ∧
    (s.dev.laBadArg k = false → s.dev.noRng = false → s.dev.laOp k = 5 → Completes .laStart s fun t =>
      (t.dev.laPage k).running = true ∧ (t.dev.laPage k).waiting = false ∧ t.dev.bit R.CPE_LA_BUSY k = true ∧
      t.dev.keys = s.dev.keys ∧ SameBut [R.CPE_LA_BUSY] s t) ∧
    (s.dev.laBadArg k = false → s.dev.noRng = false → laKeyed (s.dev.laOp k) = true →
      (s.dev.slot (s.dev.laSlot k)).attr.testBit k = true → (s.dev.slot (s.dev.laSlot k)).attr.testBit KA.valid = true →
      (s.dev.slot (s.dev.laSlot k)).attr.testBit KA.la = true → (s.dev.slot (s.dev.laSlot k)).errored = false →
      (s.dev.slot (s.dev.laSlot k)).use + 1 ≤ (s.dev.slot (s.dev.laSlot k)).limit → Completes .laStart s fun t =>
        (t.dev.laPage k).running = true ∧ (t.dev.laPage k).key = (s.dev.slot (s.dev.laSlot k)).key ∧
        (t.dev.slot (s.dev.laSlot k)).use = (s.dev.slot (s.dev.laSlot k)).use + 1 ∧
        (t.dev.slot (s.dev.laSlot k)).inUse = (s.dev.slot (s.dev.laSlot k)).inUse + 1 ∧
        (∀ j, j ≠ s.dev.laSlot k → t.dev.slot j = s.dev.slot j) ∧ SameBut [R.CPE_LA_BUSY] s t)

/-- R475, R476, R477: each operation reaches its completion point with its result held; nothing is written before LA_DONE, and a
tag that does not match gives no plaintext; R458, R478: without a seed, or when the Bench never answers, it ends with NO_RESOURCE. -/
def Obligations.LookAsideOperations : Prop :=
  ∀ (k : Nat) (env : BenchEnv) (s : State), k < 16 → (s.dev.laPage k).running = true → (s.dev.laPage k).done = none →
    (env.busy < 17 → env.ecc < 2 → s.dev.laNoSeed (s.dev.laOp k) = false →
      (s.dev.laOp k = 1 → Completes (.gcmEnc k env) s fun t =>
      (t.dev.laPage k).done = some (0, gcmText (wholeSlotKey (s.dev.laPage k).key) (s.dev.regBytes (R.LA_IV k 0) 3) (s.laText k),
        (gcmTag (wholeSlotKey (s.dev.laPage k).key) (s.dev.regBytes (R.LA_IV k 0) 3) (s.laAad k)
          (gcmText (wholeSlotKey (s.dev.laPage k).key) (s.dev.regBytes (R.LA_IV k 0) 3) (s.laText k))).take (s.dev.laTagLen k)) ∧
      SameBut benchNotes s t) ∧
      (s.dev.laOp k = 2 → Completes (.gcmDec k env) s fun t =>
      (t.dev.laPage k).done =
        (if (gcmTag (wholeSlotKey (s.dev.laPage k).key) (s.dev.regBytes (R.LA_IV k 0) 3) (s.laAad k) (s.laText k)).take (s.dev.laTagLen k) =
            (s.dev.regBytes (R.LA_TAG k 0) 4).take (s.dev.laTagLen k) then
          some (0, gcmText (wholeSlotKey (s.dev.laPage k).key) (s.dev.regBytes (R.LA_IV k 0) 3) (s.laText k), [])
        else some (0xA, [], [])) ∧ SameBut benchNotes s t) ∧
      (s.dev.laOp k = 3 → Completes (.cmacGen k env) s fun t =>
      (t.dev.laPage k).done = some (0, [], (aesCmac (wholeSlotKey (s.dev.laPage k).key) (s.laText k)).take (s.dev.laTagLen k)) ∧
      SameBut benchNotes s t) ∧
      (s.dev.laOp k = 4 → Completes (.cmacVer k env) s fun t =>
      (t.dev.laPage k).done =
        (if (aesCmac (wholeSlotKey (s.dev.laPage k).key) (s.laText k)).take (s.dev.laTagLen k) =
            (s.dev.regBytes (R.LA_TAG k 0) 4).take (s.dev.laTagLen k) then some (0, [], []) else some (0xA, [], [])) ∧ SameBut benchNotes s t) ∧
      (s.dev.laOp k = 5 → Completes (.sha3256 k env) s fun t =>
      (t.dev.laPage k).done = some (0, [], sha3_256 (s.laText k)) ∧ SameBut benchNotes s t) ∧
      (s.dev.laOp k = 6 → Completes (.random k env) s fun t =>
      (∃ dst, (t.dev.laPage k).done = some (0, dst, []) ∧ dst.length = s.dev.rd (R.LA_LEN k)) ∧ SameBut benchNotes s t)) ∧
    (17 ≤ env.busy ∨ s.dev.laNoSeed (s.dev.laOp k) = true → ∀ c ∈ [(1, Instr.gcmEnc k env), (2, .gcmDec k env), (3, .cmacGen k env),
        (4, .cmacVer k env), (5, .sha3256 k env), (6, .random k env)], s.dev.laOp k = c.1 → Completes c.2 s fun t =>
      t.dev.fld (R.LA_STAT k) 23 16 = 7 ∧ t.dev.bit (R.LA_STAT k) 30 = true ∧ t.dev.bit (R.LA_STAT k) 31 = false ∧
      (t.dev.laPage k).running = false ∧ t.bench = s.bench ∧ t.vault = s.vault)

/-- R477: LA_DONE stores the held text at LA_DST and no other byte, and the digest or tag in LA_OUT; an abort before the completion
point ends the operation with ABORTED; R474: only HST sets a page's Bench window, below the secure banks. -/
def Obligations.LookAsideEnds : Prop :=
  ∀ (k : Nat) (s : State), k < 16 →
    (∀ st dst out, (s.dev.laPage k).done = some (st, dst, out) → (st = 0 ∨ st = 0xA) → Completes (.laDone k) s fun t =>
      t.dev.fld (R.LA_STAT k) 23 16 = st ∧ t.dev.bit (R.LA_STAT k) 30 = true ∧ t.dev.bit (R.LA_STAT k) 31 = false ∧
      t.dev.bit (0xF1014 + 0x1000 * k) 0 = true ∧ t.dev.bit R.CPE_LA_BUSY k = false ∧ (t.dev.laPage k).running = false ∧
      (∀ i < 8, t.dev.rd (R.LA_OUT k i) = beNat (takePad 4 (out.drop (4 * i)))) ∧
      (st = 0 → ∀ i, ∀ h : i < dst.length, benchByte t.bench (s.dev.rd (R.LA_DST k) + i) = dst[i]) ∧
      (∀ a, a < s.dev.rd (R.LA_DST k) ∨ s.dev.rd (R.LA_DST k) + dst.length ≤ a ∨ st ≠ 0 → benchByte t.bench a = benchByte s.bench a) ∧
      t.vault = s.vault) ∧
    (∀ (r : Req) (v : Nat), Accepts s r (R.LA_ABORT k) → v.testBit 0 = true →
      (((s.dev.laPage k).waiting || (s.dev.laPage k).running) = true → (s.dev.laPage k).done = none →
        Completes (.laAbort r k v) s fun t =>
          t.dev.rd (R.LA_ABORT k) = 2 ∧ t.dev.fld (R.LA_STAT k) 23 16 = 5 ∧ (t.dev.laPage k).running = false ∧
          (t.dev.laPage k).waiting = false ∧ t.dev.bit (0xF1014 + 0x1000 * k) 1 = true ∧ t.bench = s.bench) ∧
      ((s.dev.laPage k).waiting = false → (s.dev.laPage k).running = false → Completes (.laAbort r k v) s fun t =>
        t.dev.rd (R.LA_ABORT k) = 0x0B02 ∧ t.dev.bit (0xF1014 + 0x1000 * k) 1 = true ∧
        SameBut ([R.LA_ABORT k, 0xF1014 + 0x1000 * k] ++ C.PAIR_JRNL_OVF.touches) s t)) ∧
    (∀ (r : Req) (v : Nat), Accepts s r (R.CPE_UWIN_BASE k) →
      (r = .hst → v ≤ 0x3C0000 →
        Completes (.cpeUwinWrite r k false v) s (fun t =>
          t.dev.rd (R.CPE_UWIN_BASE k) = v ∧ SameBut (R.CPE_UWIN_BASE k :: C.PAIR_JRNL_OVF.touches) s t) ∧
        Completes (.cpeUwinWrite r k true v) s (fun t =>
          t.dev.rd (R.CPE_UWIN_LIM k) = v ∧ SameBut (R.CPE_UWIN_LIM k :: C.PAIR_JRNL_OVF.touches) s t)) ∧
      ((r ≠ .hst ∨ (0x3C0000 < v ∧ v < 2 ^ 22)) → ∀ lim, Completes (.cpeUwinWrite r k lim v) s fun t =>
        t.dev.bit R.CPE_STAT 0 = true ∧ t.dev.bit 0xF0014 7 = true ∧
        SameBut ([R.CPE_STAT, 0xF0014] ++ C.PAIR_JRNL_OVF.touches) s t))

/-- R440, R441, R442, R450: a source's input follows its origin, a hold-off whose time is up makes its pending group deliverable, a source's
configuration and a host's sleep bit take the value written, and held messages go out when their function may send. -/
def Obligations.InterruptSources : Prop :=
  ∀ s : State,
    (s.dev.coreOn = true → ∀ src < 256, Completes (.intcSourceChange src) s fun t =>
      (src ∈ t.dev.intc.high ↔ s.dev.originHigh src = true) ∧ (∀ x, x ≠ src → (x ∈ t.dev.intc.high ↔ x ∈ s.dev.intc.high)) ∧
      t.bench = s.bench ∧ t.vault = s.vault) ∧
    (s.dev.coreOn = true → ∀ g < 16, ∀ x < 4, s.dev.timer g x = 1 → s.dev.timerUp g x = true → Completes (.intcHoldoffExpiry g x) s fun t =>
      t.dev.timer g x = (if s.dev.groupPending g x then 2 else 0) ∧ t.dev.intc.high = s.dev.intc.high ∧ t.bench = s.bench ∧
      t.vault = s.vault) ∧
    (∀ (r : Req) (src v : Nat), src < 192 → Accepts s r (R.INTC_SRC_CFG src) → Completes (.intcSrcCfgWrite r src v) s fun t =>
      t.dev.reg (R.INTC_SRC_CFG src) = BitVec.ofNat 32 v &&& 0xC03F0003 ∧ t.dev.intc.high = s.dev.intc.high ∧ t.bench = s.bench ∧
      t.vault = s.vault) ∧
    (∀ (r : Req) (x v : Nat), ((r = .hosta ∧ x = 1) ∨ (r = .hostb ∧ x = 2)) → Accepts s r R.INTC_TGT_SLEEP →
      (∀ y ∈ s.dev.intc.high, (s.dev.srcCfg y).testBit 30 = false) → Completes (.intcTgtSleepWrite r v) s fun t =>
        t.dev.bit R.INTC_TGT_SLEEP x = v.testBit x ∧ t.dev.bit R.INTC_TGT_SLEEP (3 - x) = s.dev.bit R.INTC_TGT_SLEEP (3 - x) ∧
        t.bench = s.bench ∧ t.vault = s.vault) ∧
    (∀ e < 2, Completes (.msixPendingSend e) s fun t =>
      t.dev.out = s.dev.out ++ (s.dev.intc.pba.filter fun m => m.1 == e && epMaySend (s.dev.ep e) m.2.1 m.2.2).map
        (fun m => Out.msix m.1 m.2.1 m.2.2) ∧
      t.dev.intc.pba = (s.dev.intc.pba.filter fun m => !(m.1 == e && epMaySend (s.dev.ep e) m.2.1 m.2.2)) ∧ SameBut [] s t)

/-- R444, R445, R446: what a claim answers and moves, and what a completion releases; a claim by another requester only reads. -/
def Obligations.ClaimAndCompletion : Prop :=
  ∀ (r : Req) (x : Nat) (s : State), x < 4 →
    (s.dev.reach r (R.INTC_CLAIM x) = true →
      (tgtReq x r = false → exec (.intcClaim r x) s = .next { s with dev := s.dev.answer (s.dev.claimValue x) }) ∧
      (tgtReq x r = true →
        (∀ src, s.dev.actOf x = 0 → s.dev.nextSource x = some src → Completes (.intcClaim r x) s fun t =>
          t.dev.rdata = BitVec.ofNat 64 src ∧ t.dev.actOf x = src + 1 ∧ t.dev.srcPending src = false ∧
          x ∉ t.dev.intc.seen ∧ (∀ y, y ≠ x → t.dev.actOf y = s.dev.actOf y) ∧ t.bench = s.bench ∧ t.vault = s.vault) ∧
        (s.dev.actOf x ≠ 0 → Completes (.intcClaim r x) s fun t =>
          t.dev.rdata = BitVec.ofNat 64 (s.dev.actOf x - 1) ∧ x ∉ t.dev.intc.seen ∧ t.dev.intc.act = s.dev.intc.act ∧ SameBut [] s t) ∧
        (s.dev.actOf x = 0 → s.dev.nextSource x = none → Completes (.intcClaim r x) s fun t =>
          t.dev.rdata = (if s.dev.intc.seen.contains x then 0x3FF else 0x3FE) ∧ x ∉ t.dev.intc.seen ∧
          (s.dev.frozen 0xC000 = false → t.dev.rd (C.INTC_SPUR_CNT x).at_ = (if s.dev.intc.seen.contains x then
            min 0xFFFFFFFF (s.dev.rd (C.INTC_SPUR_CNT x).at_ + 1) else s.dev.rd (C.INTC_SPUR_CNT x).at_)) ∧
          t.dev.intc.act = s.dev.intc.act ∧ SameBut (C.INTC_SPUR_CNT x).touches s t))) ∧
    (Accepts s r (R.INTC_DONE x) →
      (∀ src < 1024, tgtReq x r = true → s.dev.actOf x = src + 1 → Completes (.intcDone r x src) s fun t =>
        t.dev.actOf x = 0 ∧ (src ∈ t.dev.intc.high ↔ s.dev.originHigh src = true) ∧ t.bench = s.bench ∧ t.vault = s.vault) ∧
      (∀ src < 1024, (tgtReq x r = false ∨ s.dev.actOf x ≠ src + 1) → Completes (.intcDone r x src) s fun t =>
        t.dev.bit (R.INTC_TGT_STAT x) 24 = true ∧ t.dev.bit 0xC014 1 = true ∧ t.dev.intc.act = s.dev.intc.act ∧
        SameBut ([R.INTC_TGT_STAT x, 0xC014] ++ C.PAIR_JRNL_OVF.touches) s t))


/-- R303, R306, R307: a queue minimum, the headroom and a deep slot take the value written where the reservations fit, and the write
is refused with CFG_ERR where they do not. -/
def Obligations.BufferConfiguration : Prop :=
  ∀ (r : Req) (v : Nat) (s : State),
    (Accepts s r R.BUF_HDRM →
      ((tooMuch s.dev.minSum (v % 65536) s.dev.stageOn = false ∨ v % 65536 ≤ s.dev.fld R.BUF_HDRM 15 0) →
        Completes (.bufCfgWrite r R.BUF_HDRM v) s fun t => t.dev.rd R.BUF_HDRM = v % 65536 ∧
          SameBut (R.BUF_HDRM :: C.PAIR_JRNL_OVF.touches) s t) ∧
      (tooMuch s.dev.minSum (v % 65536) s.dev.stageOn = true → s.dev.fld R.BUF_HDRM 15 0 < v % 65536 →
        Completes (.bufCfgWrite r R.BUF_HDRM v) s fun t => t.dev.bit R.BUF_STAT 0 = true ∧ t.dev.bit 0xA0014 4 = true ∧
          SameBut ([R.BUF_STAT, 0xA0014] ++ C.PAIR_JRNL_OVF.touches) s t)) ∧
    (∀ q < 304, Accepts s r (R.QCFG q) →
      (bitsOf v 25 16 ≤ s.dev.qMin q → Completes (.bufCfgWrite r (R.QCFG q) v) s fun t =>
        t.dev.reg (R.QCFG q) = BitVec.ofNat 32 v &&& 0xC3FF0007 ∧ SameBut (R.QCFG q :: C.PAIR_JRNL_OVF.touches) s t) ∧
      (s.dev.qMin q < bitsOf v 25 16 →
        tooMuch (s.dev.minSum - s.dev.qMin q + bitsOf v 25 16) (s.dev.fld R.BUF_HDRM 15 0) s.dev.stageOn = true →
        Completes (.bufCfgWrite r (R.QCFG q) v) s fun t => t.dev.bit R.BUF_STAT 0 = true ∧ t.dev.bit 0xA0014 4 = true ∧
          SameBut ([R.BUF_STAT, 0xA0014] ++ C.PAIR_JRNL_OVF.touches) s t)) ∧
    (∀ k < 16, Accepts s r (R.BUF_DEEP k) → s.dev.fld (R.BUF_DEEP k) 31 30 = 0 → v.testBit 31 = true →
      (bitsOf v 8 0 < 272 → tooMuch s.dev.minSum (s.dev.fld R.BUF_HDRM 15 0) true = false →
        (∀ j < 16, j ≠ k → s.dev.fld (R.BUF_DEEP j) 31 30 = 0) → bitsOf v 23 16 ≤ 128 → Completes (.bufDeepWrite r k v) s fun t =>
          t.dev.bit (R.BUF_DEEP k) 31 = true ∧ t.dev.fld (R.BUF_DEEP k) 23 16 = bitsOf v 23 16 ∧
          t.dev.fld (R.BUF_DEEP k) 8 0 = bitsOf v 8 0 ∧ SameBut (R.BUF_DEEP k :: C.PAIR_JRNL_OVF.touches) s t) ∧
      (272 ≤ bitsOf v 8 0 → Completes (.bufDeepWrite r k v) s fun t =>
        t.dev.bit (R.BUF_DEEP k) 31 = false ∧ t.dev.bit R.BUF_STAT 0 = true ∧
        SameBut ([R.BUF_DEEP k, R.BUF_STAT, 0xA0014] ++ C.PAIR_JRNL_OVF.touches) s t)) ∧
    (∀ k < 16, Accepts s r (R.BUF_DEEP k) → s.dev.stageOn = false → v.testBit 31 = true →
      tooMuch s.dev.minSum (s.dev.fld R.BUF_HDRM 15 0) true = true → Completes (.bufDeepWrite r k v) s fun t =>
        t.dev.bit R.BUF_STAT 0 = true ∧ t.dev.bit 0xA0014 4 = true ∧ SameBut ([R.BUF_STAT, 0xA0014] ++ C.PAIR_JRNL_OVF.touches) s t) ∧
    (∀ k < 16, Accepts s r (R.BUF_DEEP k) → v.testBit 31 = false → Completes (.bufDeepWrite r k v) s fun t =>
      t.dev.bit (R.BUF_DEEP k) 31 = false ∧ SameBut ([R.BUF_DEEP k, R.BUF_STAT, 0xA0014] ++ C.PAIR_JRNL_OVF.touches) s t)

/-- R308, R309, R311, R320: the spill engine writes the oldest unwritten copy, the refill engine moves the oldest written one to the
SRAM segment or drops it when its DRAM word is lost, and a reorder timeout that has passed releases the frame that has waited longest. -/
def Obligations.SpillRefillAndReorder : Prop :=
  ∀ s : State,
    (∀ k < 16, ∀ (c : Copy) (rest : List Copy), s.dev.fld (R.BUF_DEEP k) 31 30 ≠ 0 →
      (s.dev.qst (s.dev.fld (R.BUF_DEEP k) 8 0)).dram = c :: rest →
      (c.saved = none → (s.dev.frame c.frame).more = false → Completes (.spillWriteDone k) s fun t =>
        (t.dev.qst (s.dev.fld (R.BUF_DEEP k) 8 0)).dram = { c with saved := some (s.dev.frame c.frame) } :: rest ∧
        (t.dev.qst (s.dev.fld (R.BUF_DEEP k) 8 0)).sram = (s.dev.qst (s.dev.fld (R.BUF_DEEP k) 8 0)).sram ∧
        t.bench = s.bench ∧ t.vault = s.vault) ∧
      (∀ f word, c.saved = some f → s.dev.qlen (s.dev.fld (R.BUF_DEEP k) 8 0) < s.dev.refillLimit → 36 ≤ s.dev.freeCells →
        (c.q = s.dev.fld (R.BUF_DEEP k) 8 0 → Completes (.refill k 0 word) s fun t =>
          (t.dev.qst (s.dev.fld (R.BUF_DEEP k) 8 0)).dram = rest ∧
          (t.dev.qst (s.dev.fld (R.BUF_DEEP k) 8 0)).sram = (s.dev.qst (s.dev.fld (R.BUF_DEEP k) 8 0)).sram ++
            [{ c with frame := s.dev.ck.nextId, saved := none, hdrm := false }] ∧
          (t.dev.frame s.dev.ck.nextId).bytes = f.bytes ∧ (rest = [] → t.dev.bit (R.BUF_DEEP k) 30 = false) ∧
          t.bench = s.bench ∧ t.vault = s.vault) ∧
        Completes (.refill k 2 word) s fun t =>
          (t.dev.qst (s.dev.fld (R.BUF_DEEP k) 8 0)).dram = rest ∧
          (t.dev.qst (s.dev.fld (R.BUF_DEEP k) 8 0)).sram = (s.dev.qst (s.dev.fld (R.BUF_DEEP k) 8 0)).sram ∧
          t.dev.bit 0x118014 0 = true ∧ t.bench = s.bench ∧ t.vault = s.vault)) ∧
    (∀ f (h : Nat × Nat) (rest : List (Nat × Nat)) (e : Nat), (s.dev.reo f).held = h :: rest → (s.dev.reo f).e = some e → e < 65536 →
      h.1 < 65536 → s.dev.passed (s.dev.frame h.2).since (min 1000 (max 1 (s.dev.tfld T.rcvy f 1 9 0)) * 1000) = true →
      Completes (.reorderTimeout f) s fun t => h ∉ (t.dev.reo f).held ∧
        (∀ g ∈ (t.dev.reo f).held, g ∈ rest) ∧ t.bench = s.bench ∧ t.vault = s.vault)

/-- R218, R242, R243: a commit of the graph or of the rules starts one check, is lost while one runs or waits, and the check ends with a
version pending or with the first fault in its register. -/
def Obligations.CommitAndCheck : Prop :=
  ∀ s : State,
    (∀ r : Req, Accepts s r R.PARS_CTRL →
      (s.dev.bit R.PARS_STAT 2 = false → s.dev.bit R.PARS_STAT 0 = false → Completes (.parsCommit r) s fun t =>
        t.dev.bit R.PARS_STAT 2 = true ∧ SameBut (R.PARS_STAT :: C.PAIR_JRNL_OVF.touches) s t) ∧
      ((s.dev.bit R.PARS_STAT 2 = true ∨ s.dev.bit R.PARS_STAT 0 = true) → Completes (.parsCommit r) s fun t =>
        t.dev.bit R.PARS_STAT 4 = true ∧ t.dev.bit R.PARS_STAT 2 = s.dev.bit R.PARS_STAT 2 ∧
        SameBut (R.PARS_STAT :: C.PAIR_JRNL_OVF.touches) s t)) ∧
    (∀ r : Req, Accepts s r R.RULE_CTRL →
      (s.dev.bit R.RULE_STAT 2 = false → s.dev.bit R.RULE_STAT 0 = false → Completes (.ruleCommit r) s fun t =>
        t.dev.bit R.RULE_STAT 2 = true ∧ SameBut (R.RULE_STAT :: C.PAIR_JRNL_OVF.touches) s t) ∧
      ((s.dev.bit R.RULE_STAT 2 = true ∨ s.dev.bit R.RULE_STAT 0 = true) → Completes (.ruleCommit r) s fun t =>
        t.dev.bit R.RULE_STAT 4 = true ∧ t.dev.bit R.RULE_STAT 2 = s.dev.bit R.RULE_STAT 2 ∧
        SameBut (R.RULE_STAT :: C.PAIR_JRNL_OVF.touches) s t)) ∧
    (∀ bad, s.dev.bit R.PARS_STAT 2 = true →
      (s.dev.graphFault bad = none → Completes (.parsCheckDone bad) s fun t =>
        t.dev.bit R.PARS_STAT 2 = false ∧ t.dev.bit R.PARS_STAT 0 = true ∧ t.dev.rd R.PARS_CHECK = 0 ∧
        SameBut [R.PARS_STAT, R.PARS_CHECK] s t) ∧
      (∀ c k, s.dev.graphFault bad = some (c, k) → c < 8 → k < 256 → Completes (.parsCheckDone bad) s fun t =>
        t.dev.bit R.PARS_STAT 2 = false ∧ t.dev.bit R.PARS_STAT 3 = true ∧ t.dev.bit R.PARS_STAT 0 = s.dev.bit R.PARS_STAT 0 ∧
        t.dev.rd R.PARS_CHECK = c * 2 ^ 28 + k ∧ t.dev.bit 0x80014 1 = true ∧ SameBut [R.PARS_STAT, R.PARS_CHECK, 0x80014] s t)) ∧
    (∀ bad badMat, s.dev.bit R.RULE_STAT 2 = true → s.dev.lk.zoneWait = none →
      (s.dev.ruleCheck bad badMat = none → Completes (.ruleCheckDone bad badMat) s fun t =>
        t.dev.bit R.RULE_STAT 2 = false ∧ t.dev.bit R.RULE_STAT 0 = true ∧ t.dev.rd R.RULE_CHECK = 0 ∧
        SameBut [R.RULE_STAT, R.RULE_CHECK] s t) ∧
      (∀ c m i, s.dev.ruleCheck bad badMat = some (c, m, i) → c < 8 → Completes (.ruleCheckDone bad badMat) s fun t =>
        t.dev.bit R.RULE_STAT 2 = false ∧ t.dev.bit R.RULE_STAT 3 = true ∧
        t.dev.rd R.RULE_CHECK = c * 2 ^ 28 + (if m then 2 ^ 16 else 0) + i % 2 ^ 15 ∧ t.dev.bit 0x88014 1 = true ∧
        SameBut [R.RULE_STAT, R.RULE_CHECK, 0x88014] s t))

/-- R245, R246: ZONE_SET stages the zones it names, and with COMMIT set waits for the check that answers it. -/
def Obligations.ZoneSet : Prop :=
  ∀ (m : Nat) (s : State), m < 4 → s.dev.cmbRuns m 0x20 = true →
    (s.dev.lk.zoneWait ≠ some m →
      (s.dev.ownerOf 0x88000 ≠ 0xF → s.dev.ownerOf 0x88000 ≠ m + 1 → ∀ race, Completes (.zoneSet m race) s fun t =>
        Answered m 6 [] s.dev t.dev ∧ t.dev.tabs = s.dev.tabs) ∧
      ((s.dev.ownerOf 0x88000 = 0xF ∨ s.dev.ownerOf 0x88000 = m + 1) →
        ((s.dev.bit R.RULE_STAT 2 = true ∨ s.dev.bit R.RULE_STAT 0 = true) → ∀ race, Completes (.zoneSet m race) s fun t =>
          Answered m 1 [] s.dev t.dev ∧ t.dev.tabs = s.dev.tabs) ∧
        (s.dev.bit R.RULE_STAT 2 = false → s.dev.bit R.RULE_STAT 0 = false → 0 < s.dev.arg m 0 % 32 →
          s.dev.arg m 0 % 32 + 1 ≤ s.dev.cmbCount m → (∀ k < s.dev.arg m 0 % 32, bitsOf (s.dev.arg m (k + 1)) 22 16 ≤ 79) →
          ((s.dev.arg m 0).testBit 31 = false → ∀ race, Completes (.zoneSet m race) s fun t =>
            Answered m 0 [s.dev.nextVer] s.dev t.dev ∧
            (∀ k < s.dev.arg m 0 % 32, (∀ j < s.dev.arg m 0 % 32, k < j → bitsOf (s.dev.arg m (j + 1)) 22 16 ≠ bitsOf (s.dev.arg m (k + 1)) 22 16) →
              t.dev.tab T.zoneStaged (bitsOf (s.dev.arg m (k + 1)) 22 16) 0 = s.dev.arg m (k + 1) % 64) ∧
            t.bench = s.bench ∧ t.vault = s.vault) ∧
          ((s.dev.arg m 0).testBit 31 = true → Completes (.zoneSet m false) s fun t =>
            t.dev.bit R.RULE_STAT 2 = true ∧ t.dev.lk.zoneWait = some m ∧ t.dev.cmbBusy m = true ∧ t.bench = s.bench ∧
            t.vault = s.vault)))) ∧
    (s.dev.lk.zoneWait = some m → s.dev.bit R.RULE_STAT 2 = true → ∀ bad badMat, s.dev.ruleCheck bad badMat = none →
      Completes (.ruleCheckDone bad badMat) s fun t =>
        Answered m 0 [s.dev.nextVer] s.dev t.dev ∧ t.dev.lk.zoneWait = none ∧ t.dev.bit R.RULE_STAT 0 = true)

/-- R355, R356, R358 to R361: a session takes its configuration only while it is off, and a wrong one raises CFG_ERR; the ring takes a
record while it is enabled and not frozen; a release advances over the oldest records. -/
def Obligations.MirrorsAndTheCaptureRing : Prop :=
  ∀ s : State,
    (∀ (r : Req) (k v : Nat), k < 8 → Accepts s r (R.MIR_SCFG k) →
      (v.testBit 31 = false → Completes (.mirScfgWrite r k v) s fun t =>
        t.dev.rd (R.MIR_SCFG k) = v &&& 0xBF073FFF ∧ SameBut (R.MIR_SCFG k :: C.PAIR_JRNL_OVF.touches) s t) ∧
      (v.testBit 31 = true → s.dev.bit (R.MIR_SCFG k) 31 = true → Completes (.mirScfgWrite r k v) s fun t =>
        t.dev.rd (R.MIR_SCFG k) = s.dev.rd (R.MIR_SCFG k) ∧ t.dev.bit R.MIR_STAT 0 = true ∧ t.dev.bit 0xE0014 2 = true ∧
        SameBut ([R.MIR_STAT, 0xE0014] ++ C.PAIR_JRNL_OVF.touches) s t) ∧
      (v.testBit 31 = true → s.dev.bit (R.MIR_SCFG k) 31 = false →
        ((bitsOf v 29 24 = 37 ∨ (bitsOf v 29 24 ≤ 33 ∧ bitsOf v 13 0 = 0)) → Completes (.mirScfgWrite r k v) s fun t =>
          t.dev.rd (R.MIR_SCFG k) = v &&& 0xBF073FFF ∧ t.bench = s.bench ∧ t.vault = s.vault) ∧
        ((33 < bitsOf v 29 24 ∧ bitsOf v 29 24 ≠ 37) → Completes (.mirScfgWrite r k v) s fun t =>
          t.dev.bit R.MIR_STAT 0 = true ∧ t.dev.bit 0xE0014 2 = true ∧
          SameBut ([R.MIR_STAT, 0xE0014] ++ C.PAIR_JRNL_OVF.touches) s t))) ∧
    (∀ (c : Copy) (d : Dev) (reading : Bool) (info : Nat), s.dev.takeCopy 37 = (some c, d) → c.q / 8 = 37 →
      ((d.bit R.CAP_CTRL 31 = false ∨ d.bit R.CAP_CTRL 29 = true) → Completes (.capRecordWrite reading 0 info) s fun t =>
        t.dev.tabs = d.tabs ∧ t.dev.rd R.CAP_WR = d.rd R.CAP_WR ∧ t.dev.rd R.CAP_RECS = d.rd R.CAP_RECS ∧ t.bench = s.bench ∧
        t.vault = s.vault) ∧
      (d.bit R.CAP_CTRL 31 = true → d.bit R.CAP_CTRL 29 = false → c.snap = 0 → c.mir.length = 32 → (d.frame c.frame).len < 16384 →
        d.capFill + capUnits (d.frame c.frame).len ≤ 2 ^ 20 → Completes (.capRecordWrite reading 0 info) s fun t =>
          t.dev.rd R.CAP_WR = (d.rd R.CAP_WR + capUnits (d.frame c.frame).len) % 2 ^ 21 ∧
          t.dev.rd R.CAP_RECS = (d.rd R.CAP_RECS + 1) % 2 ^ 32 ∧ t.dev.rd R.CAP_RD = d.rd R.CAP_RD ∧ t.bench = s.bench ∧
          t.vault = s.vault)) ∧
    (∀ (r : Req) (v : Nat), Accepts s r R.CAP_CTRL → Completes (.capFreeze r v) s fun t =>
      t.dev.bit R.CAP_CTRL 31 = v.testBit 31 ∧ t.dev.bit R.CAP_CTRL 29 = v.testBit 29 ∧
      t.dev.bit R.CAP_CTRL 30 = (if s.dev.bit R.CAP_CTRL 31 then s.dev.bit R.CAP_CTRL 30 else v.testBit 30) ∧
      (v.testBit 29 = true → s.dev.bit R.CAP_CTRL 29 = false → t.dev.bit 0xE0014 1 = true) ∧
      SameBut ([R.CAP_CTRL, R.MIR_STAT, 0xE0014] ++ C.PAIR_JRNL_OVF.touches) s t) ∧
    (∀ (r : Req) (n : Nat), Accepts s r R.CAP_RELEASE →
      (s.dev.bit R.CAP_DRAIN 31 = true → Completes (.capRelease r n) s fun t =>
        t.dev.bit R.MIR_STAT 0 = true ∧ SameBut ([R.MIR_STAT, 0xE0014] ++ C.PAIR_JRNL_OVF.touches) s t) ∧
      (s.dev.bit R.CAP_DRAIN 31 = false → Completes (.capRelease r n) s fun t =>
        t.dev.rd R.CAP_RECS = s.dev.rd R.CAP_RECS - n % 65536 ∧
        SameBut ([R.CAP_RD, R.CAP_RECS] ++ C.PAIR_JRNL_OVF.touches) s t))


/-- R260, R262, R263, R272, R273: FIND, INSERT and DELETE wait in the queue of their tuple's shard or end with BAD_KIND; served, each
ends with the status, the words and the entry that its OP gives; a request to track creates its entry where there is a place, touches
the one that stands, and drops the copies that wait for it where there is none; a purge starts once. -/
def Obligations.TheFlowTable : Prop :=
  ∀ s : State,
    (∀ r : Req, s.dev.reach r R.FLOW_SRCH_CMD = true → s.dev.mayWrite r R.FLOW_SRCH_CMD = true → s.dev.ready R.FLOW_SRCH_CMD = true →
      (s.dev.bit R.FLOW_SRCH_CMD 31 = false → s.dev.fld (R.FLOW_SRCH_DATA 0) 30 28 ∈ [0, 2, 4] →
        Completes (.find r) s (SearchQueued 1 s) ∧ Completes (.insert r) s (SearchQueued 2 s) ∧
        Completes (.delete r) s (SearchQueued 3 s)) ∧
      (s.dev.bit R.FLOW_SRCH_CMD 31 = false → s.dev.fld (R.FLOW_SRCH_DATA 0) 30 28 ∉ [0, 2, 4] →
        Completes (.find r) s (SearchBadKind s) ∧ Completes (.insert r) s (SearchBadKind s) ∧ Completes (.delete r) s (SearchBadKind s)) ∧
      (s.dev.bit R.FLOW_SRCH_CMD 31 = true →
        exec (.find r) s = .next s ∧ exec (.insert r) s = .next s ∧ exec (.delete r) s = .next s)) ∧
    (∀ (k op h h2 : Nat) (rest : List FlowReq), s.dev.spindlesOn = true → s.dev.insQ k = .search op h h2 :: rest →
      (∀ i, i < 2 ^ 32 → s.dev.flowFind (keyOf s.dev.srchWords) h h2 [] = some i →
        Completes (.srchDone k []) s fun t => SearchEnded (if op = 2 then 2 else 0) s t ∧
          (op = 1 → t.dev.rd R.FLOW_SRCH_INDEX = i) ∧
          (insStops rest = true → t.dev.insQ k = rest ∧ (op = 1 ∨ op = 2 → t.dev.tabs = s.dev.tabs) ∧
            (op = 3 → t.dev.tfld T.flow i 0 31 31 = 0))) ∧
      (s.dev.flowFind (keyOf s.dev.srchWords) h h2 [] = none → op ≠ 2 → Completes (.srchDone k []) s fun t =>
        SearchEnded 1 s t ∧ (insStops rest = true → t.dev.insQ k = rest ∧ SameBut [R.FLOW_SRCH_CMD, 0x90014] s t)) ∧
      (s.dev.flowFind (keyOf s.dev.srchWords) h h2 [] = none → op = 2 →
        (∀ i d, (s.dev.setInsQ k rest).flowPlace h h2 (srchEntry s.dev.srchWords) [] = some (i, d) →
          Completes (.srchDone k []) s fun t => SearchEnded 0 s t ∧ (insStops rest = true → t.dev.tabs = d.tabs)) ∧
        ((s.dev.setInsQ k rest).flowPlace h h2 (srchEntry s.dev.srchWords) [] = none → Completes (.srchDone k []) s fun t =>
          SearchEnded 3 s t ∧ (insStops rest = true → t.dev.tabs = s.dev.tabs)))) ∧
    (∀ (k f h h2 : Nat) (ws : List Nat) (octets flags : Nat) (copies : List Copy) (rest : List FlowReq), s.dev.spindlesOn = true →
      s.dev.insQ k = .track f h h2 ws octets flags copies :: rest → ∀ new, new = ws.set 0 (withBits (ws.getD 0 0) 15 0 s.dev.flowStamp) →
      (∀ i d, s.dev.flowFind (keyOf new) h h2 [] (some (fragWords new)) = none →
        (s.dev.setInsQ k rest).flowPlace h h2 new [] = some (i, d) → Completes (.flowInsertServe k []) s fun t =>
          (copies = [] → insStops rest = true → t.dev.tabs = d.tabs ∧ t.dev.insQ k = rest) ∧ t.bench = s.bench ∧ t.vault = s.vault) ∧
      (∀ i, s.dev.flowFind (keyOf new) h h2 [] (some (fragWords new)) = some i → s.dev.flowState i ≠ 5 → s.dev.flowState i ≠ 6 →
        Completes (.flowInsertServe k []) s fun t =>
          (copies = [] → insStops rest = true → t.dev.tfld T.flow i 0 15 0 = s.dev.flowStamp ∧ t.dev.insQ k = rest) ∧
          t.bench = s.bench ∧ t.vault = s.vault) ∧
      (s.dev.flowFind (keyOf new) h h2 [] (some (fragWords new)) = none → (s.dev.setInsQ k rest).flowPlace h h2 new [] = none →
        Completes (.flowInsertServe k []) s fun t =>
          (s.dev.frozen 0x90000 = false → t.dev.rd C.FLOW_FULL_DROP.at_ =
            min 0xFFFFFFFF (s.dev.rd C.FLOW_FULL_DROP.at_ + copies.length)) ∧
          (copies = [] → insStops rest = true → t.dev.tabs = s.dev.tabs ∧ t.dev.insQ k = rest) ∧ t.bench = s.bench ∧ t.vault = s.vault)) ∧
    (∀ (r : Req) (v : Nat), Accepts s r R.FLOW_PURGE →
      (s.dev.bit R.FLOW_PURGE 31 = false → Completes (.flowPurgeWrite r v) s fun t =>
        t.dev.rd R.FLOW_PURGE = v &&& 0xE03F00FF ∧ (v.testBit 31 = true → t.dev.lk.purge = {}) ∧
        SameBut (R.FLOW_PURGE :: C.PAIR_JRNL_OVF.touches) s t) ∧
      (s.dev.bit R.FLOW_PURGE 31 = true → Completes (.flowPurgeWrite r v) s fun t => SameBut C.PAIR_JRNL_OVF.touches s t))

/-- R239, R284, R30, R340: the learn engine applies the oldest request; a recovery function that no frame has passed for its time forgets its
history and takes any number; a Spindle takes the head of its queue through the parser, forwarding and its actions, or ends the pass of
a frame that its exception drops; a recirculated head joins the queue of its hash, or is dropped where that is full. -/
def Obligations.LearningPassesAndRecovery : Prop :=
  ∀ s : State,
    (∀ (q : LearnReq) (rest : List LearnReq), s.dev.spindlesOn = true → s.dev.lk.learn = q :: rest →
      (∀ j, s.dev.macFind q.fid q.mac s.dev.lk.badMac = none →
        (List.range 8).find? (fun j => s.dev.tfld T.mac (s.dev.macBucket q.fid q.mac + j) 0 31 31 == 0) = some j →
        Completes .learnApply s fun t => t.dev.lk.learn = rest ∧ t.dev.tfld T.mac (s.dev.macBucket q.fid q.mac + j) 0 31 31 = 1 ∧
          t.dev.tfld T.mac (s.dev.macBucket q.fid q.mac + j) 0 15 0 = s.dev.macStamp ∧
          t.dev.tab T.mac (s.dev.macBucket q.fid q.mac + j) 2 = q.mac % 2 ^ 32 ∧ t.bench = s.bench ∧ t.vault = s.vault) ∧
      (s.dev.macFind q.fid q.mac s.dev.lk.badMac = none →
        (List.range 8).find? (fun j => s.dev.tfld T.mac (s.dev.macBucket q.fid q.mac + j) 0 31 31 == 0) = none →
        Completes .learnApply s fun t => t.dev.lk.learn = rest ∧ t.dev.tabs = s.dev.tabs ∧ t.bench = s.bench ∧ t.vault = s.vault)) ∧
    (∀ r < 2048, s.dev.tfld T.rcvy r 0 31 31 = 1 → s.dev.tab T.rcvyHist r 5 = 1 →
      s.dev.passed (s.dev.tab96 T.rcvyHist r 2) (max 1 (s.dev.tfld T.rcvy r 0 15 0) * 10 ^ 6) = true → Completes (.rcvyReset r) s fun t =>
      t.dev.tab T.rcvyHist r 0 = 0 ∧ t.dev.tab T.rcvyHist r 1 = 0 ∧ t.dev.tfld T.rcvy r 2 31 31 = 1 ∧ t.dev.reo r = {} ∧
      t.dev.bit 0xB0014 11 = true ∧ t.bench = s.bench ∧ t.vault = s.vault) ∧
    (∀ (k f : Nat) (rest : List Nat) (env : PassEnv), s.dev.spnQ k = f :: rest →
      (s.dev.forwards = false → exec (.spindlePass k env) s = .next s) ∧
      (s.dev.forwards = true → (s.dev.frame f).legacy = true → (s.dev.frame f).eth = false → (s.dev.frame f).rcv = none →
        ∀ d : Dev, d = (s.dev.setSpnQ k rest).setFrame f { s.dev.frame f with passes := (s.dev.frame f).passes + 1 } →
        ((d.gouge f env).1.exc = 0 → (d.gouge f env).2.trapped ((d.gouge f env).2.frame f) = false →
          exec (.spindlePass k env) s = .next
            { s with dev := ((d.gouge f env).2.fwdLeg f env).2.actionStage f (d.gouge f env).1 ((d.gouge f env).2.fwdLeg f env).1 env }) ∧
        ((d.gouge f env).1.exc ≠ 0 → (d.gouge f env).2.excAct (d.gouge f env).1.exc = 0 →
          Completes (.spindlePass k env) s fun t => t.dev.spnQ k = rest ∧ (t.dev.frame f).arrival = false ∧ t.bench = s.bench ∧
            t.vault = s.vault))) ∧
    (∀ f q, s.dev.pwr.xtalOk = true → s.dev.recircNext s.dev.ck.recirc [] = some f →
      q = tupleHash (tupleOf (s.dev.frame f).legacy (s.dev.frame f).bytes) (s.dev.rd R.RULE_HASH_SEED) % 4 →
      ((s.dev.spnQ q).length < (if 6 ≤ (s.dev.frame f).ingTc then 512 else 448) → Completes .recircReenter s fun t =>
        t.dev.ck.recirc = s.dev.ck.recirc.filter (· != f) ∧ t.dev.spnQ q = s.dev.spnQ q ++ [f] ∧ t.bench = s.bench ∧ t.vault = s.vault) ∧
      ((if 6 ≤ (s.dev.frame f).ingTc then 512 else 448) ≤ (s.dev.spnQ q).length → Completes .recircReenter s fun t =>
        t.dev.ck.recirc = s.dev.ck.recirc.filter (· != f) ∧ (t.dev.frame f).arrival = false ∧ t.bench = s.bench ∧ t.vault = s.vault))

/-- R67 to R71, R297, R332: an OP write starts an operation or ends it at once with the status that refuses it, sets the overrun mark
while one runs, and is refused of a page that another owns; an operation that completes fills the data registers or stores them. -/
def Obligations.TableAccessWindows : Prop :=
  ∀ (w : Nat) (k : Win) (s : State), winAt w = some k → k.base = w →
    (∀ r : Req, s.dev.reach r w = true →
      OpWrite r w 1 k (.tawRead r w) s ∧ OpWrite r w 2 k (.tawWrite r w) s ∧ OpWrite r w 3 k (.writeValidLast r w) s ∧
      (w = 0x98100 → OpWrite r w 1 k (.shadowRead r) s ∧ OpWrite r w 2 k (.shadowWrite r false) s ∧
        OpWrite r w 3 k (.shadowWrite r true) s) ∧
      (w = 0xB0180 → OpWrite r w 2 k (.sgChangeReq r) s)) ∧
    (s.dev.bit (w + 8) 31 = true →
      (s.dev.fld (w + 8) 2 0 = 1 → Completes (.tawOpDone w 0) s fun t =>
        t.dev.bit (w + 8) 31 = false ∧ t.dev.fld (w + 8) 23 16 = 0 ∧
        (∀ j < 20, j < (s.dev.tawRead k (s.dev.rd w) (s.dev.rd (w + 4))).length →
          t.dev.rd (w + 0x10 + 4 * j) = ((s.dev.tawRead k (s.dev.rd w) (s.dev.rd (w + 4))).getD j 0) % 2 ^ 32) ∧
        t.dev.tabs = s.dev.tabs ∧ t.bench = s.bench ∧ t.vault = s.vault) ∧
      (s.dev.fld (w + 8) 2 0 ≠ 1 → Completes (.tawOpDone w 0) s fun t =>
        t.dev.bit (w + 8) 31 = false ∧ t.dev.fld (w + 8) 23 16 = s.dev.tawJudge k (s.dev.fld (w + 8) 2 0) ∧
        (s.dev.tawJudge k (s.dev.fld (w + 8) 2 0) ≠ 0 → t.dev.tabs = s.dev.tabs) ∧
        (s.dev.tawJudge k (s.dev.fld (w + 8) 2 0) = 0 → k = .fwd → s.dev.rd w = 1 → ∀ j < 4,
          t.dev.tab T.vlan (s.dev.rd (w + 4)) j =
            s.dev.rd (w + 0x10 + 4 * j) &&& ([0xC0000FFF, 0xFFFFFFFF, 0x3F003F, 0xFFFFFFFF].getD j 0)) ∧
        t.bench = s.bench ∧ t.vault = s.vault))

/-- R332, R344, R345, R348: a gate list change is refused, or waits for its time and takes effect then; an interval that has ended gives way
to the next entry; three failed attempts end a verification. -/
def Obligations.GateListsAndPreemption : Prop :=
  ∀ s : State,
    (∀ (r : Req) (n v : Nat), n < 38 → Accepts s r (R.TSN_ADM_LIST n) →
      (s.dev.bit (R.TSN_STAT n) 31 = true → Completes (.configChangeReq r n v) s fun t =>
        t.dev.bit (R.TSN_STAT n) 1 = true ∧ SameBut (R.TSN_STAT n :: C.PAIR_JRNL_OVF.touches) s t) ∧
      (s.dev.bit (R.TSN_STAT n) 31 = false → v.testBit 31 = false → Completes (.configChangeReq r n v) s fun t =>
        t.dev.rd (R.TSN_ADM_LIST n) = v % 2048 ∧ SameBut (R.TSN_ADM_LIST n :: C.PAIR_JRNL_OVF.touches) s t) ∧
      (s.dev.bit (R.TSN_STAT n) 31 = false → v.testBit 31 = true →
        ((s.dev.wr (R.TSN_ADM_LIST n) (v % 2048)).admBad n = true → Completes (.configChangeReq r n v) s fun t =>
          t.dev.rd (R.TSN_ADM_LIST n) = v % 2048 ∧ t.dev.bit (R.TSN_STAT n) 2 = true ∧ t.dev.bit (R.TSN_STAT n) 31 = false ∧
          t.dev.bit (tsnPage n + 0x14) 1 = true ∧ t.bench = s.bench ∧ t.vault = s.vault) ∧
        ((s.dev.wr (R.TSN_ADM_LIST n) (v % 2048)).admBad n = false → Completes (.configChangeReq r n v) s fun t =>
          t.dev.rd (R.TSN_ADM_LIST n) = v % 2048 ∧ t.dev.bit (R.TSN_STAT n) 31 = true ∧
          t.dev.rd (R.TSN_CCT_NS n) = cctFrom (s.dev.rd64 (R.TSN_ADM_BASE_S_LO n) * 10 ^ 9 + s.dev.fld (R.TSN_ADM_BASE_NS n) 29 0)
            (s.dev.rd (R.TSN_ADM_CYCLE n)) (s.dev.domNow (s.dev.tsnTd n)) % 10 ^ 9 ∧
          t.dev.rd64 (R.TSN_CCT_S_LO n) = cctFrom (s.dev.rd64 (R.TSN_ADM_BASE_S_LO n) * 10 ^ 9 + s.dev.fld (R.TSN_ADM_BASE_NS n) 29 0)
            (s.dev.rd (R.TSN_ADM_CYCLE n)) (s.dev.domNow (s.dev.tsnTd n)) / 10 ^ 9 % 2 ^ 64 ∧ t.bench = s.bench ∧ t.vault = s.vault))) ∧
    (∀ n < 38, s.dev.bit (R.TSN_STAT n) 31 = true → s.dev.cctOf n ≤ s.dev.domNow (s.dev.tsnTd n) → Completes (.configChange n) s fun t =>
      t.dev.bit (R.TSN_STAT n) 31 = false ∧ t.dev.bit (tsnPage n + 0x14) 0 = true ∧
      (∀ k < 6, t.dev.rd (R.TSN_OPR_BASE_S_LO n + 4 * k) = s.dev.rd (R.TSN_ADM_BASE_S_LO n + 4 * k)) ∧
      (∀ k < s.dev.fld (R.TSN_ADM_LIST n) 10 0, ∀ w < 2, t.dev.tab (T.gclOpr n) k w = s.dev.tab (T.gclAdm n) k w) ∧
      t.bench = s.bench ∧ t.vault = s.vault) ∧
    (∀ n < 38, s.dev.listRuns n = true →
      listAt (s.dev.oprIv n) (s.dev.oprLen n) 0 (s.dev.oprPhase n) ≠ s.dev.fld (R.TSN_GATE n) 25 16 →
      (s.dev.fld (R.TSN_GATE n) 25 16 + 1 < s.dev.oprLen n → s.dev.oprStart n (s.dev.fld (R.TSN_GATE n) 25 16 + 1) < s.dev.oprCycle n →
        Completes (.gclEntryAdvance n) s fun t => t.dev.rd (R.TSN_GATE n) = (s.dev.fld (R.TSN_GATE n) 25 16 + 1) * 65536 +
          s.dev.tab (T.gclOpr n) (s.dev.fld (R.TSN_GATE n) 25 16 + 1) 0 % 256 ∧ t.bench = s.bench ∧ t.vault = s.vault) ∧
      ((s.dev.oprLen n ≤ s.dev.fld (R.TSN_GATE n) 25 16 + 1 ∨ s.dev.oprCycle n ≤ s.dev.oprStart n (s.dev.fld (R.TSN_GATE n) 25 16 + 1)) →
        Completes (.gclEntryAdvance n) s fun t => t.dev.rd (R.TSN_GATE n) = s.dev.tab (T.gclOpr n) 0 0 % 256 ∧ t.bench = s.bench ∧
          t.vault = s.vault)) ∧
    (∀ g < 1024, s.dev.sgPending g = true → s.dev.tab96 T.gateCct g 0 ≤ s.dev.domNow (s.dev.tfld T.gate g 0 18 16) →
      Completes (.sgChange g) s fun t =>
        t.dev.sgPending g = false ∧ t.dev.tab T.gate g 6 = s.dev.tab T.gate g 5 &&& 0x3FFF007F ∧
        t.dev.tab T.gate g 7 = s.dev.tab T.gate g 4 ∧ t.dev.bit 0xB0014 12 = true ∧ (∀ o, o ≠ 0xB0014 → t.dev.rd o = s.dev.rd o) ∧
        t.bench = s.bench ∧ t.vault = s.vault) ∧
    (∀ n < 28, s.dev.fld (R.TSN_STAT n) 29 28 = 1 → s.dev.portUp n = true →
      (Completes (.preemptVerify n true) s fun t => t.dev.fld (R.TSN_STAT n) 29 28 = 2 ∧ t.dev.bit (tsnPage n + 0x14) 3 = true ∧
        t.bench = s.bench ∧ t.vault = s.vault) ∧
      (2 ≤ s.dev.tab T.tsnPort n 2 → s.dev.tab T.tsnPort n 2 < 2 ^ 31 → Completes (.preemptVerify n false) s fun t =>
        t.dev.fld (R.TSN_STAT n) 29 28 = 3 ∧ t.dev.bit (tsnPage n + 0x14) 3 = true ∧ t.bench = s.bench ∧ t.vault = s.vault) ∧
      (s.dev.tab T.tsnPort n 2 < 2 → Completes (.preemptVerify n false) s fun t => t.dev.tab T.tsnPort n 2 = s.dev.tab T.tsnPort n 2 + 1 ∧
        ∀ o, t.dev.rd o = s.dev.rd o))


/-- R146, R147, R150, R157, R159, R160, R546, R547: the states of a CAN channel, what a write of CAN_CTRL makes of them, the frame error
counter of a sleeping channel, and the states and messages of the network-management engine. -/
def Obligations.CanChannelStates : Prop :=
  ∀ (n : Nat) (s : State), n < 24 →
    (s.dev.canState n = 1 → s.dev.legRuns = true → Completes (.canIntegrated n) s fun t =>
      t.dev.canState n = (if s.dev.canMode n = 1 ∨ s.dev.canMode n = 2 then 6 else if (s.dev.canCh n).boff then 5
        else if 255 < s.dev.canTec n then 4 else if 127 < s.dev.canTec n ∨ 127 < s.dev.canRec n then 3 else 2) ∧ t.dev.bit (canPage n + 0x14) 0 = true ∧
      t.bench = s.bench ∧ t.vault = s.vault) ∧
    (s.dev.canState n = 5 → Completes (.canRecoveryDone n) s fun t => t.dev.canState n = 2 ∧ t.dev.rd (R.CAN_ERRC n) = 0 ∧
      SameBut [R.CAN_STAT n, R.CAN_ERRC n, canPage n + 0x14] s t) ∧
    (s.dev.canState n = 4 → s.dev.bit (R.CAN_CTRL n) 13 = true → (s.dev.canCh n).stuck = false →
      s.dev.passed (s.dev.canCh n).boffAt (s.dev.fld (R.CAN_BOFF n) 31 16 * 1000000) = true →
      Completes (.boffDelayExpiry n) s fun t => t.dev.canState n = 5 ∧ t.bench = s.bench ∧ t.vault = s.vault) ∧
    (∀ code, 0 < code → code < 7 → (s.dev.canState n = 2 ∨ s.dev.canState n = 3) → s.dev.gatedLeg n = false → s.dev.canTec n < 256 →
      s.dev.notReady n = false →
      (∀ dom : Bool, Completes (.canBusError n code false false false dom) s fun t =>
        t.dev.fld (R.CAN_STAT n) 22 20 = code ∧ t.dev.canRec n = min 255 (s.dev.canRec n + if dom then 9 else 1) ∧
        t.dev.canState n = (if 127 < s.dev.canTec n ∨ 127 < s.dev.canRec n + (if dom then 9 else 1) then 3 else 2) ∧
        t.bench = s.bench ∧ t.vault = s.vault) ∧
      Completes (.canBusError n code false true false false) s fun t =>
        t.dev.fld (R.CAN_STAT n) 22 20 = code ∧ t.dev.canTec n = s.dev.canTec n + 8 ∧
        t.dev.canState n = (if 255 < s.dev.canTec n + 8 then 4 else if 127 < s.dev.canTec n + 8 ∨ 127 < s.dev.canRec n then 3 else 2) ∧
        t.bench = s.bench ∧ t.vault = s.vault) ∧
    (∀ (r : Req) (v : Nat), Accepts s r (R.CAN_CTRL n) →
      (s.dev.bit (R.CAN_CTRL n) 0 = false → v.testBit 0 = true → v.testBit 12 = false →
        (s.dev.canConfigOk n (bitsOf ((v &&& 0x7000) + (v &&& 0x7E0)) 10 8) (bitsOf ((v &&& 0x7000) + (v &&& 0x7E0)) 7 6) = true →
          Completes (.chEnWrite r n v) s fun t => t.dev.canState n = 1 ∧
            t.dev.rd (R.CAN_CTRL n) = (v &&& 0x7000) + (v &&& 0x7E0) + 1 ∧ t.bench = s.bench ∧ t.vault = s.vault) ∧
        (s.dev.canConfigOk n (bitsOf ((v &&& 0x7000) + (v &&& 0x7E0)) 10 8) (bitsOf ((v &&& 0x7000) + (v &&& 0x7E0)) 7 6) = false →
          Completes (.chEnWrite r n v) s fun t => t.dev.canState n = s.dev.canState n ∧ t.dev.bit (R.CAN_CTRL n) 0 = false ∧
            t.dev.bit (R.CAN_STAT n) 9 = true ∧ t.dev.bit (canPage n + 0x14) 6 = true ∧ t.bench = s.bench ∧ t.vault = s.vault)) ∧
      (s.dev.bit (R.CAN_CTRL n) 0 = true → v.testBit 0 = false → Completes (.chEnWrite r n v) s fun t =>
        t.dev.canState n = 0 ∧ t.dev.bit (R.CAN_CTRL n) 0 = false ∧ t.bench = s.bench ∧ t.vault = s.vault) ∧
      (s.dev.bit (R.CAN_CTRL n) 0 = true → s.dev.canState n = 4 → (s.dev.bit (R.CAN_CTRL n) 13 = false ∨ (s.dev.canCh n).stuck = true) →
        Completes (.recover r n) s fun t => t.dev.canState n = 5 ∧ (t.dev.canCh n).stuck = false ∧ t.bench = s.bench ∧
          t.vault = s.vault) ∧
      (s.dev.bit (R.CAN_CTRL n) 0 = true →
        (s.dev.bit (R.CAN_CTRL n) 12 = false → s.dev.canState n ≠ 0 → Completes (.chSleepWrite r n true) s fun t =>
          t.dev.canState n = 7 ∧ t.dev.bit (R.CAN_CTRL n) 12 = true ∧ t.bench = s.bench ∧ t.vault = s.vault) ∧
        (s.dev.bit (R.CAN_CTRL n) 12 = true → s.dev.canState n = 7 → Completes (.chSleepWrite r n false) s fun t =>
          t.dev.canState n = 1 ∧ t.dev.bit (R.CAN_CTRL n) 12 = false ∧ t.dev.fld (R.CAN_SWK_STAT n) 31 28 = 4 ∧ t.bench = s.bench ∧
          t.vault = s.vault))) ∧
    (s.dev.canState n = 7 → 2 ≤ s.dev.fld (R.CAN_SWK_CTRL n) 1 0 → ∀ err : Bool, Completes (.swkFrameDecoded n true err) s fun t =>
      t.dev.fld (R.CAN_SWK_STAT n) 5 0 = (if err then min 63 (s.dev.fld (R.CAN_SWK_STAT n) 5 0 + 1) else s.dev.fld (R.CAN_SWK_STAT n) 5 0 - 1) ∧
      SameBut [R.CAN_SWK_STAT n] s t) ∧
    (s.dev.canState n ≠ 7 →
      (∀ (r : Req) (v : Nat), Accepts s r (R.NM_CFG n) →
        (v.testBit 31 = false → Completes (.nmEnWrite r n v) s fun t => t.dev.nmState n = 0 ∧ t.bench = s.bench ∧ t.vault = s.vault) ∧
        (v.testBit 31 = true → s.dev.bit (R.NM_CTRL n) 0 = true → Completes (.nmEnWrite r n v) s fun t =>
          t.dev.nmState n = 1 ∧ t.bench = s.bench ∧ t.vault = s.vault)) ∧
      (∀ (r : Req) (v : Nat), Accepts s r (R.NM_CTRL n) → s.dev.bit (R.NM_CFG n) 31 = true →
        (v.testBit 0 = true → Completes (.nmReqWrite r n v) s fun t => t.dev.nmState n = 1 ∧ t.bench = s.bench ∧ t.vault = s.vault) ∧
        (v.testBit 0 = false → s.dev.nmState n = 1 → Completes (.nmReqWrite r n v) s fun t => t.dev.nmState n = 2 ∧ t.bench = s.bench ∧
          t.vault = s.vault)) ∧
      (s.dev.nmState n = 1 → s.dev.gatedLeg n = false → s.dev.poolUsedCan n < 32 →
          max 1 (s.dev.fld (R.NM_TIMING n) 31 16) * 1000000 * 2 ^ 16 ≤ s.dev.nmRan n → Completes (.nmCycle n) s fun t =>
        ∃ e, (t.dev.canCh n).pool = (s.dev.canCh n).pool ++ [e] ∧ e.fr.id = s.dev.fld (R.NM_ID n) 28 0 ∧ e.fr.dlc = 8 ∧
          t.bench = s.bench ∧ t.vault = s.vault) ∧
      (s.dev.nmState n = 2 → max 1 (s.dev.fld (R.NM_TIMING n) 15 0) * 1000000 * 2 ^ 16 ≤ s.dev.nmRan n → Completes (.nmTimeout n) s fun t => t.dev.nmState n = 3 ∧ t.dev.bit 0xA014 8 = true ∧
        SameBut [R.NM_STAT n, 0xA014] s t))

/-- R148, R153 to R156, R158: a channel begins with the frame of its pool that would win, an attempt that completes leaves on the line
and one that loses returns to its place, a cancel withdraws what it names, and a frame received joins the receive buffer. -/
def Obligations.CanTraffic : Prop :=
  ∀ (n : Nat) (s : State), n < 24 →
    (s.dev.canSends n = true →
      ((s.dev.canCh n).pattern = true → ∀ tdcv, Completes (.canTxStart n tdcv) s fun t =>
        (t.dev.canCh n).pattern = false ∧ t.dev.out = s.dev.out ++ (if s.dev.canMode n = 3 then [] else [.leg n 0x20000000 []]) ∧
        t.bench = s.bench ∧ t.vault = s.vault) ∧
      ((s.dev.canCh n).pattern = false → s.dev.ttsState n = 0 → ∀ tdcv e, poolBest (s.dev.canCh n).pool = some e →
        Completes (.canTxStart n tdcv) s fun t => (t.dev.canCh n).att =
            some { ent := e, sof := s.dev.time.frc, tdcv := if e.fr.kind = 2 ∨ e.fr.kind = 3 then some tdcv else none } ∧
          (t.dev.canCh n).pool = (s.dev.canCh n).pool.filter (fun x => x.age != e.age) ∧ t.dev.out = s.dev.out ∧ t.bench = s.bench ∧
          t.vault = s.vault)) ∧
    (∀ a : CanAtt, (s.dev.canCh n).att = some a → a.src = 0 → a.ent.covered = false →
      (s.dev.canMode n ≠ 3 → s.dev.canMode n ≠ 4 → s.dev.canTec n < 256 → Completes (.canTxDone n) s fun t =>
        (t.dev.canCh n).att = none ∧ (t.dev.canCh n).run = 0 ∧ t.dev.canTec n = s.dev.canTec n - 1 ∧
        t.dev.out = s.dev.out ++ [.leg n a.ent.fr.id (legHeader n false a.ent.fr ++ a.ent.fr.data)] ∧ t.bench = s.bench ∧
        t.vault = s.vault) ∧
      Completes (.arbLost n) s fun t => (t.dev.canCh n).att = none ∧ (t.dev.canCh n).pool = poolBack a.ent (s.dev.canCh n).pool ∧
        t.dev.out = s.dev.out ∧ t.bench = s.bench ∧ t.vault = s.vault) ∧
    (∀ (r : Req) (v : Nat), Accepts s r (R.CAN_CANCEL n) → v.testBit 31 = true → s.dev.bit (R.CAN_CANCEL n) 31 = false →
      (s.dev.canCh n).att = none → Completes (.canCancel r n v) s fun t =>
        (t.dev.canCh n).pool = (s.dev.canCh n).pool.filter (fun e => !s.dev.cancelHits n e) ∧
        t.dev.rd (R.CAN_CANCEL n) = 2 ^ 30 + (if (s.dev.canCh n).pool.filter (s.dev.cancelHits n) = [] then 0x0B else 0x0D) * 65536 +
          ((s.dev.canCh n).pool.filter (s.dev.cancelHits n)).length % 64 ∧ t.dev.bit (canPage n + 0x14) 2 = true ∧ t.bench = s.bench ∧
        t.vault = s.vault) ∧
    (∀ (f : LegFrame) (ago : Nat), (s.dev.canState n = 2 ∨ s.dev.canState n = 3) → s.dev.notReady n = false → s.dev.canFormat n f.kind = true →
      s.dev.canTec n < 256 → s.dev.fld (R.CAN_SEC n) 1 0 = 0 →
      (s.dev.canCh n).rx.foldl (fun a e => a + rxBytes e.1) 0 + rxBytes f ≤ 8192 → Completes (.canFrameRx n f ago) s fun t =>
        (t.dev.canCh n).rx = (s.dev.canCh n).rx ++ [(f, canStamp n ((s.dev.time.frc : Int) - ago))] ∧
        t.dev.out = s.dev.out ∧ t.bench = s.bench ∧ t.vault = s.vault)


/-- R170 to R172, R176 to R183, R186, R189: the states of a schedule, its reference instants and messages, its windows and their misses,
the swap of a staged schedule, and the clearing of a hold buffer. -/
def Obligations.TimeTriggeredSchedules : Prop :=
  ∀ (n : Nat) (s : State), n < 24 →
    (∀ (r : Req) (v : Nat), Accepts s r (R.TTS_CH_CFG n) →
      (s.dev.bit (R.TTS_CH_CFG n) 31 = false → v.testBit 31 = true →
        ((1 < bitsOf (v &&& 0x37370700) 29 28 ∨ bitsOf (v &&& 0x37370700) 21 20 = 3 ∨ bitsOf (v &&& 0x37370700) 10 8 = 7) →
          Completes (.ttsEnWrite r n v) s fun t => t.dev.rd (R.TTS_CH_CFG n) = v &&& 0x37370700 ∧
            t.dev.bit (R.TTS_CH_STAT n) 2 = true ∧ SameBut ([R.TTS_CH_CFG n, R.TTS_CH_STAT n] ++ C.PAIR_JRNL_OVF.touches) s t) ∧
        (¬(1 < bitsOf (v &&& 0x37370700) 29 28 ∨ bitsOf (v &&& 0x37370700) 21 20 = 3 ∨ bitsOf (v &&& 0x37370700) 10 8 = 7) →
          s.dev.bit R.TTS_CTRL 0 = true → Completes (.ttsEnWrite r n v) s fun t =>
            t.dev.rd (R.TTS_CH_CFG n) = (v &&& 0x37370700) + 2 ^ 31 ∧ t.dev.ttsState n = 1 ∧ t.bench = s.bench ∧ t.vault = s.vault)) ∧
      (s.dev.bit (R.TTS_CH_CFG n) 31 = true → v.testBit 31 = false → Completes (.ttsEnWrite r n v) s fun t =>
        t.dev.bit (R.TTS_CH_CFG n) 31 = false ∧ t.dev.ttsState n = 0 ∧ t.bench = s.bench ∧ t.vault = s.vault)) ∧
    (s.dev.ttsState n ∈ [1, 2, 3] → s.dev.ttsPotential n = true → s.dev.canRuns n = true →
      s.dev.refCome n = true → ∀ sub : Nat,
      (s.dev.canSends n = true → Completes (.ttsRefDue n sub true) s fun t =>
        (∃ a, (t.dev.canCh n).att = some a ∧ a.src = 2 ∧ a.sof = s.dev.time.frc + sub % 0x28000 ∧
          a.ent.fr.id = s.dev.fld (R.TTS_CH_REF n) 28 0 / 8 * 8 + s.dev.fld (R.TTS_CH_CFG n) 26 24 ∧ a.ent.fr.dlc = 4) ∧
        (t.dev.ttsCh n).due = false ∧ (t.dev.ttsCh n).disc = false ∧ t.bench = s.bench ∧ t.vault = s.vault) ∧
      Completes (.ttsRefDue n sub false) s fun t => (t.dev.ttsCh n).due = true ∧ (s.dev.ttsState n ≠ 3 → t.dev.can = s.dev.can) ∧
        t.bench = s.bench ∧ t.vault = s.vault) ∧
    (s.dev.canRuns n = true → ∀ (prio cnt mark ago : Nat) (gap : Bool),
      (s.dev.ttsState n ∈ [1, 2, 3] → s.dev.ttsPotential n = true → prio = s.dev.fld (R.TTS_CH_CFG n) 26 24 →
        Completes (.ttsRefRx n prio cnt gap mark ago) s fun t => t.dev.ttsState n = 4 ∧ t.bench = s.bench ∧ t.vault = s.vault) ∧
      (s.dev.ttsState n = 2 → (s.dev.ttsPotential n = false ∨ prio ≠ s.dev.fld (R.TTS_CH_CFG n) 26 24) →
        Completes (.ttsRefRx n prio cnt gap mark ago) s fun t => t.dev.ttsState n = 2 ∧ t.dev.rd (R.TTS_CH_LASTREF n) = mark % 2 ^ 19 ∧
          t.dev.cycleCnt n = cnt % s.dev.matrixCycles n % 64 ∧ (t.dev.ttsCh n).gap = gap ∧ t.bench = s.bench ∧ t.vault = s.vault) ∧
      (s.dev.ttsState n = 3 → prio < s.dev.fld (R.TTS_CH_CFG n) 26 24 → Completes (.ttsRefRx n prio cnt gap mark ago) s fun t =>
        t.dev.ttsState n = 2 ∧ t.dev.rd (R.TTS_CH_LASTREF n) = mark % 2 ^ 19 ∧ t.bench = s.bench ∧ t.vault = s.vault) ∧
      (s.dev.ttsState n = 1 → (s.dev.ttsPotential n = false ∨ prio ≠ s.dev.fld (R.TTS_CH_CFG n) 26 24) →
        Completes (.ttsRefRx n prio cnt gap mark ago) s fun t =>
          t.dev.ttsState n = (if s.dev.refFollows n cnt (s.dev.time.frc - ago) then 2 else 1) ∧ (t.dev.ttsCh n).due = false ∧
          t.dev.rd (R.TTS_CH_LASTREF n) = mark % 2 ^ 19 ∧ t.bench = s.bench ∧ t.vault = s.vault)) ∧
    (s.dev.ttsState n ∈ [2, 3] → (s.dev.ttsCh n).gap = false → Completes (.ttsRefTimeout n) s fun t =>
      t.dev.ttsState n = 1 ∧ (t.dev.ttsCh n).s2 = true ∧ t.dev.fld (R.TTS_CH_STAT n) 25 24 = 2 ∧ t.bench = s.bench ∧ t.vault = s.vault) ∧
    (∀ (i tdcv : Nat) (busy : Bool), s.dev.ttsState n ∈ [2, 3] → i ∈ s.dev.slotsOf n → serves (s.dev.tab T.slot i 0) (s.dev.cycleCnt n) = true →
      s.dev.ntuCome n (s.dev.slotTimes i).1 s.dev.time.frc = true →
      Completes (.ttsWindowStart n i tdcv busy) s fun t => (t.dev.ttsCh n).win = some i ∧ (t.dev.ttsCh n).closed = false ∧
        ((t.dev.ttsCh n).resolved = true ↔ (s.dev.tfld T.slot i 0 30 28 = 1 ∨ s.dev.tfld T.slot i 0 30 28 = 2) ∧
          s.dev.bufSilent (s.dev.slotBuf n i) = true) ∧ t.bench = s.bench ∧ t.vault = s.vault) ∧
    (∀ i k, s.dev.openSlot n = some (i, k) → (s.dev.ttsState n = 1 ∨ s.dev.spanOver n i = true) →
      ((s.dev.canCh n).att = none → (k = 1 ∨ k = 2) → Completes (.ttsTxenClose n) s fun t =>
        (t.dev.ttsCh n).closed = true ∧ (t.dev.ttsCh n).resolved = true ∧
        t.dev.tfld T.slot i 2 18 16 = min 7 (s.dev.tfld T.slot i 2 18 16 + 1) ∧ t.dev.bit 0x74014 0 = true ∧ t.bench = s.bench ∧
        t.vault = s.vault) ∧
      (k ≠ 1 → k ≠ 2 → Completes (.ttsTxenClose n) s fun t => (t.dev.ttsCh n).closed = true ∧ (t.dev.ttsCh n).resolved = false ∧ SameBut [] s t) ∧
      (k = 3 → Completes (.rxMiss n) s fun t => (t.dev.ttsCh n).closed = true ∧ (t.dev.ttsCh n).resolved = true ∧
        t.dev.tfld T.slot i 2 18 16 = min 7 (s.dev.tfld T.slot i 2 18 16 + 1) ∧ t.dev.bit 0x74014 1 = true ∧ t.bench = s.bench ∧
        t.vault = s.vault)) ∧
    (∀ (r : Req) (v : Nat), Accepts s r (R.TTS_CH_CTRL n) → v.testBit 0 = true → s.dev.bit (R.TTS_CH_STAT n) 1 = false →
      (s.dev.swapBad n = true → Completes (.ttsSwap r n v) s fun t => t.dev.bit 0x74014 5 = true ∧ t.dev.bit (R.TTS_CH_STAT n) 1 = false ∧
        SameBut ([0x74014, R.TTS_EV_CH] ++ C.PAIR_JRNL_OVF.touches) s t) ∧
      (s.dev.swapBad n = false → Completes (.ttsSwap r n v) s fun t => t.dev.bit (R.TTS_CH_STAT n) 1 = true ∧
        SameBut (R.TTS_CH_STAT n :: C.PAIR_JRNL_OVF.touches) s t)) ∧
    (s.dev.bit (R.TTS_CH_STAT n) 1 = true → (s.dev.ttsState n ∉ [2, 3] ∨ s.dev.cycleCnt n = 0) → Completes (.swapDone n) s fun t =>
      t.dev.bit (R.TTS_CH_STAT n) 1 = false ∧ ((t.dev.ttsCh n).base, (t.dev.ttsCh n).count) = s.dev.stagedRange n ∧
      t.dev.bit 0x74014 4 = true ∧ (∀ k < (s.dev.stagedRange n).2, (s.dev.stagedRange n).1 + k < 8192 → ∀ w < 2,
        t.dev.tab T.slot ((s.dev.stagedRange n).1 + k) w = s.dev.tab T.slotStaged ((s.dev.stagedRange n).1 + k) w) ∧
      t.bench = s.bench ∧ t.vault = s.vault) ∧
    (∀ (r : Req) (v : Nat), Accepts s r (R.TTS_CH_HBCLR n) → v.testBit 31 = true → Completes (.ttsHbclr r n v) s fun t =>
      t.dev.hold (64 * n + v % 64) =
          { edges := (s.dev.hold (64 * n + v % 64)).edges, stale := (s.dev.hold (64 * n + v % 64)).stale } ∧ (∀ j, j ≠ 64 * n + v % 64 → t.dev.hold j = s.dev.hold j) ∧ t.bench = s.bench ∧
      t.vault = s.vault)


/-- R163, R164, R193 to R202, R539: the states of LIN and RS-485 channels and their frames, the wake-ups of legacy channels, and the
gateway's frames in and out. -/
def Obligations.LegacyBusesAndTheGateway : Prop :=
  ∀ s : State,
    (∀ (r : Req) (n v : Nat), n < 8 → Accepts s r (R.LIN_CTRL n) →
      (s.dev.bit (R.LIN_CTRL n) 0 = false → v.testBit 0 = true →
        (128000 ≤ s.dev.fld (R.LIN_RATE n) 23 0 → s.dev.fld (R.LIN_RATE n) 23 0 ≤ 2560000 → Completes (.linEnWrite r n v) s fun t =>
          t.dev.linState n = 1 ∧ t.dev.bit (R.LIN_CTRL n) 0 = true ∧ t.dev.linCmd n = v.testBit 1 ∧ (t.dev.linCh n).pos = 0 ∧
          SameBut ([R.LIN_CTRL n, R.LIN_STAT n] ++ C.PAIR_JRNL_OVF.touches) s t) ∧
        ((s.dev.fld (R.LIN_RATE n) 23 0 < 128000 ∨ 2560000 < s.dev.fld (R.LIN_RATE n) 23 0) → Completes (.linEnWrite r n v) s fun t =>
          t.dev.bit (R.LIN_CTRL n) 0 = false ∧ t.dev.bit (R.LIN_STAT n) 9 = true ∧ t.dev.bit (linPage n + 0x14) 0 = true ∧
          t.dev.linState n = s.dev.linState n ∧
          SameBut ([R.LIN_CTRL n, R.LIN_STAT n, linPage n + 0x14] ++ C.PAIR_JRNL_OVF.touches) s t)) ∧
      (v.testBit 0 = false → Completes (.linEnWrite r n v) s fun t => t.dev.linState n = 0 ∧ t.dev.bit (R.LIN_CTRL n) 0 = false ∧
        t.bench = s.bench ∧ t.vault = s.vault) ∧
      (s.dev.bit (R.LIN_CTRL n) 0 = true → s.dev.linState n = 2 → Completes (.linWakeReq r n) s fun t =>
        t.dev.linState n = (if s.dev.linCmd n then 3 else 1) ∧ t.dev.out = s.dev.out ++ (if s.dev.legDrives (24 + n) then [.leg (24 + n) 0x20000000 []] else []) ∧
        t.bench = s.bench ∧ t.vault = s.vault)) ∧
    (∀ n < 8, s.dev.linState n = 1 → s.dev.linCmd n = true → s.dev.legDrives (24 + n) = true → (s.dev.linCh n).bye = none →
      s.dev.bit (R.LIN_CTRL n) 4 = (s.dev.linCh n).tbl →
      (∀ k, (s.dev.linCh n).held = [] → s.dev.linNext n (s.dev.linCh n).pos = some k →
        (Completes (.linSlotStart n true) s fun t => (t.dev.linCh n).held = [s.dev.linEntry n k] ∧
          (t.dev.linCh n).pos = (k + 1) % 32 ∧ t.dev.out = s.dev.out ∧ SameBut (C.LIN_OVERRUN n).touches s t) ∧
        ((s.dev.linEntry n k).testBit 29 = true → Completes (.linSlotStart n false) s fun t =>
          (t.dev.linCh n).bye = some (s.dev.time.frc + s.dev.linBits n 124, false) ∧ (t.dev.linCh n).pos = (k + 1) % 32 ∧
          t.dev.out = s.dev.out ++ [.leg (24 + n) 0x3C (s.dev.linResponse n 0x3C sleepData)] ∧ SameBut [] s t) ∧
        ((s.dev.linEntry n k).testBit 29 = false → Completes (.linSlotStart n false) s fun t =>
          t.dev.linState n = 1 ∧ (t.dev.linCh n).pos = (k + 1) % 32 ∧
          (∃ rest, t.dev.out = s.dev.out ++ .leg (24 + n) (bitsOf (s.dev.linEntry n k) 21 16) [] :: rest) ∧ t.bench = s.bench ∧
          t.vault = s.vault)) ∧
      (∀ w rest, (s.dev.linCh n).held = w :: rest → w.testBit 29 = false → Completes (.linSlotStart n false) s fun t =>
        (t.dev.linCh n).held = rest ∧ (t.dev.linCh n).pos = (s.dev.linCh n).pos ∧
        (∃ more, t.dev.out = s.dev.out ++ .leg (24 + n) (bitsOf w 21 16) [] :: more) ∧ t.bench = s.bench ∧ t.vault = s.vault)) ∧
    (∀ n < 8, ∀ id < 64, ∀ ago, s.dev.linState n = 1 → s.dev.linCmd n = false → s.dev.legDrives (24 + n) = true →
      s.dev.bit (R.LIN_ID n id) 31 = true →
      (s.dev.fld (R.LIN_ID n id) 30 29 = 2 → Completes (.linHeaderRx n id ago) s fun t =>
        (t.dev.linCh n).wait = some (id, s.dev.time.frc - ago) ∧ SameBut [] s t) ∧
      (∀ d, s.dev.fld (R.LIN_ID n id) 30 29 = 1 → (s.dev.linCh n).at id (s.dev.time.frc - ago) = some d →
        Completes (.linHeaderRx n id ago) s fun t =>
          t.dev.out = s.dev.out ++ [.leg (24 + n) id (s.dev.linResponse n id d)] ∧ (t.dev.linCh n).wait = none ∧
          (t.dev.linCh n).at id (s.dev.time.frc - ago) = (if s.dev.bit (R.LIN_ID n id) 27 then some d else none) ∧
          t.bench = s.bench ∧ t.vault = s.vault)) ∧
    (∀ n < 8, ∀ id t0, (s.dev.linCh n).wait = some (id, t0) →
      (∀ data sum, s.dev.legRuns = true → s.dev.linLen n id ≤ data.length →
        (s.dev.headsStopped = false →
          (data ++ [sum]).take (s.dev.linLen n id + 1) = s.dev.linResponse n id (data.take (s.dev.linLen n id)) →
          Completes (.linResponseRx n data sum) s fun t => (t.dev.linCh n).wait = none ∧
            (t.dev.linCh n).rx = (s.dev.linCh n).rx ++
              [({ kind := 4, id := id, data := data.take (s.dev.linLen n id) }, t0 - t0 % 4096)] ∧ t.bench = s.bench ∧
            t.vault = s.vault) ∧
        ((data ++ [sum]).take (s.dev.linLen n id + 1) ≠ s.dev.linResponse n id (data.take (s.dev.linLen n id)) →
          Completes (.linResponseRx n data sum) s fun t => (t.dev.linCh n).wait = none ∧
            (t.dev.linCh n).rx = (s.dev.linCh n).rx ∧ SameBut (C.LIN_CSUM_ERR n).touches s t)) ∧
      Completes (.linNoResp n) s fun t => (t.dev.linCh n).wait = none ∧ (t.dev.linCh n).rx = (s.dev.linCh n).rx ∧
        SameBut (C.LIN_NO_RESP n).touches s t) ∧
    (∀ n < 8, (s.dev.linState n = 1 → s.dev.linCmd n = false →
        (s.dev.legRuns = true → Completes (.linSleepCmdRx n) s fun t =>
          t.dev.linState n = (if (s.dev.linCh n).diag = some true then 3 else 2) ∧ SameBut [R.LIN_STAT n] s t) ∧
        Completes (.linIdleTimeout n) s fun t => t.dev.linState n = 2 ∧ t.dev.out = s.dev.out ∧ SameBut [R.LIN_STAT n] s t) ∧
      (s.dev.linState n = 3 → Completes (.linWakingDone n) s fun t => t.dev.linState n = 1 ∧ (t.dev.linCh n).pos = 0 ∧
        SameBut [R.LIN_STAT n] s t)) ∧
    (∀ (r : Req) (n v : Nat), n < 4 → Accepts s r (R.SER_CTRL n) →
      (s.dev.bit (R.SER_CTRL n) 0 = false → v.testBit 0 = true →
        (256 ≤ s.dev.fld (R.SER_RATE n) 23 0 → s.dev.fld (R.SER_RATE n) 23 0 ≤ 2133333 → Completes (.serEnWrite r n v) s fun t =>
          t.dev.serState n = 1 ∧ t.dev.rd (R.SER_CTRL n) = (v &&& 0x03FF0036) + 1 ∧
          SameBut ([R.SER_CTRL n, R.SER_STAT n] ++ C.PAIR_JRNL_OVF.touches) s t) ∧
        ((s.dev.fld (R.SER_RATE n) 23 0 < 256 ∨ 2133333 < s.dev.fld (R.SER_RATE n) 23 0) → Completes (.serEnWrite r n v) s fun t =>
          t.dev.bit (R.SER_CTRL n) 0 = false ∧ t.dev.bit (R.SER_STAT n) 9 = true ∧ t.dev.bit (serPage n + 0x14) 0 = true ∧
          SameBut ([R.SER_CTRL n, R.SER_STAT n, serPage n + 0x14] ++ C.PAIR_JRNL_OVF.touches) s t)) ∧
      (v.testBit 0 = false → Completes (.serEnWrite r n v) s fun t => t.dev.serState n = 0 ∧ t.dev.bit (R.SER_CTRL n) 0 = false ∧
        t.bench = s.bench ∧ t.vault = s.vault)) ∧
    (∀ n < 4, s.dev.legRuns = true →
      (∀ bytes ago, (s.dev.serState n = 1 ∨ s.dev.serState n = 2) → s.dev.headsStopped = false → bytes ≠ [] → bytes.length ≤ 1024 →
        Completes (.serFrameRx n bytes 0 ago) s fun t => (t.dev.serCh n).rx = (s.dev.serCh n).rx ++
          [({ kind := 5, data := s.dev.serBits n bytes }, (s.dev.time.frc - ago) - (s.dev.time.frc - ago) % 4096)] ∧ t.dev.serState n = 1 ∧ t.bench = s.bench ∧ t.vault = s.vault) ∧
      (s.dev.serState n = 1 → (s.dev.serCh n).queue ≠ [] → s.dev.legDrives (32 + n) = true →
        (Completes (.serTxStart n false) s fun t => t.dev.serState n = 3 ∧ SameBut [R.SER_STAT n] s t) ∧
        Completes (.serTxStart n true) s fun t => t.dev.serState n = 2 ∧ SameBut (R.SER_STAT n :: (C.SER_DEFER n).touches) s t) ∧
      (∀ f rest, s.dev.serState n = 3 → (s.dev.serCh n).queue = f :: rest →
        (Completes (.serTxDone n none) s fun t => t.dev.serState n = 1 ∧ (t.dev.serCh n).queue = rest ∧
          t.dev.out = s.dev.out ++ [.leg (32 + n) (s.dev.serFormat n) (s.dev.serBits n f.data)] ∧ t.bench = s.bench ∧ t.vault = s.vault) ∧
        ∀ k, Completes (.serTxDone n (some k)) s fun t => t.dev.serState n = 1 ∧ (t.dev.serCh n).queue = rest ∧
          t.dev.out = s.dev.out ++ [.leg (32 + n) (s.dev.serFormat n) (s.dev.serBits n (f.data.take (k + 1)))] ∧ SameBut (R.SER_STAT n :: (C.SER_COLL n).touches) s t)) ∧
    (s.dev.pwr.lineSafe = false →
      (∀ n < 24, ∀ reason f, 0 < reason → reason < 4 → s.dev.pwr.phase = .active → s.dev.bit R.PWR_STAT 27 = false → s.dev.canState n = 7 →
        s.dev.swkWakes n reason f = true → Completes (.canWakeDetect n reason f) s fun t =>
          t.dev.canState n = 1 ∧ t.dev.fld (R.CAN_SWK_STAT n) 31 28 = reason ∧ t.dev.bit (canPage n + 0x14) 3 = true ∧
          t.dev.pwr.phase = .active ∧ t.bench = s.bench ∧ t.vault = s.vault) ∧
      (∀ n < 8, s.dev.pwr.phase = .active → s.dev.bit R.PWR_STAT 27 = false → s.dev.linState n = 2 → Completes (.linWoke n) s fun t =>
        t.dev.linState n = (if s.dev.linCmd n then 3 else 1) ∧ t.dev.bit (linPage n + 0x14) 1 = true ∧
        SameBut [R.LIN_STAT n, linPage n + 0x14] s t) ∧
      (∀ n < 4, s.dev.pwr.phase = .rest → s.dev.wakeOn 3 n = true → Completes (.serWakeActivity n) s fun t =>
        t.dev.pwr.phase = .restExit ∧ t.dev.fld R.PWR_STAT 31 28 = 3 ∧ t.bench = s.bench ∧ t.vault = s.vault)) ∧
    (∀ (c : Nat) (f : LegFrame) (t0 : Nat) (d : Dev), s.dev.pwr.phase = .active → s.dev.pwr.xtalOk = true → (∀ n < 24, (s.dev.canCh n).secRx = []) →
      s.dev.nextLeg = some c →
      s.dev.takeLeg c = (some (f, t0), d) → (cellsOf (16 + f.data.length) : Int) ≤ d.freeCells → (∀ k < 4, (d.spnQ k).length < 448) →
      Completes .gwyEnterFrame s fun t => t.dev.gwy.last = c ∧ (t.dev.frame d.ck.nextId).bytes = legHeader c false f ++ f.data ∧
        (t.dev.frame d.ck.nextId).arrival = true ∧ (t.dev.frame d.ck.nextId).inPort = 34 ∧ t.bench = s.bench ∧ t.vault = s.vault) ∧
    (∀ (c : Copy) (d : Dev) (info : Nat), s.dev.takeCopy 34 = (some c, d) → c.q / 8 = 34 → (∀ n < 24, (s.dev.canCh n).secTx = []) →
      (32 ≤ c.dest → c.dest < 36 → (d.serCh (c.dest - 32)).queue.length < 16 → Completes (.gwyCopyIn 0 info) s fun t =>
        (t.dev.serCh (c.dest - 32)).queue = (d.serCh (c.dest - 32)).queue ++ [legFrame (d.frame c.frame).bytes] ∧ t.bench = s.bench ∧
        t.vault = s.vault) ∧
      (c.dest < 24 → d.bufFor c.dest (legFrame (d.frame c.frame).bytes) = none → d.canFormat c.dest (legFrame (d.frame c.frame).bytes).kind = true →
        d.poolUsedCan c.dest < 32 → d.fld (R.CAN_SEC c.dest) 1 0 = 0 → Completes (.gwyCopyIn 0 info) s fun t =>
        ∃ e, (t.dev.canCh c.dest).pool = (d.canCh c.dest).pool ++ [e] ∧ e.fr = legFrame (d.frame c.frame).bytes ∧
          t.bench = s.bench ∧ t.vault = s.vault)) ∧
    (∀ p, (smGet (fun _ => []) s.dev.gwy.open_ p = [] → exec (.gwyBatchTimeout p) s = .next s) ∧
      (smGet (fun _ => []) s.dev.gwy.open_ p ≠ [] →
        s.dev.passed (smGet (fun _ => 0) s.dev.gwy.openAt p) (s.dev.tfld T.gwyProf p 0 15 0 * 1000) = true → Completes (.gwyBatchTimeout p) s fun t =>
        smGet (fun _ => []) t.dev.gwy.open_ p = [] ∧ smGet (fun _ => 0) t.dev.gwy.seq p = (smGet (fun _ => 0) s.dev.gwy.seq p + 1) % 256 ∧
        t.bench = s.bench ∧ t.vault = s.vault))


/-- R123 to R125, R131 to R139, R300, R346: the link states of a port and what moves them, energy-efficient Ethernet, TC10, cable
diagnostics and MDIO, and a frame that enters from the line or leaves on it. -/
def Obligations.EthernetPorts : Prop :=
  ∀ (n : Nat) (s : State), n < 32 →
    (∀ (r : Req) (v : Nat), Accepts s r (R.ETH_CTRL n) →
      (v.testBit 0 = true → v.testBit 4 = false → s.dev.bit (R.ETH_CTRL n) 0 = false →
        (modeValid n (s.dev.ethMode n) = true → s.dev.portState n = 0 → s.dev.pwr.phase = .active → s.dev.pwr.step ≠ 2 →
          Completes (.portEnWrite r n v) s fun t => t.dev.portState n = 1 ∧ t.dev.rd (R.ETH_CTRL n) = v % 16 ∧ t.bench = s.bench ∧
            t.vault = s.vault) ∧
        (modeValid n (s.dev.ethMode n) = false → Completes (.portEnWrite r n v) s fun t => t.dev.portState n = s.dev.portState n ∧
          t.dev.rd (R.ETH_CTRL n) = v % 16 ∧ t.dev.bit (R.ETH_STAT n) 8 = true ∧ t.dev.bit (ethPage n + 0x14) 2 = true ∧
          SameBut ([R.ETH_CTRL n, R.ETH_STAT n, ethPage n + 0x14] ++ C.PAIR_JRNL_OVF.touches) s t)) ∧
      (v.testBit 0 = false → v.testBit 4 = false → Completes (.portEnWrite r n v) s fun t =>
        t.dev.portState n = 0 ∧ t.dev.rd (R.ETH_CTRL n) = v % 16 ∧ t.bench = s.bench ∧ t.vault = s.vault) ∧
      (s.dev.bit (R.ETH_CTRL n) 0 = true →
        (4 ≤ n → s.dev.portState n = 1 → Completes (.diagStart r n) s fun t => t.dev.portState n = 5 ∧ t.bench = s.bench ∧
          t.vault = s.vault) ∧
        ((n < 4 ∨ s.dev.portState n ≠ 1) → Completes (.diagStart r n) s fun t => t.dev.rd (R.ETH_DIAG n) = 0 ∧
          t.dev.bit (ethPage n + 0x14) 3 = true ∧ t.dev.portState n = s.dev.portState n ∧ t.bench = s.bench ∧ t.vault = s.vault))) ∧
    (∀ result dist, s.dev.portState n = 5 → Completes (.diagDone n result dist) s fun t => t.dev.portState n = 1 ∧
      t.dev.rd (R.ETH_DIAG n) = result % 5 * 2 ^ 28 + (if result = 2 ∨ result = 3 then dist % 65536 else 0) ∧
      t.dev.bit (ethPage n + 0x14) 3 = true ∧ t.bench = s.bench ∧ t.vault = s.vault) ∧
    (∀ (r : Req) (v : Nat), Accepts s r (R.ETH_MODE n) →
      (s.dev.bit (R.ETH_CTRL n) 0 = true → Completes (.ethModeWrite r n v) s fun t => t.dev.bit (R.ETH_STAT n) 8 = true ∧
        t.dev.bit (ethPage n + 0x14) 2 = true ∧ SameBut ([R.ETH_STAT n, ethPage n + 0x14] ++ C.PAIR_JRNL_OVF.touches) s t) ∧
      (s.dev.bit (R.ETH_CTRL n) 0 = false → Completes (.ethModeWrite r n v) s fun t => t.dev.ethMode n = bitsOf v 15 12 ∧
        SameBut (R.ETH_MODE n :: C.PAIR_JRNL_OVF.touches) s t)) ∧
    (∀ inband align sqi plca, s.dev.portState n = 1 → (4 ≤ n ∨ s.dev.bit (R.ETH_MDIO_CFG n) 0 = false ∨ s.dev.bit (R.ETH_STAT n) 4 = true) →
      Completes (.linkUp n inband align sqi plca) s fun t => t.dev.portState n = 2 ∧ t.dev.fld (R.ETH_STAT n) 18 16 = s.dev.upRate n inband ∧
        t.dev.bit (ethPage n + 0x14) 0 = true ∧ t.bench = s.bench ∧ t.vault = s.vault) ∧
    ((s.dev.portState n = 2 ∨ s.dev.portState n = 3) → ∀ fault, Completes (.linkDown n fault) s fun t => t.dev.portState n = 1 ∧
      t.dev.bit (ethPage n + 0x14) 1 = true ∧ t.dev.bit (R.ETH_STAT n) 3 = (fault && decide (n < 28)) ∧ t.bench = s.bench ∧
      t.vault = s.vault) ∧
    (∀ rate, n < 4 → (s.dev.ethMode n = 0xA ∨ s.dev.ethMode n = 0xB) → s.dev.bit (R.ETH_MODE n) 8 = true → s.dev.portState n = 2 →
      s.dev.fld (R.ETH_STAT n) 18 16 ≠ s.dev.upRate n rate → Completes (.inbandRateChange n rate) s fun t => t.dev.portState n = 1 ∧
        t.bench = s.bench ∧ t.vault = s.vault) ∧
    (s.dev.portUp n = true → s.dev.eeeMode n = true → s.dev.bit (R.ETH_EEE n) 31 = true →
      (Completes (.lpiEntry n true) s fun t => t.dev.bit (R.ETH_STAT n) 5 = true ∧ SameBut [R.ETH_STAT n] s t) ∧
      (s.dev.bit (R.ETH_STAT n) 6 = false → s.dev.portIdle n = true → Completes (.lpiEntry n false) s fun t =>
        t.dev.bit (R.ETH_STAT n) 6 = true ∧ (∀ o, o ≠ R.ETH_STAT n → t.dev.rd o = s.dev.rd o) ∧ t.bench = s.bench ∧ t.vault = s.vault)) ∧
    (Completes (.lpiExitDone n true) s fun t => t.dev.bit (R.ETH_STAT n) 5 = false ∧
      (∀ o, o ≠ R.ETH_STAT n → t.dev.rd o = s.dev.rd o) ∧ t.bench = s.bench ∧ t.vault = s.vault) ∧
    (s.dev.bit (R.ETH_STAT n) 6 = true → s.dev.portIdle n = false → Completes (.lpiExitDone n false) s fun t =>
      t.dev.bit (R.ETH_STAT n) 6 = false ∧ t.bench = s.bench ∧ t.vault = s.vault) ∧
    (∀ r : Req, 12 ≤ n → n < 28 → Accepts s r (R.ETH_TC10 n) →
      (s.dev.bit (R.ETH_TC10 n) 1 = false → s.dev.portState n = 2 → Completes (.sleepReq r n) s fun t => t.dev.portState n = 3 ∧
        SameBut ([R.ETH_STAT n, R.ETH_TC10 n] ++ C.PAIR_JRNL_OVF.touches) s t) ∧
      (∀ both, s.dev.portState n = 4 → Completes (.wakeReq r n both) s fun t => t.dev.portState n = 1 ∧
        t.dev.out = s.dev.out ++ [.pins "TC10_WUP" [n]] ∧ t.bench = s.bench ∧ t.vault = s.vault) ∧
      (∀ both, s.dev.portState n = 3 → Completes (.wakeReq r n both) s fun t => t.dev.portState n = 2 ∧ t.dev.out = s.dev.out ∧
        t.bench = s.bench ∧ t.vault = s.vault)) ∧
    (s.dev.portState n = 3 →
      (Completes (.tc10Slept n) s fun t => t.dev.portState n = 4 ∧ t.dev.bit (ethPage n + 0x14) 4 = true ∧ t.bench = s.bench ∧
        t.vault = s.vault) ∧
      Completes (.tc10Fail n) s fun t => t.dev.portState n = (if s.dev.pwr.phase = .sleepEntry then 4 else 2) ∧
        t.dev.bit (R.ETH_STAT n) 9 = true ∧ t.dev.bit (ethPage n + 0x14) 6 = true ∧ t.bench = s.bench ∧ t.vault = s.vault) ∧
    (12 ≤ n → n < 28 →
      ((s.dev.portState n = 2 ∨ s.dev.portState n = 3) → s.dev.bit (R.ETH_TC10 n) 4 = true → Completes (.tc10RemoteSleep n) s fun t =>
        t.dev.portState n = 4 ∧ t.dev.bit (ethPage n + 0x14) 4 = true ∧ t.bench = s.bench ∧ t.vault = s.vault) ∧
      (s.dev.portState n = 4 → s.dev.pwr.phase = .active → s.dev.bit R.PWR_STAT 27 = false → Completes (.tc10Woke n) s fun t =>
        t.dev.portState n = 1 ∧ t.dev.bit (ethPage n + 0x14) 5 = true ∧ t.bench = s.bench ∧ t.vault = s.vault)) ∧
    (∀ (r : Req) (addr : Nat), n < 4 → Accepts s r (R.ETH_MDIO_CMD n) →
      (s.dev.bit (R.ETH_MDIO_CMD n) 31 = false →
        (Completes (.mdioWrite r n addr) s fun t => MdioQueued n false addr s t) ∧
        Completes (.mdioRead r n addr) s fun t => MdioQueued n true addr s t) ∧
      (s.dev.bit (R.ETH_MDIO_CMD n) 31 = true →
        (Completes (.mdioWrite r n addr) s fun t => MdioOverlap n s t) ∧
        Completes (.mdioRead r n addr) s fun t => MdioOverlap n s t)) ∧
    (∀ c rest resp, s.dev.mdio = c :: rest → c.port = n → n < 4 → Completes (.mdioDone resp) s fun t => t.dev.mdio = rest ∧
      t.dev.bit (R.ETH_MDIO_CMD n) 31 = false ∧ t.dev.bit (ethPage n + 0x14) 7 = true ∧
      (c.read = true → t.dev.rd (R.ETH_MDIO_DATA n) = resp.getD 0xFFFF % 65536 ∧ (resp = none → t.dev.bit (R.ETH_MDIO_CMD n) 30 = true)) ∧
      t.dev.out = s.dev.out ++ [.pins "MDIO" [n, if c.read then 1 else 0, c.addr, c.data]] ∧
      SameBut [R.ETH_MDIO_CMD n, R.ETH_MDIO_DATA n, ethPage n + 0x14] s t) ∧
    (∀ status, n < 4 → s.dev.bit (R.ETH_MDIO_CFG n) 0 = true → s.dev.portState n ≠ 0 →
      (status.testBit 2 = true → Completes (.mdioPoll n status) s fun t => t.dev.bit (R.ETH_STAT n) 4 = true ∧
        t.dev.portState n = s.dev.portState n ∧ SameBut [R.ETH_STAT n] s t) ∧
      (status.testBit 2 = false → s.dev.portState n = 2 → Completes (.mdioPoll n status) s fun t => t.dev.portState n = 1 ∧
        t.bench = s.bench ∧ t.vault = s.vault)) ∧
    (∀ (bytes : List Byte) (sub : Nat) (obs : LineObs), s.dev.portUp n = true → s.dev.fld (R.ETH_CTRL n) 3 2 ≠ 1 → s.dev.wireOf n = none →
      s.dev.ck.deaf.contains n = false →
      (s.dev.arrivingOf n = none → (n ≠ 3 ∨ s.dev.epmelOn = false) → Completes (.ethFrameRx n bytes false false sub obs) s fun t => t.dev.ck.frames = s.dev.ck.frames ∧
        t.bench = s.bench ∧ t.vault = s.vault) ∧
      (s.dev.arrivingOf n = none → s.dev.pwr.phase = .active → s.dev.pwr.keeper = false → (n ≠ 3 ∨ s.dev.epmelOn = false) →
        s.dev.pairPort n = false → (28 ≤ n ∨ s.dev.tfld T.secy n 0 30 30 = 0) → etype12 bytes ≠ 0x8808 → 60 ≤ bytes.length →
        bytes.length + 4 ≤ s.dev.fld (R.ETH_MAX_FRAME n) 15 0 → (cellsOf (bytes.length + 4) : Int) ≤ s.dev.freeCells →
        (∀ k < 4, (s.dev.spnQ k).length < 448) → Completes (.ethFrameRx n bytes true false sub obs) s fun t =>
          (t.dev.frame s.dev.ck.nextId).bytes = bytes ∧ (t.dev.frame s.dev.ck.nextId).inPort = n ∧
          (t.dev.frame s.dev.ck.nextId).arrival = true ∧ t.vault = s.vault)) ∧
    (∀ sent info, s.dev.portUp n = true → s.dev.bit (R.ETH_STAT n) 6 = false → s.dev.txOf n = none → s.dev.heldTx n = none →
      s.dev.pwr.xtalOk = true →
      (∀ d, s.dev.txPick n = (none, d) → Completes (.txSelect n sent 0 info) s fun t => t.dev = d) ∧
      (∀ k d c rest, s.dev.txPick n = (some k, d) → (d.qst (8 * n + k)).sram = c :: rest → c.q = 8 * n + k →
        Completes (.txSelect n sent 0 info) s fun t => (t.dev.qst (8 * n + k)).sram = rest ∧ t.bench = s.bench ∧ t.vault = s.vault)) ∧
    (∀ x tap, s.dev.txOf n = some x → (s.dev.frame x.copy.frame).more = false → x.copy.ct = false → s.dev.fld (R.ETH_CTRL n) 3 2 ≠ 1 →
      Completes (.ethTxDone n tap false) s fun t => t.dev.txOf n = none ∧ t.dev.out = s.dev.out ++ [.eth n (padded x.bytes ++ fcsOf (padded x.bytes))] ∧ t.bench = s.bench ∧
        t.vault = s.vault)


/-- R417 to R432, R434, R361: the states of a ring and what moves them, its registers, the moderation of a pair, the endpoint's
environment, and the frames that the rings, the drain and the Headstock's port hand over. -/
def Obligations.HostRings : Prop :=
  ∀ s : State,
    (∀ (r : Req) (k : Nat), k < 128 → PairAccepts s r (k % 64) (ringReg k 0x14) →
      (s.dev.ringState k = 3 → s.dev.epOk (s.dev.ringEp k) = true → Completes (.start r k) s fun t => t.dev.ringState k = 1 ∧
        SameBut (ringStat k :: C.PAIR_JRNL_OVF.touches) s t) ∧
      (s.dev.ringState k = 3 → s.dev.epOk (s.dev.ringEp k) = false → Completes (.start r k) s fun t => t.dev.ringState k = 3 ∧
        t.dev.bit (ringStat k) 3 = true ∧ SameBut (ringStat k :: C.PAIR_JRNL_OVF.touches) s t) ∧
      (s.dev.ringState k = 1 →
        (Completes (.stop r k false) s fun t => (t.dev.ring k).latch = s.dev.fld (ringTail k) 15 0 ∧
          t.dev.ringState k = (if (if k < 64 then (s.dev.ring k).job.isNone
            else s.dev.headOf k == s.dev.fld (ringTail k) 15 0) then 3 else 2) ∧
          (t.dev.ring k).job = (s.dev.ring k).job ∧ SameBut ([ringStat k, 0x40014] ++ C.PAIR_JRNL_OVF.touches) s t) ∧
        Completes (.stop r k true) s fun t => t.dev.ringState k = 1 ∧ t.dev.fld (ringStat k) 23 16 = 5 ∧
          SameBut (ringStat k :: C.PAIR_JRNL_OVF.touches) s t) ∧
      (s.dev.ringState k = 2 → s.dev.ringAtPoint k = false → Completes (.abort r k) s fun t => t.dev.ringState k = 1 ∧
        t.dev.fld (ringStat k) 23 16 = 5 ∧ t.dev.fld (ringStat k) 15 8 = 0 ∧ SameBut (ringStat k :: C.PAIR_JRNL_OVF.touches) s t) ∧
      ((s.dev.ringState k = 0 ∨ s.dev.ringState k = 3 ∨ s.dev.ringState k = 4) → Completes (.abort r k) s fun t =>
        t.dev.ringState k = s.dev.ringState k ∧ t.dev.fld (ringStat k) 15 8 = 0x0B ∧ SameBut (ringStat k :: C.PAIR_JRNL_OVF.touches) s t) ∧
      ((s.dev.ringState k = 1 ∨ s.dev.ringState k = 2) → Completes (.force r k) s fun t => t.dev.ringState k = 3 ∧
        (t.dev.ring k).job = none ∧ t.bench = s.bench ∧ t.vault = s.vault)) ∧
    (∀ (r : Req) (k v : Nat), k < 128 → PairAccepts s r (k % 64) (ringCfg k) →
      (s.dev.bit (ringCfg k) 31 = false → v.testBit 31 = true →
        (4 ≤ bitsOf v 20 16 → bitsOf v 20 16 ≤ 16 → s.dev.rd (ringReg k 0) % 128 = 0 → s.dev.epOk (s.dev.ringEp k) = true →
          Completes (.ringEnWrite r k v) s fun t => t.dev.ringState k = 1 ∧ t.dev.rd (ringHead k) = 2 ^ 16 ∧ t.dev.rd (ringTail k) = 0 ∧
            t.dev.rd (ringCfg k) = (v &&& 0x01000700) + bitsOf v 20 16 * 2 ^ 16 + 2 ^ 31 ∧ t.dev.ring k = {} ∧ t.bench = s.bench ∧
            t.vault = s.vault) ∧
        ((bitsOf v 20 16 < 4 ∨ 16 < bitsOf v 20 16 ∨ s.dev.rd (ringReg k 0) % 128 ≠ 0 ∨ s.dev.epOk (s.dev.ringEp k) = false) →
          Completes (.ringEnWrite r k v) s fun t => t.dev.bit (ringCfg k) 31 = false ∧ t.dev.bit (ringStat k) 3 = true ∧
            SameBut ([ringCfg k, ringStat k] ++ C.PAIR_JRNL_OVF.touches) s t)) ∧
      (v.testBit 31 = false → Completes (.ringEnWrite r k v) s fun t => t.dev.ringState k = 0 ∧ t.dev.bit (ringCfg k) 31 = false ∧
        t.bench = s.bench ∧ t.vault = s.vault)) ∧
    (∀ (r : Req) (k v : Nat), k < 128 → PairAccepts s r (k % 64) (ringTail k) →
      (s.dev.ringSize k ≤ v % 65536 → Completes (.ringTailWrite r k v) s fun t => t.dev.bit (ringStat k) 1 = true ∧
        SameBut (ringStat k :: C.PAIR_JRNL_OVF.touches) s t) ∧
      (v % 65536 < s.dev.ringSize k → Completes (.ringTailWrite r k v) s fun t => t.dev.rd (ringTail k) = v % 65536 ∧
        SameBut (ringTail k :: C.PAIR_JRNL_OVF.touches) s t)) ∧
    (∀ (r : Req) (n v : Nat), n < 64 → PairAccepts s r n (R.RP_CFG n) →
      (bitsOf v 30 30 = s.dev.fld (R.RP_CFG n) 30 30 → Completes (.rpCfgWrite r n v) s fun t =>
        t.dev.rd (R.RP_CFG n) = (v &&& 0x003FFF03) + bitsOf v 30 30 * 2 ^ 30 ∧ SameBut (R.RP_CFG n :: C.PAIR_JRNL_OVF.touches) s t) ∧
      (bitsOf v 30 30 ≠ s.dev.fld (R.RP_CFG n) 30 30 → r = .hst → s.dev.ringState n = 0 → s.dev.ringState (64 + n) = 0 →
        Completes (.rpCfgWrite r n v) s fun t => t.dev.rd (R.RP_CFG n) = (v &&& 0x003FFF03) + bitsOf v 30 30 * 2 ^ 30 ∧
          SameBut (R.RP_CFG n :: C.PAIR_JRNL_OVF.touches) s t) ∧
      (bitsOf v 30 30 ≠ s.dev.fld (R.RP_CFG n) 30 30 → r ≠ .hst → Completes (.rpCfgWrite r n v) s fun t =>
        t.dev.fld (R.RP_CFG n) 30 30 = s.dev.fld (R.RP_CFG n) 30 30 ∧ t.dev.bit (ringStat n) 3 = true ∧
        t.dev.bit (ringStat (64 + n)) 3 = true ∧ SameBut ([R.RP_CFG n, ringStat n, ringStat (64 + n)] ++ C.PAIR_JRNL_OVF.touches) s t)) ∧
    (∀ n < 64, (smGet (fun _ => ({} : ModSt)) s.dev.hif.mods n).run = true →
      s.dev.passed (smGet (fun _ => ({} : ModSt)) s.dev.hif.mods n).since (s.dev.fld (R.RP_MOD n) 15 0 * 1000) = true →
      Completes (.modHoldoffExpiry n) s fun t =>
      smGet (fun _ => ({} : ModSt)) t.dev.hif.mods n = {} ∧
      t.dev.bit (R.RP_IRQ n) 0 = (s.dev.bit (R.RP_IRQ n) 0 || (smGet (fun _ => ({} : ModSt)) s.dev.hif.mods n).rx) ∧
      t.dev.bit (R.RP_IRQ n) 1 = (s.dev.bit (R.RP_IRQ n) 1 || (smGet (fun _ => ({} : ModSt)) s.dev.hif.mods n).tx) ∧
      SameBut [R.RP_IRQ n] s t) ∧
    (∀ k < 128, s.dev.ringAtPoint k = true → Completes (.ringStopped k) s fun t => t.dev.ringState k = 3 ∧
      t.dev.fld (ringStat k) 23 16 = 0 ∧ t.dev.bit 0x40014 3 = true ∧ SameBut [ringStat k, 0x40014] s t) ∧
    (∀ k < 128, ∀ canWrite, (s.dev.ringState k = 1 ∨ s.dev.ringState k = 2) → Completes (.dmaErr k canWrite) s fun t =>
      t.dev.ringState k = 4 ∧ t.dev.bit (ringStat k) 2 = true ∧ t.dev.bit 0x40014 2 = true ∧ (t.dev.ring k).job = none ∧
      t.bench = s.bench ∧ t.vault = s.vault) ∧
    (∀ e < 2, ∀ env : EpEnv, Completes (.pcieLinkChange e env) s fun t =>
      t.dev.ep e = (if s.dev.perst e then env else { env with link := 0 }) ∧
      t.dev.fld (if e = 0 then R.HIF_EPSTAT_A else R.HIF_EPSTAT_B) 31 28 = (if s.dev.perst e then env.link % 16 else 0) ∧
      t.bench = s.bench ∧ t.vault = s.vault) ∧
    (∀ (e k : Nat) (v : RingView) (ds : List (List Nat)), e < 2 → s.dev.dmaOk e = true → s.dev.pwr.phase = .active → 64 ≤ k → k < 128 →
      v.ring = k → s.dev.ringEp k = e → s.dev.txFrame k v = some ds →
      (txGood ds = true → Completes (.hifTxFetch e [v]) s fun t =>
        (t.dev.ring k).job = some { descs := ds, data := takePad (ds.foldl (fun n d => n + descW d 2 % 16384) 0) v.data } ∧ SameBut [] s t) ∧
      (txGood ds = false → Completes (.hifTxFetch e [v]) s fun t => (t.dev.ring k).job = none ∧
        t.dev.out.length = s.dev.out.length + ds.length ∧ t.bench = s.bench ∧ t.vault = s.vault)) ∧
    (∀ (k : Nat) (j : RingJob), 64 ≤ k → k < 128 → (s.dev.ring k).job = some j → s.dev.bit R.BOOT_STRAP 2 = false → s.dev.pwr.phase = .active →
      (cellsOf (j.data.length + 4) : Int) ≤ s.dev.freeCells → (∀ i < 4, (s.dev.spnQ i).length < 448) → Completes (.hifTxComplete k) s fun t =>
        (t.dev.ring k).job = none ∧ (t.dev.frame s.dev.ck.nextId).bytes = j.data ∧
        (t.dev.frame s.dev.ck.nextId).inPort = 32 + s.dev.ringEp k ∧ t.dev.out.length = s.dev.out.length + j.descs.length ∧
        t.bench = s.bench ∧ t.vault = s.vault) ∧
    (∀ (e ecc info : Nat) (part : Bool) (views : List RingView), e < 2 →
      (∀ k j, s.dev.rxOpen e = some k → s.dev.dmaOk e = true → (s.dev.ring k).job = some j → Completes (.hifRxDeliver e ecc info part views) s fun t =>
        (t.dev.ring k).job = none ∧ t.bench = s.bench ∧ t.vault = s.vault) ∧
      (s.dev.rxOpen e = none → (∀ c < 8, (s.dev.qst (8 * (32 + e) + c)).sram = []) → exec (.hifRxDeliver e ecc info part views) s = .next s)) ∧
    (s.dev.bit R.CAP_DRAIN 31 = true → s.dev.rd R.CAP_RECS ≠ 0 → s.dev.bit R.DRAM_STAT 1 = false →
      (∀ word descs, Completes (.capDrainDeliver 2 word descs) s fun t => t.dev.rd R.CAP_RECS = s.dev.rd R.CAP_RECS - 1 ∧
        t.dev.bit 0x118014 0 = true ∧ t.dev.out = s.dev.out ∧ t.bench = s.bench ∧ t.vault = s.vault) ∧
      (∀ word descs l k, k = s.dev.fld R.CAP_DRAIN 5 0 → s.dev.ringEp k = s.dev.fld R.CAP_DRAIN 16 16 → s.dev.ringState k = 1 →
        (s.dev.ring k).job = none → s.dev.dmaOk (s.dev.fld R.CAP_DRAIN 16 16) = true →
        rxPlan s.dev.capBytes.length (descs.take (s.dev.posted k (s.dev.fld (ringTail k) 15 0))) = some l →
        Completes (.capDrainDeliver 0 word descs) s fun t => t.dev.rd R.CAP_RECS = s.dev.rd R.CAP_RECS - 1 ∧ (t.dev.ring k).job = none ∧
          t.bench = s.bench ∧ t.vault = s.vault)) ∧
    (s.dev.fld R.HST_STAT 31 28 = 0 →
      (∀ c d info, s.dev.takeCopy 35 = (some c, d) → Completes (.hstCopyTake 0 info) s fun t => t.dev = d.handedOver c ∧
        t.bench = s.bench ∧ t.vault = s.vault) ∧
      (∀ (bytes : List Byte) (tc tsr td tag ref : Nat), s.dev.pwr.phase = .active → 14 ≤ bytes.length → bytes.length ≤ 9212 →
        (cellsOf (bytes.length + 4) : Int) ≤ s.dev.freeCells → (∀ i < 4, (s.dev.spnQ i).length < 448) →
        Completes (.hstFrameSend bytes tc tsr td tag ref) s fun t => (t.dev.frame s.dev.ck.nextId).bytes = bytes ∧
          (t.dev.frame s.dev.ck.nextId).inPort = 35 ∧ (t.dev.frame s.dev.ck.nextId).tc = tc % 8 ∧ t.bench = s.bench ∧ t.vault = s.vault))


/-- R369, R372 to R376, R387 to R391, R393, R395: live reads hold a group and XSNAP latches all; a rate, a step, an enable and an
adjustment change their domain alone; pulse outputs arm, pulse and disarm; captures and stamps queue and are read oldest first; the
keeper numbers its messages and takes trapped frames in order. The limit of the rate is the model's reading of R372 (log 100). -/
def Obligations.TimeDomainsPulsesAndCaptures : Prop :=
  ∀ s : State,
    (∀ r : Req, s.dev.reach r (R.TIME_FRC 0) = true → Completes (.timeFrc0Read r) s fun t =>
      t.dev.rdata.toNat = s.dev.time.frc % 2 ^ 32 ∧ t.dev.heldAs r (R.TIME_FRC 1) = s.dev.time.frc / 2 ^ 32 % 2 ^ 32 ∧
      t.dev.heldAs r (R.TIME_FRC 2) = s.dev.time.frc / 2 ^ 64 % 2 ^ 32 ∧ SameBut [] s t) ∧
    (∀ (r : Req) (k : Nat), k < 8 → s.dev.reach r (R.TD_S_LO k) = true → Completes (.tdSLoRead r k) s fun t =>
      t.dev.rdata.toNat = (s.dev.dom k).t / 2 ^ 64 / 10 ^ 9 % 2 ^ 32 ∧
      t.dev.heldAs r (R.TD_S_HI k) = (s.dev.dom k).t / 2 ^ 64 / 10 ^ 9 / 2 ^ 32 % 2 ^ 32 ∧
      t.dev.heldAs r (R.TD_NS k) = (s.dev.dom k).t / 2 ^ 64 % 10 ^ 9 ∧ t.dev.heldAs r (R.TD_FRAC k) = (s.dev.dom k).t / 2 ^ 48 % 65536 ∧
      SameBut [] s t) ∧
    (∀ r : Req, Accepts s r R.TIME_CTRL → Completes (.xsnap r) s fun t =>
      (∀ i < 3, t.dev.rd (R.TIME_XS_FRC i) = s.dev.time.frc / 2 ^ (32 * i) % 2 ^ 32) ∧
      (∀ k < 8, t.dev.rd (R.TD_XS_NS k) = (s.dev.dom k).t / 2 ^ 64 % 10 ^ 9 ∧
        t.dev.rd (R.TD_XS_S_LO k) = (s.dev.dom k).t / 2 ^ 64 / 10 ^ 9 % 2 ^ 32) ∧
      t.dev.bit 0x10014 8 = true ∧ t.dev.time = s.dev.time ∧ t.bench = s.bench ∧ t.vault = s.vault) ∧
    (∀ (r : Req) (k v : Nat), k < 8 → Accepts s r (R.TD_RATE_HI k) →
      (s.dev.steered k = true → Completes (.tdRateHiWrite r k v) s fun t => t.dev.time = s.dev.time ∧
        SameBut (C.PAIR_TIME_WR_REFUSED.touches ++ C.PAIR_JRNL_OVF.touches) s t) ∧
      (∀ rate : Int, s.dev.steered k = false → rate = sgn 48 (v % 65536 * 2 ^ 32 + s.dev.rd (R.TD_RATE_LO k)) →
        Completes (.tdRateHiWrite r k v) s fun t =>
          (t.dev.dom k).rate = clampInt (-rateMax) rateMax rate ∧ (t.dev.dom k).t = (s.dev.dom k).t ∧
          (t.dev.dom k).rem = (s.dev.dom k).rem ∧ t.dev.bit (R.TD_STAT k) 31 = false ∧
          (rateMax < rate.natAbs → t.dev.bit (R.TD_STAT k) 2 = true ∧ t.dev.bit 0x10014 1 = true) ∧
          SameBut ([R.TD_RATE_LO k, R.TD_RATE_HI k, R.TD_STAT k, 0x10014] ++ C.PAIR_JRNL_OVF.touches) s t)) ∧
    (∀ (r : Req) (k v : Nat), k < 8 → Accepts s r (R.TD_ADJ k) → s.dev.steered k = false → Completes (.tdAdjWrite r k v) s fun t =>
      (t.dev.dom k).rem = clampInt (-((2 ^ 31 - 1) * 2 ^ 64)) ((2 ^ 31 - 1) * 2 ^ 64) ((s.dev.dom k).rem + sgn 32 v * 2 ^ 64) ∧
      (t.dev.dom k).t = (s.dev.dom k).t ∧ (t.dev.dom k).rate = (s.dev.dom k).rate ∧
      t.dev.bit (R.TD_STAT k) 1 = ((t.dev.dom k).rem != 0) ∧
      SameBut ([R.TD_ADJ_REM k, R.TD_STAT k] ++ C.PAIR_JRNL_OVF.touches) s t) ∧
    (∀ k < 8, s.dev.time.run = true → s.dev.adjLast k = true → Completes (.adjDone k) s fun t => (t.dev.dom k).rem = 0 ∧
      t.dev.bit 0x10014 2 = true ∧ t.dev.time.frc = (s.dev.time.frc + 0x28000) % 2 ^ 96 ∧ t.bench = s.bench ∧ t.vault = s.vault) ∧
    (∀ (r : Req) (k : Nat) (rel : Bool), k < 8 → Accepts s r (R.TD_CTRL k) → s.dev.steered k = false →
      (10 ^ 9 ≤ s.dev.fld (R.TD_SET_NS k) 29 0 → Completes (.step r k rel) s fun t => t.dev.bit (R.TD_STAT k) 4 = true ∧
        (t.dev.dom k).t = (s.dev.dom k).t ∧ t.bench = s.bench ∧ t.vault = s.vault) ∧
      (s.dev.fld (R.TD_SET_NS k) 29 0 < 10 ^ 9 → Completes (.step r k rel) s fun t =>
        (t.dev.dom k).t = (if rel then
          domAdd (s.dev.dom k).t ((sgn 64 (s.dev.rd64 (R.TD_SET_S_LO k)) * 10 ^ 9 + s.dev.fld (R.TD_SET_NS k) 29 0) * 2 ^ 64)
          else domAdd ((s.dev.rd64 (R.TD_SET_S_LO k) * 10 ^ 9 + s.dev.fld (R.TD_SET_NS k) 29 0) * 2 ^ 64) 0) ∧
        (t.dev.dom k).rem = 0 ∧ t.dev.bit (R.TD_STAT k) 31 = false ∧ t.dev.bit 0x10014 0 = true ∧ t.bench = s.bench ∧
        t.vault = s.vault)) ∧
    (∀ (r : Req) (k v : Nat), k < 8 → Accepts s r (R.TD_CTRL k) → v.testBit 30 = false → Completes (.tdEnWrite r k v) s fun t =>
      t.dev.domOn k = v.testBit 31 ∧ (t.dev.dom k).t = (s.dev.dom k).t ∧ (t.dev.dom k).rate = (s.dev.dom k).rate ∧
      (k = 0 → v.testBit 31 ≠ s.dev.domOn 0 → t.dev.bit R.TURN_STAT 0 = v.testBit 31 ∧ t.dev.bit 0x1014 3 = true) ∧
      t.bench = s.bench ∧ t.vault = s.vault) ∧
    (∀ (r : Req) (k v : Nat), k < 8 → Accepts s r (R.TOUT_CFG k) →
      (bitsOf v 29 28 = 0 → Completes (.toutArm r k v) s fun t => t.dev.toutMode k = 0 ∧ t.dev.bit (R.TOUT_STAT k) 31 = false ∧
        SameBut ([R.TOUT_CFG k, R.TOUT_STAT k] ++ C.PAIR_JRNL_OVF.touches) s t) ∧
      (bitsOf v 29 28 ≠ 0 → s.dev.toutOk k (bitsOf v 29 28) = false → Completes (.toutArm r k v) s fun t => t.dev.toutMode k = 0 ∧
        t.dev.bit (R.TOUT_STAT k) 30 = true ∧ SameBut ([R.TOUT_CFG k, R.TOUT_STAT k] ++ C.PAIR_JRNL_OVF.touches) s t) ∧
      (bitsOf v 29 28 ≠ 0 → s.dev.toutOk k (bitsOf v 29 28) = true → Completes (.toutArm r k v) s fun t =>
        t.dev.toutMode k = bitsOf v 29 28 ∧ t.dev.bit (R.TOUT_STAT k) 31 = true ∧
        (bitsOf v 29 28 = 1 → t.dev.toutNext k = s.dev.toutStart k + 1) ∧
        (bitsOf v 29 28 = 2 → t.dev.toutNext k = t.dev.toutFirst k + 1) ∧
        SameBut ([R.TOUT_CFG k, R.TOUT_STAT k] ++ C.PAIR_JRNL_OVF.touches) s t)) ∧
    (∀ k < 8, s.dev.toutNext k ≠ 0 → s.dev.domOn (s.dev.fld (R.TOUT_CFG k) 26 24) = true → s.dev.toutGated k = false →
      s.dev.time.run = true → s.dev.toutNext k ≤ s.dev.domNow (s.dev.fld (R.TOUT_CFG k) 26 24) + 1 →
      (s.dev.toutMode k = 1 → Completes (.toutPulse k) s fun t => t.dev.toutMode k = 0 ∧ t.dev.toutNext k = 0 ∧
        smGet (fun _ => 0) t.dev.time.toutEnd k = s.dev.time.frc + s.dev.rd (R.TOUT_WIDTH k) * 2 ^ 16 ∧
        t.dev.out.length = s.dev.out.length + 1 ∧ SameBut [R.TOUT_CFG k, R.TOUT_STAT k] s t) ∧
      (s.dev.toutMode k = 2 → Completes (.toutPulse k) s fun t => t.dev.toutMode k = 2 ∧
        t.dev.toutNext k = s.dev.toutNext k + s.dev.rd (R.TOUT_PERIOD k) ∧ t.dev.out.length = s.dev.out.length + 1 ∧ SameBut [] s t)) ∧
    (∀ (i sub : Nat) (rise : Bool), i < 8 → s.dev.bit (R.TCAP_CFG i) 31 = true → s.dev.time.run = true →
      (s.dev.fld (R.TCAP_CFG i) 17 16).testBit (if rise then 0 else 1) = true →
      (smGet (fun _ => 0) s.dev.time.lastCap i = 0 → s.dev.time.tcap.length < 64 →
        (∀ j < 8, smGet (fun _ => 0) s.dev.time.lastCap j ≤ s.dev.time.frc) → Completes (.tcapEdge i rise sub) s fun t =>
        t.dev.time.tcap = s.dev.time.tcap ++ [(2 ^ 31 + i * 2 ^ 24 + (if rise then 2 ^ 16 else 0) + s.dev.fld (R.TCAP_CFG i) 2 0) ::
          (rawWords (s.dev.stampAt sub) ++ domWords (s.dev.domAt (s.dev.fld (R.TCAP_CFG i) 2 0) (s.dev.stampAt sub)))] ∧
        t.dev.rd R.TCAP_FIFO = s.dev.time.tcap.length + 1 ∧ t.dev.bit 0x10014 4 = true ∧ SameBut [R.TCAP_FIFO, 0x10014] s t) ∧
      (64 ≤ s.dev.time.tcap.length → Completes (.tcapEdge i rise sub) s fun t => t.dev.time = s.dev.time ∧
        SameBut C.TIME_TCAP_OVF.touches s t)) ∧
    (∀ r : Req, s.dev.reach r (R.TCAP_E 0) = true →
      (s.dev.time.tcap = [] → Completes (.tcapPop r) s fun t => t.dev.rdata = 0 ∧ SameBut [] s t) ∧
      (∀ e rest, s.dev.time.tcap = e :: rest → Completes (.tcapPop r) s fun t => t.dev.time.tcap = rest ∧
        t.dev.rdata = BitVec.ofNat 64 (e.getD 0 0) ∧ (∀ w < 7, t.dev.rd (R.TCAP_E (w + 1)) = e.getD (w + 1) 0 % 2 ^ 32) ∧
        t.bench = s.bench ∧ t.vault = s.vault)) ∧
    (∀ r : Req, s.dev.reach r (R.TSF_E 0) = true →
      (s.dev.time.tsf = [] → Completes (.tsfPop r) s fun t => t.dev.rdata = 0 ∧ SameBut [] s t) ∧
      (∀ e rest, s.dev.time.tsf = e :: rest → Completes (.tsfPop r) s fun t => t.dev.time.tsf = rest ∧
        t.dev.rdata = BitVec.ofNat 64 (e.getD 0 0) ∧ (∀ w < 3, t.dev.rd (R.TSF_E (w + 1)) = e.getD (w + 1) 0 % 2 ^ 32) ∧
        t.bench = s.bench ∧ t.vault = s.vault)) ∧
    (∀ d < 8, s.dev.pwr.keeper = true →
      (s.dev.keepRole d = 1 → s.dev.passed (s.dev.keeper d).since (s.dev.keepNs d) = true → Completes (.keepSyncInterval d) s fun t =>
        (t.dev.keeper d).seqSync = ((s.dev.keeper d).seqSync + 1) % 65536 ∧
        (t.dev.keeper d).seqAnn = ((s.dev.keeper d).seqAnn + 1) % 65536 ∧ t.bench = s.bench ∧ t.vault = s.vault) ∧
      (s.dev.keepRole d = 2 → s.dev.passed (s.dev.keeper d).since (4 * s.dev.keepNs d) = true → Completes (.keepLost d) s fun t => t.dev.bit (R.KEEP_STAT d) 31 = true ∧ t.dev.bit 0x10014 7 = true ∧
        SameBut [R.KEEP_STAT d, 0x10014] s t)) ∧
    (∀ p bs stamp rest, s.dev.time.keepQ = (p, bs, stamp) :: rest →
      Completes .keepFrameRx s (fun t => (∃ more, t.dev.time.keepQ = rest ++ more ∧ (s.dev.loopMac p = false → more = [])) ∧ t.bench = s.bench ∧ t.vault = s.vault) ∧
      (s.dev.ptpDomain (beAt bs (etherOff bs + 2 + 4) 1) = none → Completes .keepFrameRx s fun t =>
        SameBut C.TIME_KEEP_DROP.touches s t)) ∧
    (∀ span : Nat, s.dev.pwr.phase = .active → s.dev.domOn 0 = false → Completes (.slpRatioMeasure span) s fun t =>
      t.dev.rd R.TIME_SLP_RATIO = span / 2 ^ 20 % 2 ^ 32 ∧ t.dev.bit R.TIME_STAT 1 = true ∧
      SameBut [R.TIME_SLP_RATIO, R.TIME_STAT] s t)


/-- R49, R521 to R530, R544: a request for REST or SLEEP pends, or is refused; a request for ACTIVE cancels one and confirms the wake;
the window's end without a confirmation counts a false wake and asks for the state before it; an entry drains, reaches REST or passes
its point of no return, and sleeps; and the turn registers' commands. -/
def Obligations.PowerRequestsAndEntries : Prop :=
  ∀ s : State,
    (∀ r : Req, s.dev.reach r R.PWR_CTRL = true → s.dev.ready R.PWR_CTRL = true →
      (isCfgReg R.PWR_CTRL = true → hostLike r = true → s.dev.notActive = false) →
      ((r ≠ .hst ∧ s.dev.ownerOf R.PWR_CTRL ≠ r.id) → ∀ i ∈ [Instr.pwrReqActive r, .pwrReqRest r, .pwrReqSleep r, .confirm r],
        Completes i s fun t => t.dev.bit 0xA010 4 = true ∧ SameBut (0xA010 :: C.GLB_OWN_VIOL.touches) s t) ∧
      ((r = .hst ∨ s.dev.ownerOf R.PWR_CTRL = r.id) →
        (s.dev.pwr.phase = .active →
          (s.dev.bit R.PWR_STAT 27 = false → s.dev.stage = 0xA → s.dev.hstHalted = false →
            (s.dev.bit R.PWR_CFG 30 = false ∨ s.dev.pins.vehMoving = false) →
            Completes (.pwrReqRest r) s (PwrPends 1 s) ∧ Completes (.pwrReqSleep r) s (PwrPends 2 s)) ∧
          (s.dev.bit R.PWR_STAT 27 = false →
            (s.dev.hstHalted = true ∨ (s.dev.bit R.PWR_CFG 30 = true ∧ s.dev.pins.vehMoving = true)) →
            Completes (.pwrReqRest r) s (PwrRefused true s) ∧ Completes (.pwrReqSleep r) s (PwrRefused true s)) ∧
          (s.dev.bit R.PWR_STAT 27 = true →
            Completes (.pwrReqRest r) s (PwrRefused false s) ∧ Completes (.pwrReqSleep r) s (PwrRefused false s))) ∧
        (s.dev.pwr.phase = .active → s.dev.bit R.PWR_STAT 27 = true → Completes (.pwrReqActive r) s fun t =>
          t.dev.fld R.PWR_STAT 27 24 = 0 ∧ t.dev.bit 0xA014 1 = true ∧ t.dev.bit R.PWR_STAT 1 = false ∧ t.dev.pwr.phase = .active ∧
          t.bench = s.bench ∧ t.vault = s.vault) ∧
        (s.dev.pwr.phase = .active → s.dev.bit R.PWR_STAT 27 = false → Completes (.pwrReqActive r) s fun t =>
          t.dev.bit R.PWR_STAT 1 = false ∧ t.dev.pwr = s.dev.pwr ∧
          SameBut ([R.PWR_CTRL, R.PWR_STAT, R.PWR_FW_RUN] ++ C.PAIR_JRNL_OVF.touches) s t) ∧
        Completes (.confirm r) s (fun t => t.dev.bit R.PWR_STAT 1 = false ∧ t.dev.pwr = s.dev.pwr ∧
          t.dev.rd R.PWR_FW_RUN = (if s.dev.bit R.PWR_STAT 1 then 0 else s.dev.rd R.PWR_FW_RUN) ∧
          SameBut ([R.PWR_CTRL, R.PWR_STAT, R.PWR_FW_RUN] ++ C.PAIR_JRNL_OVF.touches) s t))) ∧
    (∀ cls idx : Nat, s.dev.bit R.PWR_STAT 1 = true → s.dev.pwr.phase = .active → (s.dev.pwr.from_ = 1 ∨ s.dev.pwr.from_ = 2) →
      s.dev.bit R.PWR_STAT 27 = false → s.dev.stage = 0xA → s.dev.hstHalted = false → s.dev.pins.vehMoving = false →
      s.dev.fld R.PWR_WAKE_REASON 28 24 = cls → s.dev.fld R.PWR_WAKE_REASON 21 16 = idx →
      s.dev.passed s.dev.pwr.fwAt (s.dev.fld R.PWR_FW_CFG 15 0 * 1000000) = true →
      Completes .fwWindowExpiry s (fun t => t.dev.bit R.PWR_STAT 1 = false ∧ t.dev.fld R.PWR_STAT 27 24 = 8 + s.dev.pwr.from_ ∧
        t.dev.rd R.PWR_FW_RUN = 2 ^ 31 + cls * 2 ^ 24 + idx * 2 ^ 16 + t.dev.fld R.PWR_FW_RUN 3 0 ∧
        t.dev.fld R.PWR_FW_RUN 3 0 = (if s.dev.bit R.PWR_FW_RUN 31 = true ∧ s.dev.fld R.PWR_FW_RUN 28 24 = cls ∧
          s.dev.fld R.PWR_FW_RUN 21 16 = idx then min 15 (s.dev.fld R.PWR_FW_RUN 3 0 + 1) else 1) ∧
        (cls = 1 → idx < 24 → s.dev.fld R.PWR_FW_CFG 27 24 ≠ 0 → t.dev.fld R.PWR_FW_RUN 3 0 = s.dev.fld R.PWR_FW_CFG 27 24 →
          t.dev.bit R.PWR_FW_BLOCK0 idx = true ∧ t.dev.bit 0xA014 4 = true) ∧
        SameBut [R.PWR_STAT, R.PWR_FW_RUN, R.PWR_FW_BLOCK0, R.PWR_FW_BLOCK1, 0xA014] s t)) ∧
    (s.dev.bit R.PWR_STAT 1 = false → exec .fwWindowExpiry s = .next s) ∧
    (s.dev.draining = true →
      (s.dev.drained = true → Completes .drainDone s fun t => t.dev.pwr = { s.dev.pwr with step := 1 } ∧ t.bench = s.bench ∧
        t.vault = s.vault) ∧
      (s.dev.passed s.dev.pwr.edgeAt (max 1 (s.dev.fld R.PWR_CFG 15 0) * 1000) = true → Completes .drainTimeout s fun t => t.dev.pwr = { s.dev.pwr with step := 1 } ∧ t.dev.bit 0xA014 3 = true ∧
        t.bench = s.bench ∧ t.vault = s.vault)) ∧
    (s.dev.pwr.phase = .restEntry → s.dev.pwr.step = 1 → Completes .restEntered s fun t =>
      t.dev.pwr = { s.dev.pwr with phase := .rest, step := 0, keeper := true, sleepAt := s.dev.tailTick } ∧ t.dev.fld R.HST_STAT 31 28 = 3 ∧
      t.dev.fld R.PWR_STAT 31 24 = 0x20 ∧ t.dev.ck.frames = [] ∧ t.dev.pins.inh0 = s.dev.bit R.PWR_INH_CFG 1 ∧
      t.dev.pins.inh1 = s.dev.bit R.PWR_INH_CFG 9 ∧ t.bench = s.bench ∧ t.vault = s.vault) ∧
    (s.dev.pwr.phase = .sleepEntry → s.dev.pwr.step = 1 → Completes .pointOfNoReturn s fun t =>
      t.dev.pwr = { s.dev.pwr with phase := .ponr, step := 2 } ∧ t.dev.fld R.HST_STAT 31 28 = 3 ∧
      t.dev.boot.locks = s.dev.wakeRecLocks ∧ t.dev.time.saved.isSome = true ∧
      SameBut (R.HST_STAT :: (List.range 8).map R.LIN_STAT) s t) ∧
    (s.dev.pwr.phase = .ponr →
      (s.dev.pwr.latched = false → Completes .sleepEntered s fun t => t.dev.pwr.phase = .sleep ∧ t.dev.pwr.hostRel = false ∧
        t.dev.pwr.minDone = (s.dev.fld R.PWR_MIN_SLEEP 15 0 == 0) ∧ t.dev.time.run = false ∧ t.dev.rd R.DRAM_STAT = 0 ∧
        t.dev.pins.resetOut = false ∧ t.dev.ck.frames = [] ∧ t.dev.pins.inh0 = s.dev.bit R.PWR_INH_CFG 2 ∧ t.bench = s.bench ∧
        t.vault = s.vault) ∧
      (s.dev.pwr.latched = true → Completes .sleepEntered s fun t => t.dev.pwr.phase = .wake ∧ t.dev.pwr.step = 0 ∧
        t.dev.pwr.latched = false ∧ t.dev.pins.inh0 = s.dev.bit R.PWR_INH_CFG 0 ∧ t.bench = s.bench ∧ t.vault = s.vault)) ∧
    (s.dev.pwr.phase = .sleep → s.dev.fld R.PWR_MIN_SLEEP 15 0 * 32768 ≤ s.dev.ticksSince * 1000 →
      (s.dev.pwr.latched = false → Completes .minSleepExpiry s fun t => t.dev.pwr = { s.dev.pwr with minDone := true } ∧
        SameBut [] s t) ∧
      (s.dev.pwr.latched = true → Completes .minSleepExpiry s fun t => t.dev.pwr.phase = .wake ∧ t.dev.pwr.step = 0 ∧
        t.dev.pwr.latched = false ∧ SameBut [] s t)) ∧
    (s.dev.pwr.phase = .restExit → Completes .restExitDone s fun t => t.dev.pwr.phase = .active ∧ t.dev.pwr.step = 0 ∧
      t.dev.fld R.PWR_STAT 31 28 = 0 ∧ t.dev.bit 0xA014 0 = true ∧ t.bench = s.bench ∧ t.vault = s.vault) ∧
    (s.dev.pwr.phase = .active → s.dev.pwr.hostRel = true → s.dev.fld R.HST_STAT 31 28 = 3 → Completes .hstStateRestored s fun t =>
      t.dev.fld R.HST_STAT 31 28 = 0 ∧ t.bench = s.bench ∧ t.vault = s.vault) ∧
    (∀ r : Req, Accepts s r R.TURN_CTRL →
      Completes (.turnApply r) s (fun t => t.dev.bit R.TURN_CTRL 0 = true ∧ t.dev.bit R.TURN_STAT 1 = true ∧ t.dev.turn = s.dev.turn ∧
        SameBut ([R.TURN_CTRL, R.TURN_STAT] ++ C.PAIR_JRNL_OVF.touches) s t) ∧
      Completes (.clrOvr r) s (fun t => t.dev.rd R.TURN_OVR_CNT = 0 ∧ t.dev.rd R.TURN_OVR_RUN = 0 ∧ t.dev.rd R.TURN_STEP_CNT = 0 ∧
        t.dev.fld R.TURN_STAT 5 4 = 0 ∧
        SameBut ([R.TURN_OVR_CNT, R.TURN_OVR_RUN, R.TURN_STEP_CNT, R.TURN_STAT] ++ C.PAIR_JRNL_OVF.touches) s t))

/-- R56: a write of TURN_HST_DONE by HST completes the turn's work; a write by any other requester has no effect, whoever owns the TURN
page, and counts under R63: it sets OWN_VIOL of the page and increments GLB_OWN_VIOL, which stops at all ones and holds while FREEZE is
set. -/
def Obligations.OnlyTheHeadstockEndsATurn : Prop :=
  ∀ (r : Req) (s : State), s.dev.reach r R.TURN_HST_DONE = true →
    (r = .hst → s.dev.ready R.TURN_HST_DONE = true → Completes (.turnHstDone r) s fun t => t.dev.bit R.TURN_STAT 2 = true ∧
      t.dev.hst.doneAt = some (s.dev.hst.doneAt.getD s.dev.time.frc) ∧ SameBut (R.TURN_STAT :: C.PAIR_JRNL_OVF.touches) s t) ∧
    (r ≠ .hst → Completes (.turnHstDone r) s fun t => t.dev.rd 0x1010 = s.dev.rd 0x1010 ||| 0x10 ∧
      t.dev.rd C.GLB_OWN_VIOL.at_ = (if s.dev.frozen 0 then s.dev.rd C.GLB_OWN_VIOL.at_ else min 0xFFFFFFFF (s.dev.rd C.GLB_OWN_VIOL.at_ + 1)) ∧
      t.dev.hst = s.dev.hst ∧ t.dev.turn = s.dev.turn ∧ SameBut (0x1010 :: C.GLB_OWN_VIOL.touches) s t)

/-- R24, R44, R45, R496, R497, R519, R533 to R541, R545, R549, R598: the wake from SLEEP step by step and its failures; what a wake pin, VEH_MOVING
and the timer wake; the battery, the supplies, the clocks, the die-to-die link and the tamper inputs. -/
def Obligations.WakesAndSupplies : Prop :=
  ∀ s : State,
    (s.dev.pwr.phase = .wake → s.dev.pwr.step = 0 →
      (∀ linkOk, Completes (.wakeSupplyReady linkOk true) s fun t => t.dev.pwr.phase = .wake ∧ t.dev.pwr.step = 1 ∧
        t.dev.pwr.dieLink = linkOk ∧ t.dev.pins.resetOut = true ∧ t.dev.time.run = true ∧ t.dev.fld R.HST_STAT 31 28 = 3 ∧
        t.dev.ck.frames = [] ∧ t.bench = s.bench ∧ t.vault = s.vault) ∧
      (∀ linkOk, Completes (.wakeSupplyReady linkOk false) s fun t => t.dev.pwr.phase = .boot ∧ t.dev.stage = 3 ∧
        t.dev.fld R.BOOT_STAT 7 6 = 3 ∧ t.dev.pwr.hostRel = false ∧ t.bench = s.bench ∧ t.vault = s.vault) ∧
      Completes .wakeRailTimeout s (fun t => t = { s with dev := s.dev.assertPorst })) ∧
    (s.dev.pwr.phase = .wake → s.dev.pwr.step = 1 →
      Completes (.legacyRelease false) s (fun t => t.dev = s.dev.wakeToHeader ∧ t.dev.pwr.phase = .boot ∧ t.dev.stage = 3 ∧
        t.bench = s.bench ∧ t.vault = s.vault) ∧
      (∀ u, s.loadSecs true [2, 3, 4, 8, 9, 0xB] s.dev.boot.image = some u → Completes (.legacyRelease true) s fun t =>
        t.dev.pwr.phase = .active ∧ t.dev.pwr.step = 2 ∧ t.dev.bit R.PWR_STAT 0 = true ∧ t.dev.fld R.PWR_STAT 31 28 = 0 ∧
        t.dev.bit 0xA014 0 = true ∧ t.dev.pins.safe = s.dev.pwr.xtalOk) ∧
      (s.dev.pins.porst = true → s.dev.bit R.DRAM_STAT 0 = false → Completes .dramTrained s fun t => t.dev.bit R.DRAM_STAT 0 = true ∧
        t.dev.bit R.DRAM_STAT 2 = true ∧ SameBut [R.DRAM_STAT] s t)) ∧
    (s.dev.pwr.phase = .active → s.dev.pwr.step = 2 →
      Completes (.lateSectionsLoaded false) s (fun t => t.dev = s.dev.wakeToHeader ∧ t.dev.stage = 3) ∧
      (∀ u, s.loadSecs true [5, 6, 7, 0xA, 0xC, 0xD] s.dev.boot.image = some u → Completes (.lateSectionsLoaded true) s fun t =>
        t.dev.pwr.step = 3 ∧ t.bench = u.bench ∧ t.vault = u.vault)) ∧
    (s.dev.pwr.phase = .active → s.dev.pwr.step = 3 →
      Completes (.wakeHstStarted true) s (fun t => t.dev.pwr = { s.dev.pwr with step := 4 } ∧ t.dev.fld R.HST_STAT 31 28 = 0 ∧
        t.bench = s.bench ∧ t.vault = s.vault) ∧
      Completes (.wakeHstStarted false) s (fun t => t.dev = s.dev.wakeToHeader ∧ t.dev.pwr.phase = .boot ∧ t.dev.stage = 3)) ∧
    Completes .hostWakeTimeout s (fun t => t.dev.pwr = { s.dev.pwr with pulse := [] } ∧
      (0 ∈ s.dev.pwr.pulse → t.dev.pins.wakeA = false) ∧ SameBut [] s t) ∧
    (∀ k < 4, ∀ rise,
      Completes (.wakeInEdge k rise) s (fun t => t.dev.pins.win.testBit k = rise ∧ t.bench = s.bench ∧ t.vault = s.vault) ∧
      (s.dev.pins.porst = true → (s.dev.fld (R.PWR_WIN_CFG k) 17 16).testBit (if rise then 0 else 1) = true →
        (s.dev.pwr.phase = .active → Completes (.wakeInEdge k rise) s fun t => t.dev.bit 0xA014 7 = true) ∧
        (s.dev.pwr.phase = .rest → s.dev.bit R.PWR_WAKE_EN k = true → s.dev.bit R.PWR_FW_BLOCK1 (16 + k) = false →
          s.dev.pwr.recorded = false → Completes (.wakeInEdge k rise) s fun t => t.dev.pwr.phase = .restExit ∧ t.dev.pwr.from_ = 1 ∧
            t.dev.rd R.PWR_WAKE_REASON = 2 ^ 31 + 5 * 2 ^ 24 + k * 2 ^ 16 ∧ t.dev.rd R.PWR_WAKE_TICK = s.dev.tailTick ∧
            t.dev.fld R.PWR_STAT 31 28 = 3 ∧ SameBut [R.PWR_WAKE_REASON, R.PWR_WAKE_TICK, R.PWR_STAT] s t))) ∧
    (∀ stays,
      Completes (.vehMovingRise stays) s (fun t => t.dev.pins.vehMoving = stays ∧ t.bench = s.bench ∧ t.vault = s.vault) ∧
      (s.dev.pins.porst = true → s.dev.pins.vehMoving = false → s.dev.pwr.phase = .rest → s.dev.bit R.PWR_WAKE_EN 4 = true →
        Completes (.vehMovingRise stays) s fun t => t.dev.pwr.phase = .restExit ∧ t.dev.fld R.PWR_STAT 31 28 = 3)) ∧
    (s.dev.pins.porst = true → s.dev.bit R.PWR_WAKE_EN 5 = true → s.dev.rd R.PWR_TIMER ≠ 0 →
      s.dev.rd R.PWR_TIMER ≤ s.dev.ticksSince →
      (s.dev.pwr.phase = .sleep → s.dev.pwr.minDone = true → Completes .pwrTimerExpiry s fun t => t.dev.pwr.phase = .wake ∧
        t.dev.pwr.step = 0 ∧ SameBut [R.PWR_WAKE_REASON, R.PWR_WAKE_TICK] s t) ∧
      (s.dev.pwr.phase = .sleep → s.dev.pwr.minDone = false → Completes .pwrTimerExpiry s fun t => t.dev.pwr.phase = .sleep ∧
        t.dev.pwr.latched = true ∧ SameBut [R.PWR_WAKE_REASON, R.PWR_WAKE_TICK] s t)) ∧
    (∀ rail bad, s.dev.coreOn = true →
      (s.dev.pwr.dieLink = false → Completes .lineSafeState s fun t => t.dev.pwr = { s.dev.pwr with lineSafe := true } ∧
        SameBut [] s t) ∧
      (s.dev.pwr.dieLink = true → Completes .d2dLinkLoss s (LinkLost s)) ∧
      Completes (.supplyBelowTrip 2) s (LinkLost s) ∧
      Completes .d2dLinkRetrained s (fun t => t.dev.pwr = { s.dev.pwr with dieLink := true, lineSafe := false } ∧
        (∀ n < 24, t.dev.bit (R.CAN_STAT n) 27 = false) ∧ t.bench = s.bench ∧ t.vault = s.vault) ∧
      Completes (.supplyOutOfRange bad) s (fun t => t.dev.pwr = { s.dev.pwr with supplyBad := bad } ∧
        (bad = true → t.dev.bit R.INTC_SAFE_RAW 3 = true) ∧ SameBut [R.INTC_SAFE_RAW] s t) ∧
      (rail ≠ 1 → rail ≠ 2 → Completes (.supplyBelowTrip rail) s fun t => t = { s with dev := s.dev.assertPorst }) ∧
      (s.dev.pwr.phase ≠ .boot → s.dev.pwr.phase ≠ .wake →
        Completes .xtalFail s (fun t => t.dev.pwr = { s.dev.pwr with xtalOk := false } ∧ t.dev.pins.safe = false ∧
          t.dev.bit R.INTC_SAFE_RAW 4 = true ∧ (∀ n < 24, (t.dev.canCh n).att = none) ∧ t.bench = s.bench ∧ t.vault = s.vault) ∧
        (∀ mv, s.dev.pwr.vbatRun < 9 → Completes (.vbatSample mv) s fun t => t.dev.rd R.PWR_VBAT = min mv 65535 ∧
          t.dev.bit R.PWR_STAT 9 = s.dev.bit R.PWR_STAT 9 ∧ SameBut [R.PWR_VBAT] s t) ∧
        (∀ mv, s.dev.pwr.vbatRun = 9 → s.dev.bit R.PWR_STAT 9 = false → min mv 65535 < s.dev.fld R.PWR_VBAT_UV 15 0 →
          Completes (.vbatSample mv) s fun t => t.dev.bit R.PWR_STAT 9 = true ∧ t.dev.bit 0xA014 5 = true ∧
            t.dev.bit R.INTC_SAFE_RAW 3 = true ∧ SameBut [R.PWR_VBAT, R.PWR_STAT, 0xA014, R.INTC_SAFE_RAW] s t))) ∧
    Completes (.supplyBelowTrip 1) s (fun t => t.vault.fuses = s.vault.fuses ∧ t.vault.latch = 0 ∧ t.vault.active = s.vault.active ∧
      t.dev.pins.porst = false ∧ t.dev.rd R.PWR_FW_RUN = 0 ∧ t.bench = s.bench) ∧
    (s.dev.pins.porst = true → s.dev.bit R.PWR_STAT 8 = false → Completes .clk32kLost s fun t => t.dev.bit R.PWR_STAT 8 = true ∧
      t.dev.bit 0xA014 6 = true ∧ SameBut [R.PWR_STAT, 0xA014] s t) ∧
    (∀ src < 5,
      (s.dev.pins.porst = true → s.dev.pwr.phase = .active → Completes (.tamperInput src true) s fun t =>
        t.vault.latch.testBit src = true ∧ t.vault.active.testBit src = true ∧ t.vault.fuses = s.vault.fuses ∧
        (s.vault.tampRec.toNat.testBit 31 = true → t.vault.tampRec = s.vault.tampRec) ∧
        (s.vault.tampRec.toNat.testBit 31 = false → t.vault.tampRec = BitVec.ofNat 32 (2 ^ 31 + 2 ^ src)) ∧
        t.dev.keys = [] ∧ t.dev.cache = [] ∧ t.dev.bit R.KEY_STAT 1 = true ∧ t.dev.bit R.INTC_SAFE_RAW 2 = true ∧
        (∀ a, benchByte t.bench a = if 0x3C0000 ≤ a ∧ a < 0x400000 then 0 else benchByte s.bench a)) ∧
      (s.dev.pins.porst = true → s.dev.pwr.phase = .boot → Completes (.tamperInput src true) s fun t =>
        t.dev.stage = 0xE ∧ t.dev.keys = [] ∧ t.vault.latch.testBit src = true) ∧
      Completes (.tamperInput src false) s (fun t => t.vault.active.testBit src = false ∧ t.vault.latch = s.vault.latch ∧
        t.vault.tampRec = s.vault.tampRec ∧ t.bench = s.bench))


/-- R47 to R57, R550 to R572, R612: a turn edge counts, stamps, latches the snapshots and applies staged settings; the pair's commands, its
HELLO, BEAT, JOURNAL, RESYNC and INPUT frames, remote accesses, and the wait after release. -/
def Obligations.TurnEdgesAndThePair : Prop :=
  ∀ s : State,
    (∀ e : TurnEnv,
      (s.dev.edgeDue = false → exec (.turnEdge e) s = .next s) ∧
      (s.dev.edgeDue = true → Completes (.turnEdge e) s fun t =>
        t.dev.rd64 R.TURN_CNT_LO = (s.dev.rd64 R.TURN_CNT_LO + 1) % 2 ^ 64 ∧ t.dev.rd64 R.TURN_IDX_LO = s.dev.turnAim % 2 ^ 64 ∧
        t.dev.rd R.TURN_EDGE_FRC0 = s.dev.time.frc % 2 ^ 32 ∧ t.dev.bit R.TURN_STAT 2 = false ∧ t.dev.bit 0x1014 0 = true ∧
        t.dev.turn.last = s.dev.time.frc ∧ t.dev.snapTurn = t.dev.rd64 R.TURN_CNT_LO ∧
        (s.dev.hst.workGiven = true → s.dev.turnWorks = true → s.dev.bit R.TURN_STAT 2 = false → t.dev.bit 0x1014 1 = true) ∧
        (s.dev.pwr.phase = .active → s.dev.bit R.TURN_CTRL 0 = true → 2 ≤ s.dev.fld R.TURN_CFG 6 0 → s.dev.fld R.TURN_CFG 6 0 ≤ 64 →
          s.dev.fld R.TURN_PHASE 20 0 < s.dev.fld R.TURN_CFG 6 0 * 31250 →
          t.dev.turn.k = s.dev.fld R.TURN_CFG 6 0 ∧ t.dev.turn.phase = s.dev.fld R.TURN_PHASE 20 0 ∧ t.dev.bit R.TURN_CTRL 0 = false) ∧
        t.bench = s.bench ∧ t.vault = s.vault)) ∧
    (∀ r : Req, Accepts s r R.PAIR_CTRL →
      ((s.dev.pairState = 1 ∧ s.dev.fld R.PAIR_PARTNER 6 4 = 2) → Completes (.pairSwitch r) s fun t => t.dev.pair.hand = true ∧
        t.dev.pairState = 1 ∧ SameBut ([R.PAIR_CTRL, R.PAIR_STAT] ++ C.PAIR_JRNL_OVF.touches) s t) ∧
      (¬(s.dev.pairState = 1 ∧ s.dev.fld R.PAIR_PARTNER 6 4 = 2) → Completes (.pairSwitch r) s fun t => t.dev.bit R.PAIR_STAT 0 = true ∧
        t.dev.pairState = s.dev.pairState ∧ SameBut ([R.PAIR_CTRL, R.PAIR_STAT] ++ C.PAIR_JRNL_OVF.touches) s t) ∧
      ((s.dev.pairState = 2 ∨ s.dev.pairState = 3) → s.dev.hstHalted = false → Completes (.pairResync r) s fun t => t.dev.pairState = 4 ∧
        t.bench = s.bench ∧ t.vault = s.vault) ∧
      ((s.dev.pairState ≠ 2 ∧ s.dev.pairState ≠ 3) → Completes (.pairResync r) s fun t => t.dev.pairState = s.dev.pairState ∧
        SameBut ([R.PAIR_CTRL, R.PAIR_STAT] ++ C.PAIR_JRNL_OVF.touches) s t)) ∧
    (∀ r : Req, Accepts s r R.PAIR_RACC_CMD → (r = .hst ∨ s.dev.ownerOf R.PAIR_RACC_CMD = r.id) → s.dev.bit R.PAIR_RACC_CMD 31 = false →
      (s.dev.pairState = 0 → Completes (.raccRead r) s (RaccAlone 1 s) ∧ Completes (.raccWrite r) s (RaccAlone 2 s)) ∧
      (s.dev.pairState ≠ 0 → Completes (.raccRead r) s (RaccSent 1 s) ∧ Completes (.raccWrite r) s (RaccSent 2 s))) ∧
    (∀ v : Nat,
      (s.dev.bit R.PAIR_RACC_CMD 31 = true → Completes (.raccRspRx v) s fun t =>
        t.dev.rd R.PAIR_RACC_CMD = s.dev.fld R.PAIR_RACC_CMD 1 0 ∧
        t.dev.rd R.PAIR_RACC_DATA = (if s.dev.fld R.PAIR_RACC_CMD 1 0 = 1 then v % 2 ^ 32 else s.dev.rd R.PAIR_RACC_DATA) ∧
        t.dev.bit 0x128014 8 = true ∧ SameBut [R.PAIR_RACC_CMD, R.PAIR_RACC_DATA, 0x128014] s t) ∧
      (s.dev.bit R.PAIR_RACC_CMD 31 = true → s.dev.passed s.dev.pair.raccAt 100000 = true → Completes .raccTimeout s fun t =>
        t.dev.rd R.PAIR_RACC_CMD = 2 * 2 ^ 16 + s.dev.fld R.PAIR_RACC_CMD 1 0 ∧ t.dev.bit 0x128014 8 = true ∧
        SameBut [R.PAIR_RACC_CMD, 0x128014] s t) ∧
      (s.dev.bit R.PAIR_RACC_CMD 31 = false → exec (.raccRspRx v) s = .next s ∧ exec .raccTimeout s = .next s)) ∧
    (s.dev.bit R.BOOT_STRAP 2 = true → s.dev.pairState = 0 → s.dev.pair.once = false → s.dev.dpReleased = true →
      s.dev.passed s.dev.pair.relAt (s.dev.fld R.PAIR_CFG 15 0 * 1000000) = true →
      Completes .pairWaitExpiry s fun t => t.dev.bit R.PAIR_STAT 27 = true ∧ t.dev.pins.failover = true ∧ SameBut [R.PAIR_STAT] s t) ∧
    (s.dev.eplUp = true →
      (∀ (h : EplHdr) (ws : List Nat), s.dev.pairState = 0 →
        Completes (.helloRx h ws) s fun t => t.dev.fld R.PAIR_STAT 19 16 = s.dev.helloJudge h ws ∧ t.dev.pairState = 0 ∧
          (s.dev.helloJudge h ws = 0 → t.dev.pair.hello = some (h.role, (ws.drop 2).take 4)) ∧
          (s.dev.helloJudge h ws ≠ 0 → t.dev.pair.hello = none) ∧
          (s.dev.helloJudge h ws ≠ 0 → s.dev.helloJudge h ws ≠ s.dev.fld R.PAIR_STAT 19 16 → t.dev.bit 0x128014 1 = true) ∧
          SameBut [R.PAIR_PARTNER, R.PAIR_STAT, 0x128014] s t) ∧
      (∀ (h : EplHdr) (ws : List Nat) (sub : Nat),
        ((h.role = false ∨ s.dev.pair.yielded = false) → Completes (.beatRx h ws sub) s fun t => t.dev.bit R.PAIR_STAT 26 = true ∧
          t.dev.pair.beat = true ∧ t.bench = s.bench ∧ t.vault = s.vault) ∧
        ((ws.getD 0 0).testBit 26 = true → s.dev.pairState = 2 → s.dev.hstHalted = false →
          (h.role = false ∨ (s.dev.pair.jrn = true ∧ ws.getD 3 0 ≠ s.dev.rd R.PAIR_JSEQ)) → Completes (.beatRx h ws sub) s fun t =>
            t.dev.pairState = 1 ∧ t.dev.bit R.PAIR_STAT 27 = true ∧ t.dev.pins.failover = true ∧ t.dev.bit 0x128014 4 = true)) ∧
      (∀ (h : EplHdr) (ws : List Nat), (s.dev.pairState = 2 ∨ s.dev.pairState = 4) →
        (∀ u, s.dev.pair.frag = none → s.dev.pair.base = true → h.frag = 0 → h.nfrag = 1 → h.seq = (s.dev.rd R.PAIR_JSEQ + 1) % 2 ^ 32 →
          State.applyRecs State.applyRec (ws.length + 1) ws s = (false, u) → Completes (.journalRx h ws) s fun t =>
            t.dev.rd R.PAIR_JSEQ = h.seq ∧ t.dev.pair.jrn = true ∧ t.bench = u.bench ∧ t.vault = u.vault) ∧
        (s.dev.pair.frag = none → s.dev.pair.base = true → h.seq ≠ (s.dev.rd R.PAIR_JSEQ + 1) % 2 ^ 32 →
          Completes (.journalRx h ws) s fun t => t.dev.pairState = 4 ∧ t.dev.pair.base = false ∧ t.bench = s.bench ∧
            t.vault = s.vault)) ∧
      (∀ (h : EplHdr) (ws : List Nat), s.dev.pairState = 4 → exec (.resyncRx h ws) s =
        .next (State.applyRecs State.applySync (ws.length + 1) ws s).2) ∧
      (s.dev.pairState = 1 → Completes .resyncRequestRx s fun t => t.dev.pair.resync = true ∧ SameBut [] s t) ∧
      (s.dev.pairState = 4 →
        Completes .resyncStartRx s (fun t => t.dev.pairState = 4 ∧ (∀ m < 3, (t.dev.mb m).tags = []) ∧ t.dev.tabUsed T.node = [] ∧
          t.bench = s.bench ∧ t.vault = s.vault) ∧
        Completes .resyncEndRx s (fun t => t.dev.pairState = (if s.dev.hstHalted then 3 else 2) ∧ t.dev.bit 0x128014 7 = true ∧
          SameBut ([R.PAIR_STAT, 0x128014] ++ C.PAIR_RESYNCS.touches) s t)) ∧
      (∀ (h : EplHdr) (ws : List Nat) (bytes : List Byte), (s.dev.pairState = 2 ∨ s.dev.pairState = 4) → s.dev.fld R.PAIR_CFG 31 30 = 1 →
        Completes (.inputRx h ws bytes) s fun t => t.bench = s.bench ∧ t.vault = s.vault ∧
          t.dev.rd64 C.PAIR_INPUT_FRAMES = (if s.dev.frozen 0x128000 then s.dev.rd64 C.PAIR_INPUT_FRAMES
            else (s.dev.rd64 C.PAIR_INPUT_FRAMES + 1) % 2 ^ 64)) ∧
      (∀ off v : Nat, s.dev.pairState ≠ 0 →
        Completes (.raccRx true off v) s (fun t => t.bench = (s.writeReg .pair off v).bench ∧ t.vault = s.vault) ∧
        Completes (.raccRx false off v) s (fun t => t.dev.rdata = s.dev.rdata ∧ t.bench = s.bench ∧ t.vault = s.vault)))
end

