-- ==== Sys2Proof/Laws/Sparse.lean ====
section
/-! SUPPORT. Sparse maps: what a read gives after a write, and that every operation keeps the canonical form. -/

namespace Sys2Proof.Machine

variable {α : Type}

theorem smGet_put_same (d : Nat → α) (k : Nat) (v : α) (m : SMap α) : smGet d (smPut k v m) k = v := by
  induction m with
  | nil => simp [smPut, smGet]
  | cons e m ih =>
    obtain ⟨k', v'⟩ := e
    by_cases h1 : k < k'
    · simp [smPut, smGet, h1]
    · by_cases h2 : k = k'
      · simp [smPut, smGet, h2]
      · simp [smPut, smGet, h1, h2, ih]

theorem smGet_put_ne (d : Nat → α) {k j : Nat} (h : j ≠ k) (v : α) (m : SMap α) : smGet d (smPut k v m) j = smGet d m j := by
  induction m with
  | nil => simp [smPut, smGet, h]
  | cons e m ih =>
    obtain ⟨k', v'⟩ := e
    by_cases h1 : k < k'
    · simp [smPut, smGet, h1, h]
    · by_cases h2 : k = k'
      · subst h2
        simp [smPut, smGet, h]
      · simp only [smPut, h1, h2, if_false, smGet, ih]

theorem smGet_del_same (d : Nat → α) (k : Nat) (m : SMap α) : smGet d (smDel k m) k = d k := by
  induction m with
  | nil => simp [smDel, smGet]
  | cons e m ih =>
    obtain ⟨k', v'⟩ := e
    by_cases h2 : k = k'
    · simpa [smDel, h2] using h2 ▸ ih
    · simp [smDel, smGet, h2, ih]

theorem smGet_del_ne (d : Nat → α) {k j : Nat} (h : j ≠ k) (m : SMap α) : smGet d (smDel k m) j = smGet d m j := by
  induction m with
  | nil => simp [smDel]
  | cons e m ih =>
    obtain ⟨k', v'⟩ := e
    by_cases h2 : k = k'
    · subst h2
      simp [smDel, smGet, h, ih]
    · simp only [smDel, h2, if_false, smGet, ih]

@[simp] theorem smGet_set_same [DecidableEq α] (d : Nat → α) (m : SMap α) (k : Nat) (v : α) :
    smGet d (smSet d m k v) k = v := by
  unfold smSet
  split
  · next h => rw [smGet_del_same, h]
  · exact smGet_put_same d k v m

theorem smGet_set_ne [DecidableEq α] (d : Nat → α) (m : SMap α) {k j : Nat} (h : j ≠ k) (v : α) :
    smGet d (smSet d m k v) j = smGet d m j := by
  unfold smSet
  split
  · exact smGet_del_ne d h m
  · exact smGet_put_ne d h v m

theorem smWfFrom_mono [DecidableEq α] (d : Nat → α) {a b : Nat} (h : a ≤ b) (m : SMap α) (hw : smWfFrom d b m = true) :
    smWfFrom d a m = true := by
  cases m with
  | nil => rfl
  | cons e m =>
    obtain ⟨k, v⟩ := e
    simp only [smWfFrom, Bool.and_eq_true, decide_eq_true_eq] at hw ⊢
    exact ⟨⟨Nat.le_trans h hw.1.1, hw.1.2⟩, hw.2⟩

theorem smWfFrom_del [DecidableEq α] (d : Nat → α) (k : Nat) (m : SMap α) (b : Nat) (hw : smWfFrom d b m = true) :
    smWfFrom d b (smDel k m) = true := by
  induction m generalizing b with
  | nil => rfl
  | cons e m ih =>
    obtain ⟨k', v⟩ := e
    simp only [smWfFrom, Bool.and_eq_true, decide_eq_true_eq] at hw
    unfold smDel
    split
    · exact smWfFrom_mono d (Nat.le_succ_of_le hw.1.1) _ (ih _ hw.2)
    · simp only [smWfFrom, Bool.and_eq_true, decide_eq_true_eq]
      exact ⟨hw.1, ih _ hw.2⟩

theorem smWfFrom_put [DecidableEq α] (d : Nat → α) {k : Nat} {v : α} (hv : v ≠ d k) (m : SMap α) (b : Nat) (hb : b ≤ k)
    (hw : smWfFrom d b m = true) : smWfFrom d b (smPut k v m) = true := by
  induction m generalizing b with
  | nil => simp [smPut, smWfFrom, hb, hv]
  | cons e m ih =>
    obtain ⟨k', v'⟩ := e
    simp only [smWfFrom, Bool.and_eq_true, decide_eq_true_eq] at hw
    unfold smPut
    split
    · next h =>
      simp only [smWfFrom, Bool.and_eq_true, decide_eq_true_eq]
      exact ⟨⟨hb, hv⟩, ⟨⟨h, hw.1.2⟩, hw.2⟩⟩
    · split
      · next h1 h2 =>
        subst h2
        simp only [smWfFrom, Bool.and_eq_true, decide_eq_true_eq]
        exact ⟨⟨hb, hv⟩, hw.2⟩
      · next h1 h2 =>
        simp only [smWfFrom, Bool.and_eq_true, decide_eq_true_eq]
        exact ⟨hw.1, ih _ (by omega) hw.2⟩

/-- A write keeps the canonical form. -/
theorem smWf_set [DecidableEq α] (d : Nat → α) (m : SMap α) (k : Nat) (v : α) (hw : smWf d m = true) :
    smWf d (smSet d m k v) = true := by
  unfold smSet
  split
  · exact smWfFrom_del d k m 0 hw
  · next h => exact smWfFrom_put d h m 0 (Nat.zero_le _) hw

theorem smWfFrom_filter [DecidableEq α] (d : Nat → α) (p : Nat × α → Bool) (m : SMap α) (b : Nat) (hw : smWfFrom d b m = true) :
    smWfFrom d b (m.filter p) = true := by
  induction m generalizing b with
  | nil => rfl
  | cons e m ih =>
    obtain ⟨k, v⟩ := e
    simp only [smWfFrom, Bool.and_eq_true, decide_eq_true_eq] at hw
    rw [List.filter_cons]
    split
    · simp only [smWfFrom, Bool.and_eq_true, decide_eq_true_eq]
      exact ⟨hw.1, ih _ hw.2⟩
    · exact smWfFrom_mono d (Nat.le_succ_of_le hw.1.1) _ (ih _ hw.2)

/-- Removing entries keeps the canonical form. -/
theorem smWf_filter [DecidableEq α] (d : Nat → α) (p : Nat × α → Bool) (m : SMap α) (hw : smWf d m = true) :
    smWf d (m.filter p) = true := smWfFrom_filter d p m 0 hw

end Sys2Proof.Machine
end

