-- ==== Sys2Proof/Laws/State.lean ====
section
/-! SUPPORT. What the named register updates leave alone: every field of the device but the registers (one lemma per field and
update), and the device's fields under State's own updates. -/

namespace Sys2Proof.Machine

@[simp] theorem Dev.setReg_snap (o : Nat) (w : Word) (s : Dev) : (s.setReg o w).snap = s.snap := rfl
@[simp] theorem Dev.setReg_held (o : Nat) (w : Word) (s : Dev) : (s.setReg o w).held = s.held := rfl
@[simp] theorem Dev.setReg_snapTurn (o : Nat) (w : Word) (s : Dev) : (s.setReg o w).snapTurn = s.snapTurn := rfl
@[simp] theorem Dev.setReg_snapEx (o : Nat) (w : Word) (s : Dev) : (s.setReg o w).snapEx = s.snapEx := rfl
@[simp] theorem Dev.setReg_tabs (o : Nat) (w : Word) (s : Dev) : (s.setReg o w).tabs = s.tabs := rfl
@[simp] theorem Dev.setReg_rdata (o : Nat) (w : Word) (s : Dev) : (s.setReg o w).rdata = s.rdata := rfl
@[simp] theorem Dev.setReg_out (o : Nat) (w : Word) (s : Dev) : (s.setReg o w).out = s.out := rfl
@[simp] theorem Dev.setReg_free (o : Nat) (w : Word) (s : Dev) : (s.setReg o w).free = s.free := rfl
@[simp] theorem Dev.setReg_pins (o : Nat) (w : Word) (s : Dev) : (s.setReg o w).pins = s.pins := rfl
@[simp] theorem Dev.setReg_boot (o : Nat) (w : Word) (s : Dev) : (s.setReg o w).boot = s.boot := rfl
@[simp] theorem Dev.setReg_pwr (o : Nat) (w : Word) (s : Dev) : (s.setReg o w).pwr = s.pwr := rfl
@[simp] theorem Dev.setReg_mbox (o : Nat) (w : Word) (s : Dev) : (s.setReg o w).mbox = s.mbox := rfl
@[simp] theorem Dev.setReg_bells (o : Nat) (w : Word) (s : Dev) : (s.setReg o w).bells = s.bells := rfl
@[simp] theorem Dev.setReg_time (o : Nat) (w : Word) (s : Dev) : (s.setReg o w).time = s.time := rfl
@[simp] theorem Dev.setReg_keys (o : Nat) (w : Word) (s : Dev) : (s.setReg o w).keys = s.keys := rfl
@[simp] theorem Dev.setReg_cache (o : Nat) (w : Word) (s : Dev) : (s.setReg o w).cache = s.cache := rfl
@[simp] theorem Dev.setReg_la (o : Nat) (w : Word) (s : Dev) : (s.setReg o w).la = s.la := rfl
@[simp] theorem Dev.setReg_laLast (o : Nat) (w : Word) (s : Dev) : (s.setReg o w).laLast = s.laLast := rfl
@[simp] theorem Dev.setReg_lcReset (o : Nat) (w : Word) (s : Dev) : (s.setReg o w).lcReset = s.lcReset := rfl
@[simp] theorem Dev.setReg_hst (o : Nat) (w : Word) (s : Dev) : (s.setReg o w).hst = s.hst := rfl
@[simp] theorem Dev.setReg_upd (o : Nat) (w : Word) (s : Dev) : (s.setReg o w).upd = s.upd := rfl
@[simp] theorem Dev.setReg_dram (o : Nat) (w : Word) (s : Dev) : (s.setReg o w).dram = s.dram := rfl
@[simp] theorem Dev.setReg_once (o : Nat) (w : Word) (s : Dev) : (s.setReg o w).once = s.once := rfl
@[simp] theorem Dev.setReg_intc (o : Nat) (w : Word) (s : Dev) : (s.setReg o w).intc = s.intc := rfl
@[simp] theorem Dev.setReg_eps (o : Nat) (w : Word) (s : Dev) : (s.setReg o w).eps = s.eps := rfl
@[simp] theorem Dev.setReg_ck (o : Nat) (w : Word) (s : Dev) : (s.setReg o w).ck = s.ck := rfl
@[simp] theorem Dev.setReg_lk (o : Nat) (w : Word) (s : Dev) : (s.setReg o w).lk = s.lk := rfl
@[simp] theorem Dev.setReg_can (o : Nat) (w : Word) (s : Dev) : (s.setReg o w).can = s.can := rfl
@[simp] theorem Dev.setReg_hbuf (o : Nat) (w : Word) (s : Dev) : (s.setReg o w).hbuf = s.hbuf := rfl
@[simp] theorem Dev.setReg_tts (o : Nat) (w : Word) (s : Dev) : (s.setReg o w).tts = s.tts := rfl
@[simp] theorem Dev.setReg_turn (o : Nat) (w : Word) (s : Dev) : (s.setReg o w).turn = s.turn := rfl
@[simp] theorem Dev.setReg_lin (o : Nat) (w : Word) (s : Dev) : (s.setReg o w).lin = s.lin := rfl
@[simp] theorem Dev.setReg_ser (o : Nat) (w : Word) (s : Dev) : (s.setReg o w).ser = s.ser := rfl
@[simp] theorem Dev.setReg_gwy (o : Nat) (w : Word) (s : Dev) : (s.setReg o w).gwy = s.gwy := rfl
@[simp] theorem Dev.setReg_mdio (o : Nat) (w : Word) (s : Dev) : (s.setReg o w).mdio = s.mdio := rfl
@[simp] theorem Dev.setReg_pair (o : Nat) (w : Word) (s : Dev) : (s.setReg o w).pair = s.pair := rfl
@[simp] theorem Dev.setReg_hif (o : Nat) (w : Word) (s : Dev) : (s.setReg o w).hif = s.hif := rfl

@[simp] theorem Dev.wr_snap (o v : Nat) (s : Dev) : (s.wr o v).snap = s.snap := rfl
@[simp] theorem Dev.wr_held (o v : Nat) (s : Dev) : (s.wr o v).held = s.held := rfl
@[simp] theorem Dev.wr_snapTurn (o v : Nat) (s : Dev) : (s.wr o v).snapTurn = s.snapTurn := rfl
@[simp] theorem Dev.wr_snapEx (o v : Nat) (s : Dev) : (s.wr o v).snapEx = s.snapEx := rfl
@[simp] theorem Dev.wr_tabs (o v : Nat) (s : Dev) : (s.wr o v).tabs = s.tabs := rfl
@[simp] theorem Dev.wr_rdata (o v : Nat) (s : Dev) : (s.wr o v).rdata = s.rdata := rfl
@[simp] theorem Dev.wr_out (o v : Nat) (s : Dev) : (s.wr o v).out = s.out := rfl
@[simp] theorem Dev.wr_free (o v : Nat) (s : Dev) : (s.wr o v).free = s.free := rfl
@[simp] theorem Dev.wr_pins (o v : Nat) (s : Dev) : (s.wr o v).pins = s.pins := rfl
@[simp] theorem Dev.wr_boot (o v : Nat) (s : Dev) : (s.wr o v).boot = s.boot := rfl
@[simp] theorem Dev.wr_pwr (o v : Nat) (s : Dev) : (s.wr o v).pwr = s.pwr := rfl
@[simp] theorem Dev.wr_mbox (o v : Nat) (s : Dev) : (s.wr o v).mbox = s.mbox := rfl
@[simp] theorem Dev.wr_bells (o v : Nat) (s : Dev) : (s.wr o v).bells = s.bells := rfl
@[simp] theorem Dev.wr_time (o v : Nat) (s : Dev) : (s.wr o v).time = s.time := rfl
@[simp] theorem Dev.wr_keys (o v : Nat) (s : Dev) : (s.wr o v).keys = s.keys := rfl
@[simp] theorem Dev.wr_cache (o v : Nat) (s : Dev) : (s.wr o v).cache = s.cache := rfl
@[simp] theorem Dev.wr_la (o v : Nat) (s : Dev) : (s.wr o v).la = s.la := rfl
@[simp] theorem Dev.wr_laLast (o v : Nat) (s : Dev) : (s.wr o v).laLast = s.laLast := rfl
@[simp] theorem Dev.wr_lcReset (o v : Nat) (s : Dev) : (s.wr o v).lcReset = s.lcReset := rfl
@[simp] theorem Dev.wr_hst (o v : Nat) (s : Dev) : (s.wr o v).hst = s.hst := rfl
@[simp] theorem Dev.wr_upd (o v : Nat) (s : Dev) : (s.wr o v).upd = s.upd := rfl
@[simp] theorem Dev.wr_dram (o v : Nat) (s : Dev) : (s.wr o v).dram = s.dram := rfl
@[simp] theorem Dev.wr_once (o v : Nat) (s : Dev) : (s.wr o v).once = s.once := rfl
@[simp] theorem Dev.wr_intc (o v : Nat) (s : Dev) : (s.wr o v).intc = s.intc := rfl
@[simp] theorem Dev.wr_eps (o v : Nat) (s : Dev) : (s.wr o v).eps = s.eps := rfl
@[simp] theorem Dev.wr_ck (o v : Nat) (s : Dev) : (s.wr o v).ck = s.ck := rfl
@[simp] theorem Dev.wr_lk (o v : Nat) (s : Dev) : (s.wr o v).lk = s.lk := rfl
@[simp] theorem Dev.wr_can (o v : Nat) (s : Dev) : (s.wr o v).can = s.can := rfl
@[simp] theorem Dev.wr_hbuf (o v : Nat) (s : Dev) : (s.wr o v).hbuf = s.hbuf := rfl
@[simp] theorem Dev.wr_tts (o v : Nat) (s : Dev) : (s.wr o v).tts = s.tts := rfl
@[simp] theorem Dev.wr_turn (o v : Nat) (s : Dev) : (s.wr o v).turn = s.turn := rfl
@[simp] theorem Dev.wr_lin (o v : Nat) (s : Dev) : (s.wr o v).lin = s.lin := rfl
@[simp] theorem Dev.wr_ser (o v : Nat) (s : Dev) : (s.wr o v).ser = s.ser := rfl
@[simp] theorem Dev.wr_gwy (o v : Nat) (s : Dev) : (s.wr o v).gwy = s.gwy := rfl
@[simp] theorem Dev.wr_mdio (o v : Nat) (s : Dev) : (s.wr o v).mdio = s.mdio := rfl
@[simp] theorem Dev.wr_pair (o v : Nat) (s : Dev) : (s.wr o v).pair = s.pair := rfl
@[simp] theorem Dev.wr_hif (o v : Nat) (s : Dev) : (s.wr o v).hif = s.hif := rfl

@[simp] theorem Dev.setFld_snap (o hi lo v : Nat) (s : Dev) : (s.setFld o hi lo v).snap = s.snap := rfl
@[simp] theorem Dev.setFld_held (o hi lo v : Nat) (s : Dev) : (s.setFld o hi lo v).held = s.held := rfl
@[simp] theorem Dev.setFld_snapTurn (o hi lo v : Nat) (s : Dev) : (s.setFld o hi lo v).snapTurn = s.snapTurn := rfl
@[simp] theorem Dev.setFld_snapEx (o hi lo v : Nat) (s : Dev) : (s.setFld o hi lo v).snapEx = s.snapEx := rfl
@[simp] theorem Dev.setFld_tabs (o hi lo v : Nat) (s : Dev) : (s.setFld o hi lo v).tabs = s.tabs := rfl
@[simp] theorem Dev.setFld_rdata (o hi lo v : Nat) (s : Dev) : (s.setFld o hi lo v).rdata = s.rdata := rfl
@[simp] theorem Dev.setFld_out (o hi lo v : Nat) (s : Dev) : (s.setFld o hi lo v).out = s.out := rfl
@[simp] theorem Dev.setFld_free (o hi lo v : Nat) (s : Dev) : (s.setFld o hi lo v).free = s.free := rfl
@[simp] theorem Dev.setFld_pins (o hi lo v : Nat) (s : Dev) : (s.setFld o hi lo v).pins = s.pins := rfl
@[simp] theorem Dev.setFld_boot (o hi lo v : Nat) (s : Dev) : (s.setFld o hi lo v).boot = s.boot := rfl
@[simp] theorem Dev.setFld_pwr (o hi lo v : Nat) (s : Dev) : (s.setFld o hi lo v).pwr = s.pwr := rfl
@[simp] theorem Dev.setFld_mbox (o hi lo v : Nat) (s : Dev) : (s.setFld o hi lo v).mbox = s.mbox := rfl
@[simp] theorem Dev.setFld_bells (o hi lo v : Nat) (s : Dev) : (s.setFld o hi lo v).bells = s.bells := rfl
@[simp] theorem Dev.setFld_time (o hi lo v : Nat) (s : Dev) : (s.setFld o hi lo v).time = s.time := rfl
@[simp] theorem Dev.setFld_keys (o hi lo v : Nat) (s : Dev) : (s.setFld o hi lo v).keys = s.keys := rfl
@[simp] theorem Dev.setFld_cache (o hi lo v : Nat) (s : Dev) : (s.setFld o hi lo v).cache = s.cache := rfl
@[simp] theorem Dev.setFld_la (o hi lo v : Nat) (s : Dev) : (s.setFld o hi lo v).la = s.la := rfl
@[simp] theorem Dev.setFld_laLast (o hi lo v : Nat) (s : Dev) : (s.setFld o hi lo v).laLast = s.laLast := rfl
@[simp] theorem Dev.setFld_lcReset (o hi lo v : Nat) (s : Dev) : (s.setFld o hi lo v).lcReset = s.lcReset := rfl
@[simp] theorem Dev.setFld_hst (o hi lo v : Nat) (s : Dev) : (s.setFld o hi lo v).hst = s.hst := rfl
@[simp] theorem Dev.setFld_upd (o hi lo v : Nat) (s : Dev) : (s.setFld o hi lo v).upd = s.upd := rfl
@[simp] theorem Dev.setFld_dram (o hi lo v : Nat) (s : Dev) : (s.setFld o hi lo v).dram = s.dram := rfl
@[simp] theorem Dev.setFld_once (o hi lo v : Nat) (s : Dev) : (s.setFld o hi lo v).once = s.once := rfl
@[simp] theorem Dev.setFld_intc (o hi lo v : Nat) (s : Dev) : (s.setFld o hi lo v).intc = s.intc := rfl
@[simp] theorem Dev.setFld_eps (o hi lo v : Nat) (s : Dev) : (s.setFld o hi lo v).eps = s.eps := rfl
@[simp] theorem Dev.setFld_ck (o hi lo v : Nat) (s : Dev) : (s.setFld o hi lo v).ck = s.ck := rfl
@[simp] theorem Dev.setFld_lk (o hi lo v : Nat) (s : Dev) : (s.setFld o hi lo v).lk = s.lk := rfl
@[simp] theorem Dev.setFld_can (o hi lo v : Nat) (s : Dev) : (s.setFld o hi lo v).can = s.can := rfl
@[simp] theorem Dev.setFld_hbuf (o hi lo v : Nat) (s : Dev) : (s.setFld o hi lo v).hbuf = s.hbuf := rfl
@[simp] theorem Dev.setFld_tts (o hi lo v : Nat) (s : Dev) : (s.setFld o hi lo v).tts = s.tts := rfl
@[simp] theorem Dev.setFld_turn (o hi lo v : Nat) (s : Dev) : (s.setFld o hi lo v).turn = s.turn := rfl
@[simp] theorem Dev.setFld_lin (o hi lo v : Nat) (s : Dev) : (s.setFld o hi lo v).lin = s.lin := rfl
@[simp] theorem Dev.setFld_ser (o hi lo v : Nat) (s : Dev) : (s.setFld o hi lo v).ser = s.ser := rfl
@[simp] theorem Dev.setFld_gwy (o hi lo v : Nat) (s : Dev) : (s.setFld o hi lo v).gwy = s.gwy := rfl
@[simp] theorem Dev.setFld_mdio (o hi lo v : Nat) (s : Dev) : (s.setFld o hi lo v).mdio = s.mdio := rfl
@[simp] theorem Dev.setFld_pair (o hi lo v : Nat) (s : Dev) : (s.setFld o hi lo v).pair = s.pair := rfl
@[simp] theorem Dev.setFld_hif (o hi lo v : Nat) (s : Dev) : (s.setFld o hi lo v).hif = s.hif := rfl

@[simp] theorem Dev.setBit_snap (o i : Nat) (b : Bool) (s : Dev) : (s.setBit o i b).snap = s.snap := rfl
@[simp] theorem Dev.setBit_held (o i : Nat) (b : Bool) (s : Dev) : (s.setBit o i b).held = s.held := rfl
@[simp] theorem Dev.setBit_snapTurn (o i : Nat) (b : Bool) (s : Dev) : (s.setBit o i b).snapTurn = s.snapTurn := rfl
@[simp] theorem Dev.setBit_snapEx (o i : Nat) (b : Bool) (s : Dev) : (s.setBit o i b).snapEx = s.snapEx := rfl
@[simp] theorem Dev.setBit_tabs (o i : Nat) (b : Bool) (s : Dev) : (s.setBit o i b).tabs = s.tabs := rfl
@[simp] theorem Dev.setBit_rdata (o i : Nat) (b : Bool) (s : Dev) : (s.setBit o i b).rdata = s.rdata := rfl
@[simp] theorem Dev.setBit_out (o i : Nat) (b : Bool) (s : Dev) : (s.setBit o i b).out = s.out := rfl
@[simp] theorem Dev.setBit_free (o i : Nat) (b : Bool) (s : Dev) : (s.setBit o i b).free = s.free := rfl
@[simp] theorem Dev.setBit_pins (o i : Nat) (b : Bool) (s : Dev) : (s.setBit o i b).pins = s.pins := rfl
@[simp] theorem Dev.setBit_boot (o i : Nat) (b : Bool) (s : Dev) : (s.setBit o i b).boot = s.boot := rfl
@[simp] theorem Dev.setBit_pwr (o i : Nat) (b : Bool) (s : Dev) : (s.setBit o i b).pwr = s.pwr := rfl
@[simp] theorem Dev.setBit_mbox (o i : Nat) (b : Bool) (s : Dev) : (s.setBit o i b).mbox = s.mbox := rfl
@[simp] theorem Dev.setBit_bells (o i : Nat) (b : Bool) (s : Dev) : (s.setBit o i b).bells = s.bells := rfl
@[simp] theorem Dev.setBit_time (o i : Nat) (b : Bool) (s : Dev) : (s.setBit o i b).time = s.time := rfl
@[simp] theorem Dev.setBit_keys (o i : Nat) (b : Bool) (s : Dev) : (s.setBit o i b).keys = s.keys := rfl
@[simp] theorem Dev.setBit_cache (o i : Nat) (b : Bool) (s : Dev) : (s.setBit o i b).cache = s.cache := rfl
@[simp] theorem Dev.setBit_la (o i : Nat) (b : Bool) (s : Dev) : (s.setBit o i b).la = s.la := rfl
@[simp] theorem Dev.setBit_laLast (o i : Nat) (b : Bool) (s : Dev) : (s.setBit o i b).laLast = s.laLast := rfl
@[simp] theorem Dev.setBit_lcReset (o i : Nat) (b : Bool) (s : Dev) : (s.setBit o i b).lcReset = s.lcReset := rfl
@[simp] theorem Dev.setBit_hst (o i : Nat) (b : Bool) (s : Dev) : (s.setBit o i b).hst = s.hst := rfl
@[simp] theorem Dev.setBit_upd (o i : Nat) (b : Bool) (s : Dev) : (s.setBit o i b).upd = s.upd := rfl
@[simp] theorem Dev.setBit_dram (o i : Nat) (b : Bool) (s : Dev) : (s.setBit o i b).dram = s.dram := rfl
@[simp] theorem Dev.setBit_once (o i : Nat) (b : Bool) (s : Dev) : (s.setBit o i b).once = s.once := rfl
@[simp] theorem Dev.setBit_intc (o i : Nat) (b : Bool) (s : Dev) : (s.setBit o i b).intc = s.intc := rfl
@[simp] theorem Dev.setBit_eps (o i : Nat) (b : Bool) (s : Dev) : (s.setBit o i b).eps = s.eps := rfl
@[simp] theorem Dev.setBit_ck (o i : Nat) (b : Bool) (s : Dev) : (s.setBit o i b).ck = s.ck := rfl
@[simp] theorem Dev.setBit_lk (o i : Nat) (b : Bool) (s : Dev) : (s.setBit o i b).lk = s.lk := rfl
@[simp] theorem Dev.setBit_can (o i : Nat) (b : Bool) (s : Dev) : (s.setBit o i b).can = s.can := rfl
@[simp] theorem Dev.setBit_hbuf (o i : Nat) (b : Bool) (s : Dev) : (s.setBit o i b).hbuf = s.hbuf := rfl
@[simp] theorem Dev.setBit_tts (o i : Nat) (b : Bool) (s : Dev) : (s.setBit o i b).tts = s.tts := rfl
@[simp] theorem Dev.setBit_turn (o i : Nat) (b : Bool) (s : Dev) : (s.setBit o i b).turn = s.turn := rfl
@[simp] theorem Dev.setBit_lin (o i : Nat) (b : Bool) (s : Dev) : (s.setBit o i b).lin = s.lin := rfl
@[simp] theorem Dev.setBit_ser (o i : Nat) (b : Bool) (s : Dev) : (s.setBit o i b).ser = s.ser := rfl
@[simp] theorem Dev.setBit_gwy (o i : Nat) (b : Bool) (s : Dev) : (s.setBit o i b).gwy = s.gwy := rfl
@[simp] theorem Dev.setBit_mdio (o i : Nat) (b : Bool) (s : Dev) : (s.setBit o i b).mdio = s.mdio := rfl
@[simp] theorem Dev.setBit_pair (o i : Nat) (b : Bool) (s : Dev) : (s.setBit o i b).pair = s.pair := rfl
@[simp] theorem Dev.setBit_hif (o i : Nat) (b : Bool) (s : Dev) : (s.setBit o i b).hif = s.hif := rfl

@[simp] theorem Dev.wr64_snap (o v : Nat) (s : Dev) : (s.wr64 o v).snap = s.snap := rfl
@[simp] theorem Dev.wr64_held (o v : Nat) (s : Dev) : (s.wr64 o v).held = s.held := rfl
@[simp] theorem Dev.wr64_snapTurn (o v : Nat) (s : Dev) : (s.wr64 o v).snapTurn = s.snapTurn := rfl
@[simp] theorem Dev.wr64_snapEx (o v : Nat) (s : Dev) : (s.wr64 o v).snapEx = s.snapEx := rfl
@[simp] theorem Dev.wr64_tabs (o v : Nat) (s : Dev) : (s.wr64 o v).tabs = s.tabs := rfl
@[simp] theorem Dev.wr64_rdata (o v : Nat) (s : Dev) : (s.wr64 o v).rdata = s.rdata := rfl
@[simp] theorem Dev.wr64_out (o v : Nat) (s : Dev) : (s.wr64 o v).out = s.out := rfl
@[simp] theorem Dev.wr64_free (o v : Nat) (s : Dev) : (s.wr64 o v).free = s.free := rfl
@[simp] theorem Dev.wr64_pins (o v : Nat) (s : Dev) : (s.wr64 o v).pins = s.pins := rfl
@[simp] theorem Dev.wr64_boot (o v : Nat) (s : Dev) : (s.wr64 o v).boot = s.boot := rfl
@[simp] theorem Dev.wr64_pwr (o v : Nat) (s : Dev) : (s.wr64 o v).pwr = s.pwr := rfl
@[simp] theorem Dev.wr64_mbox (o v : Nat) (s : Dev) : (s.wr64 o v).mbox = s.mbox := rfl
@[simp] theorem Dev.wr64_bells (o v : Nat) (s : Dev) : (s.wr64 o v).bells = s.bells := rfl
@[simp] theorem Dev.wr64_time (o v : Nat) (s : Dev) : (s.wr64 o v).time = s.time := rfl
@[simp] theorem Dev.wr64_keys (o v : Nat) (s : Dev) : (s.wr64 o v).keys = s.keys := rfl
@[simp] theorem Dev.wr64_cache (o v : Nat) (s : Dev) : (s.wr64 o v).cache = s.cache := rfl
@[simp] theorem Dev.wr64_la (o v : Nat) (s : Dev) : (s.wr64 o v).la = s.la := rfl
@[simp] theorem Dev.wr64_laLast (o v : Nat) (s : Dev) : (s.wr64 o v).laLast = s.laLast := rfl
@[simp] theorem Dev.wr64_lcReset (o v : Nat) (s : Dev) : (s.wr64 o v).lcReset = s.lcReset := rfl
@[simp] theorem Dev.wr64_hst (o v : Nat) (s : Dev) : (s.wr64 o v).hst = s.hst := rfl
@[simp] theorem Dev.wr64_upd (o v : Nat) (s : Dev) : (s.wr64 o v).upd = s.upd := rfl
@[simp] theorem Dev.wr64_dram (o v : Nat) (s : Dev) : (s.wr64 o v).dram = s.dram := rfl
@[simp] theorem Dev.wr64_once (o v : Nat) (s : Dev) : (s.wr64 o v).once = s.once := rfl
@[simp] theorem Dev.wr64_intc (o v : Nat) (s : Dev) : (s.wr64 o v).intc = s.intc := rfl
@[simp] theorem Dev.wr64_eps (o v : Nat) (s : Dev) : (s.wr64 o v).eps = s.eps := rfl
@[simp] theorem Dev.wr64_ck (o v : Nat) (s : Dev) : (s.wr64 o v).ck = s.ck := rfl
@[simp] theorem Dev.wr64_lk (o v : Nat) (s : Dev) : (s.wr64 o v).lk = s.lk := rfl
@[simp] theorem Dev.wr64_can (o v : Nat) (s : Dev) : (s.wr64 o v).can = s.can := rfl
@[simp] theorem Dev.wr64_hbuf (o v : Nat) (s : Dev) : (s.wr64 o v).hbuf = s.hbuf := rfl
@[simp] theorem Dev.wr64_tts (o v : Nat) (s : Dev) : (s.wr64 o v).tts = s.tts := rfl
@[simp] theorem Dev.wr64_turn (o v : Nat) (s : Dev) : (s.wr64 o v).turn = s.turn := rfl
@[simp] theorem Dev.wr64_lin (o v : Nat) (s : Dev) : (s.wr64 o v).lin = s.lin := rfl
@[simp] theorem Dev.wr64_ser (o v : Nat) (s : Dev) : (s.wr64 o v).ser = s.ser := rfl
@[simp] theorem Dev.wr64_gwy (o v : Nat) (s : Dev) : (s.wr64 o v).gwy = s.gwy := rfl
@[simp] theorem Dev.wr64_mdio (o v : Nat) (s : Dev) : (s.wr64 o v).mdio = s.mdio := rfl
@[simp] theorem Dev.wr64_pair (o v : Nat) (s : Dev) : (s.wr64 o v).pair = s.pair := rfl
@[simp] theorem Dev.wr64_hif (o v : Nat) (s : Dev) : (s.wr64 o v).hif = s.hif := rfl

@[simp] theorem Dev.raise_snap (p e : Nat) (s : Dev) : (s.raise p e).snap = s.snap := rfl
@[simp] theorem Dev.raise_held (p e : Nat) (s : Dev) : (s.raise p e).held = s.held := rfl
@[simp] theorem Dev.raise_snapTurn (p e : Nat) (s : Dev) : (s.raise p e).snapTurn = s.snapTurn := rfl
@[simp] theorem Dev.raise_snapEx (p e : Nat) (s : Dev) : (s.raise p e).snapEx = s.snapEx := rfl
@[simp] theorem Dev.raise_tabs (p e : Nat) (s : Dev) : (s.raise p e).tabs = s.tabs := rfl
@[simp] theorem Dev.raise_rdata (p e : Nat) (s : Dev) : (s.raise p e).rdata = s.rdata := rfl
@[simp] theorem Dev.raise_out (p e : Nat) (s : Dev) : (s.raise p e).out = s.out := rfl
@[simp] theorem Dev.raise_free (p e : Nat) (s : Dev) : (s.raise p e).free = s.free := rfl
@[simp] theorem Dev.raise_pins (p e : Nat) (s : Dev) : (s.raise p e).pins = s.pins := rfl
@[simp] theorem Dev.raise_boot (p e : Nat) (s : Dev) : (s.raise p e).boot = s.boot := rfl
@[simp] theorem Dev.raise_pwr (p e : Nat) (s : Dev) : (s.raise p e).pwr = s.pwr := rfl
@[simp] theorem Dev.raise_mbox (p e : Nat) (s : Dev) : (s.raise p e).mbox = s.mbox := rfl
@[simp] theorem Dev.raise_bells (p e : Nat) (s : Dev) : (s.raise p e).bells = s.bells := rfl
@[simp] theorem Dev.raise_time (p e : Nat) (s : Dev) : (s.raise p e).time = s.time := rfl
@[simp] theorem Dev.raise_keys (p e : Nat) (s : Dev) : (s.raise p e).keys = s.keys := rfl
@[simp] theorem Dev.raise_cache (p e : Nat) (s : Dev) : (s.raise p e).cache = s.cache := rfl
@[simp] theorem Dev.raise_la (p e : Nat) (s : Dev) : (s.raise p e).la = s.la := rfl
@[simp] theorem Dev.raise_laLast (p e : Nat) (s : Dev) : (s.raise p e).laLast = s.laLast := rfl
@[simp] theorem Dev.raise_lcReset (p e : Nat) (s : Dev) : (s.raise p e).lcReset = s.lcReset := rfl
@[simp] theorem Dev.raise_hst (p e : Nat) (s : Dev) : (s.raise p e).hst = s.hst := rfl
@[simp] theorem Dev.raise_upd (p e : Nat) (s : Dev) : (s.raise p e).upd = s.upd := rfl
@[simp] theorem Dev.raise_dram (p e : Nat) (s : Dev) : (s.raise p e).dram = s.dram := rfl
@[simp] theorem Dev.raise_once (p e : Nat) (s : Dev) : (s.raise p e).once = s.once := rfl
@[simp] theorem Dev.raise_intc (p e : Nat) (s : Dev) : (s.raise p e).intc = s.intc := rfl
@[simp] theorem Dev.raise_eps (p e : Nat) (s : Dev) : (s.raise p e).eps = s.eps := rfl
@[simp] theorem Dev.raise_ck (p e : Nat) (s : Dev) : (s.raise p e).ck = s.ck := rfl
@[simp] theorem Dev.raise_lk (p e : Nat) (s : Dev) : (s.raise p e).lk = s.lk := rfl
@[simp] theorem Dev.raise_can (p e : Nat) (s : Dev) : (s.raise p e).can = s.can := rfl
@[simp] theorem Dev.raise_hbuf (p e : Nat) (s : Dev) : (s.raise p e).hbuf = s.hbuf := rfl
@[simp] theorem Dev.raise_tts (p e : Nat) (s : Dev) : (s.raise p e).tts = s.tts := rfl
@[simp] theorem Dev.raise_turn (p e : Nat) (s : Dev) : (s.raise p e).turn = s.turn := rfl
@[simp] theorem Dev.raise_lin (p e : Nat) (s : Dev) : (s.raise p e).lin = s.lin := rfl
@[simp] theorem Dev.raise_ser (p e : Nat) (s : Dev) : (s.raise p e).ser = s.ser := rfl
@[simp] theorem Dev.raise_gwy (p e : Nat) (s : Dev) : (s.raise p e).gwy = s.gwy := rfl
@[simp] theorem Dev.raise_mdio (p e : Nat) (s : Dev) : (s.raise p e).mdio = s.mdio := rfl
@[simp] theorem Dev.raise_pair (p e : Nat) (s : Dev) : (s.raise p e).pair = s.pair := rfl
@[simp] theorem Dev.raise_hif (p e : Nat) (s : Dev) : (s.raise p e).hif = s.hif := rfl

/-- A counter changes registers only. -/
theorem Dev.incBy_regs (c : Cnt) (n : Nat) (s : Dev) : s.incBy c n = { s with regs := (s.incBy c n).regs } := by
  unfold Dev.incBy
  split
  · rfl
  · split
    · rfl
    · dsimp only
      split <;> rfl

@[simp] theorem Dev.incBy_snap (c : Cnt) (n : Nat) (s : Dev) : (s.incBy c n).snap = s.snap := by rw [Dev.incBy_regs]
@[simp] theorem Dev.incBy_held (c : Cnt) (n : Nat) (s : Dev) : (s.incBy c n).held = s.held := by rw [Dev.incBy_regs]
@[simp] theorem Dev.incBy_snapTurn (c : Cnt) (n : Nat) (s : Dev) : (s.incBy c n).snapTurn = s.snapTurn := by rw [Dev.incBy_regs]
@[simp] theorem Dev.incBy_snapEx (c : Cnt) (n : Nat) (s : Dev) : (s.incBy c n).snapEx = s.snapEx := by rw [Dev.incBy_regs]
@[simp] theorem Dev.incBy_tabs (c : Cnt) (n : Nat) (s : Dev) : (s.incBy c n).tabs = s.tabs := by rw [Dev.incBy_regs]
@[simp] theorem Dev.incBy_rdata (c : Cnt) (n : Nat) (s : Dev) : (s.incBy c n).rdata = s.rdata := by rw [Dev.incBy_regs]
@[simp] theorem Dev.incBy_out (c : Cnt) (n : Nat) (s : Dev) : (s.incBy c n).out = s.out := by rw [Dev.incBy_regs]
@[simp] theorem Dev.incBy_free (c : Cnt) (n : Nat) (s : Dev) : (s.incBy c n).free = s.free := by rw [Dev.incBy_regs]
@[simp] theorem Dev.incBy_pins (c : Cnt) (n : Nat) (s : Dev) : (s.incBy c n).pins = s.pins := by rw [Dev.incBy_regs]
@[simp] theorem Dev.incBy_boot (c : Cnt) (n : Nat) (s : Dev) : (s.incBy c n).boot = s.boot := by rw [Dev.incBy_regs]
@[simp] theorem Dev.incBy_pwr (c : Cnt) (n : Nat) (s : Dev) : (s.incBy c n).pwr = s.pwr := by rw [Dev.incBy_regs]
@[simp] theorem Dev.incBy_mbox (c : Cnt) (n : Nat) (s : Dev) : (s.incBy c n).mbox = s.mbox := by rw [Dev.incBy_regs]
@[simp] theorem Dev.incBy_bells (c : Cnt) (n : Nat) (s : Dev) : (s.incBy c n).bells = s.bells := by rw [Dev.incBy_regs]
@[simp] theorem Dev.incBy_time (c : Cnt) (n : Nat) (s : Dev) : (s.incBy c n).time = s.time := by rw [Dev.incBy_regs]
@[simp] theorem Dev.incBy_keys (c : Cnt) (n : Nat) (s : Dev) : (s.incBy c n).keys = s.keys := by rw [Dev.incBy_regs]
@[simp] theorem Dev.incBy_cache (c : Cnt) (n : Nat) (s : Dev) : (s.incBy c n).cache = s.cache := by rw [Dev.incBy_regs]
@[simp] theorem Dev.incBy_la (c : Cnt) (n : Nat) (s : Dev) : (s.incBy c n).la = s.la := by rw [Dev.incBy_regs]
@[simp] theorem Dev.incBy_laLast (c : Cnt) (n : Nat) (s : Dev) : (s.incBy c n).laLast = s.laLast := by rw [Dev.incBy_regs]
@[simp] theorem Dev.incBy_lcReset (c : Cnt) (n : Nat) (s : Dev) : (s.incBy c n).lcReset = s.lcReset := by rw [Dev.incBy_regs]
@[simp] theorem Dev.incBy_hst (c : Cnt) (n : Nat) (s : Dev) : (s.incBy c n).hst = s.hst := by rw [Dev.incBy_regs]
@[simp] theorem Dev.incBy_upd (c : Cnt) (n : Nat) (s : Dev) : (s.incBy c n).upd = s.upd := by rw [Dev.incBy_regs]
@[simp] theorem Dev.incBy_dram (c : Cnt) (n : Nat) (s : Dev) : (s.incBy c n).dram = s.dram := by rw [Dev.incBy_regs]
@[simp] theorem Dev.incBy_once (c : Cnt) (n : Nat) (s : Dev) : (s.incBy c n).once = s.once := by rw [Dev.incBy_regs]
@[simp] theorem Dev.incBy_intc (c : Cnt) (n : Nat) (s : Dev) : (s.incBy c n).intc = s.intc := by rw [Dev.incBy_regs]
@[simp] theorem Dev.incBy_eps (c : Cnt) (n : Nat) (s : Dev) : (s.incBy c n).eps = s.eps := by rw [Dev.incBy_regs]
@[simp] theorem Dev.incBy_ck (c : Cnt) (n : Nat) (s : Dev) : (s.incBy c n).ck = s.ck := by rw [Dev.incBy_regs]
@[simp] theorem Dev.incBy_lk (c : Cnt) (n : Nat) (s : Dev) : (s.incBy c n).lk = s.lk := by rw [Dev.incBy_regs]
@[simp] theorem Dev.incBy_can (c : Cnt) (n : Nat) (s : Dev) : (s.incBy c n).can = s.can := by rw [Dev.incBy_regs]
@[simp] theorem Dev.incBy_hbuf (c : Cnt) (n : Nat) (s : Dev) : (s.incBy c n).hbuf = s.hbuf := by rw [Dev.incBy_regs]
@[simp] theorem Dev.incBy_tts (c : Cnt) (n : Nat) (s : Dev) : (s.incBy c n).tts = s.tts := by rw [Dev.incBy_regs]
@[simp] theorem Dev.incBy_turn (c : Cnt) (n : Nat) (s : Dev) : (s.incBy c n).turn = s.turn := by rw [Dev.incBy_regs]
@[simp] theorem Dev.incBy_lin (c : Cnt) (n : Nat) (s : Dev) : (s.incBy c n).lin = s.lin := by rw [Dev.incBy_regs]
@[simp] theorem Dev.incBy_ser (c : Cnt) (n : Nat) (s : Dev) : (s.incBy c n).ser = s.ser := by rw [Dev.incBy_regs]
@[simp] theorem Dev.incBy_gwy (c : Cnt) (n : Nat) (s : Dev) : (s.incBy c n).gwy = s.gwy := by rw [Dev.incBy_regs]
@[simp] theorem Dev.incBy_mdio (c : Cnt) (n : Nat) (s : Dev) : (s.incBy c n).mdio = s.mdio := by rw [Dev.incBy_regs]
@[simp] theorem Dev.incBy_pair (c : Cnt) (n : Nat) (s : Dev) : (s.incBy c n).pair = s.pair := by rw [Dev.incBy_regs]
@[simp] theorem Dev.incBy_hif (c : Cnt) (n : Nat) (s : Dev) : (s.incBy c n).hif = s.hif := by rw [Dev.incBy_regs]

@[simp] theorem Dev.inc_snap (c : Cnt) (s : Dev) : (s.inc c).snap = s.snap := Dev.incBy_snap c 1 s
@[simp] theorem Dev.inc_held (c : Cnt) (s : Dev) : (s.inc c).held = s.held := Dev.incBy_held c 1 s
@[simp] theorem Dev.inc_snapTurn (c : Cnt) (s : Dev) : (s.inc c).snapTurn = s.snapTurn := Dev.incBy_snapTurn c 1 s
@[simp] theorem Dev.inc_snapEx (c : Cnt) (s : Dev) : (s.inc c).snapEx = s.snapEx := Dev.incBy_snapEx c 1 s
@[simp] theorem Dev.inc_tabs (c : Cnt) (s : Dev) : (s.inc c).tabs = s.tabs := Dev.incBy_tabs c 1 s
@[simp] theorem Dev.inc_rdata (c : Cnt) (s : Dev) : (s.inc c).rdata = s.rdata := Dev.incBy_rdata c 1 s
@[simp] theorem Dev.inc_out (c : Cnt) (s : Dev) : (s.inc c).out = s.out := Dev.incBy_out c 1 s
@[simp] theorem Dev.inc_free (c : Cnt) (s : Dev) : (s.inc c).free = s.free := Dev.incBy_free c 1 s
@[simp] theorem Dev.inc_pins (c : Cnt) (s : Dev) : (s.inc c).pins = s.pins := Dev.incBy_pins c 1 s
@[simp] theorem Dev.inc_boot (c : Cnt) (s : Dev) : (s.inc c).boot = s.boot := Dev.incBy_boot c 1 s
@[simp] theorem Dev.inc_pwr (c : Cnt) (s : Dev) : (s.inc c).pwr = s.pwr := Dev.incBy_pwr c 1 s
@[simp] theorem Dev.inc_mbox (c : Cnt) (s : Dev) : (s.inc c).mbox = s.mbox := Dev.incBy_mbox c 1 s
@[simp] theorem Dev.inc_bells (c : Cnt) (s : Dev) : (s.inc c).bells = s.bells := Dev.incBy_bells c 1 s
@[simp] theorem Dev.inc_time (c : Cnt) (s : Dev) : (s.inc c).time = s.time := Dev.incBy_time c 1 s
@[simp] theorem Dev.inc_keys (c : Cnt) (s : Dev) : (s.inc c).keys = s.keys := Dev.incBy_keys c 1 s
@[simp] theorem Dev.inc_cache (c : Cnt) (s : Dev) : (s.inc c).cache = s.cache := Dev.incBy_cache c 1 s
@[simp] theorem Dev.inc_la (c : Cnt) (s : Dev) : (s.inc c).la = s.la := Dev.incBy_la c 1 s
@[simp] theorem Dev.inc_laLast (c : Cnt) (s : Dev) : (s.inc c).laLast = s.laLast := Dev.incBy_laLast c 1 s
@[simp] theorem Dev.inc_lcReset (c : Cnt) (s : Dev) : (s.inc c).lcReset = s.lcReset := Dev.incBy_lcReset c 1 s
@[simp] theorem Dev.inc_hst (c : Cnt) (s : Dev) : (s.inc c).hst = s.hst := Dev.incBy_hst c 1 s
@[simp] theorem Dev.inc_upd (c : Cnt) (s : Dev) : (s.inc c).upd = s.upd := Dev.incBy_upd c 1 s
@[simp] theorem Dev.inc_dram (c : Cnt) (s : Dev) : (s.inc c).dram = s.dram := Dev.incBy_dram c 1 s
@[simp] theorem Dev.inc_once (c : Cnt) (s : Dev) : (s.inc c).once = s.once := Dev.incBy_once c 1 s
@[simp] theorem Dev.inc_intc (c : Cnt) (s : Dev) : (s.inc c).intc = s.intc := Dev.incBy_intc c 1 s
@[simp] theorem Dev.inc_eps (c : Cnt) (s : Dev) : (s.inc c).eps = s.eps := Dev.incBy_eps c 1 s
@[simp] theorem Dev.inc_ck (c : Cnt) (s : Dev) : (s.inc c).ck = s.ck := Dev.incBy_ck c 1 s
@[simp] theorem Dev.inc_lk (c : Cnt) (s : Dev) : (s.inc c).lk = s.lk := Dev.incBy_lk c 1 s
@[simp] theorem Dev.inc_can (c : Cnt) (s : Dev) : (s.inc c).can = s.can := Dev.incBy_can c 1 s
@[simp] theorem Dev.inc_hbuf (c : Cnt) (s : Dev) : (s.inc c).hbuf = s.hbuf := Dev.incBy_hbuf c 1 s
@[simp] theorem Dev.inc_tts (c : Cnt) (s : Dev) : (s.inc c).tts = s.tts := Dev.incBy_tts c 1 s
@[simp] theorem Dev.inc_turn (c : Cnt) (s : Dev) : (s.inc c).turn = s.turn := Dev.incBy_turn c 1 s
@[simp] theorem Dev.inc_lin (c : Cnt) (s : Dev) : (s.inc c).lin = s.lin := Dev.incBy_lin c 1 s
@[simp] theorem Dev.inc_ser (c : Cnt) (s : Dev) : (s.inc c).ser = s.ser := Dev.incBy_ser c 1 s
@[simp] theorem Dev.inc_gwy (c : Cnt) (s : Dev) : (s.inc c).gwy = s.gwy := Dev.incBy_gwy c 1 s
@[simp] theorem Dev.inc_mdio (c : Cnt) (s : Dev) : (s.inc c).mdio = s.mdio := Dev.incBy_mdio c 1 s
@[simp] theorem Dev.inc_pair (c : Cnt) (s : Dev) : (s.inc c).pair = s.pair := Dev.incBy_pair c 1 s
@[simp] theorem Dev.inc_hif (c : Cnt) (s : Dev) : (s.inc c).hif = s.hif := Dev.incBy_hif c 1 s

/-- A 64-bit counter changes registers only. -/
theorem Dev.add64_regs (o n : Nat) (s : Dev) : s.add64 o n = { s with regs := (s.add64 o n).regs } := by
  unfold Dev.add64
  split <;> rfl

@[simp] theorem Dev.add64_snap (o n : Nat) (s : Dev) : (s.add64 o n).snap = s.snap := by rw [Dev.add64_regs]
@[simp] theorem Dev.add64_held (o n : Nat) (s : Dev) : (s.add64 o n).held = s.held := by rw [Dev.add64_regs]
@[simp] theorem Dev.add64_snapTurn (o n : Nat) (s : Dev) : (s.add64 o n).snapTurn = s.snapTurn := by rw [Dev.add64_regs]
@[simp] theorem Dev.add64_snapEx (o n : Nat) (s : Dev) : (s.add64 o n).snapEx = s.snapEx := by rw [Dev.add64_regs]
@[simp] theorem Dev.add64_tabs (o n : Nat) (s : Dev) : (s.add64 o n).tabs = s.tabs := by rw [Dev.add64_regs]
@[simp] theorem Dev.add64_rdata (o n : Nat) (s : Dev) : (s.add64 o n).rdata = s.rdata := by rw [Dev.add64_regs]
@[simp] theorem Dev.add64_out (o n : Nat) (s : Dev) : (s.add64 o n).out = s.out := by rw [Dev.add64_regs]
@[simp] theorem Dev.add64_free (o n : Nat) (s : Dev) : (s.add64 o n).free = s.free := by rw [Dev.add64_regs]
@[simp] theorem Dev.add64_pins (o n : Nat) (s : Dev) : (s.add64 o n).pins = s.pins := by rw [Dev.add64_regs]
@[simp] theorem Dev.add64_boot (o n : Nat) (s : Dev) : (s.add64 o n).boot = s.boot := by rw [Dev.add64_regs]
@[simp] theorem Dev.add64_pwr (o n : Nat) (s : Dev) : (s.add64 o n).pwr = s.pwr := by rw [Dev.add64_regs]
@[simp] theorem Dev.add64_mbox (o n : Nat) (s : Dev) : (s.add64 o n).mbox = s.mbox := by rw [Dev.add64_regs]
@[simp] theorem Dev.add64_bells (o n : Nat) (s : Dev) : (s.add64 o n).bells = s.bells := by rw [Dev.add64_regs]
@[simp] theorem Dev.add64_time (o n : Nat) (s : Dev) : (s.add64 o n).time = s.time := by rw [Dev.add64_regs]
@[simp] theorem Dev.add64_keys (o n : Nat) (s : Dev) : (s.add64 o n).keys = s.keys := by rw [Dev.add64_regs]
@[simp] theorem Dev.add64_cache (o n : Nat) (s : Dev) : (s.add64 o n).cache = s.cache := by rw [Dev.add64_regs]
@[simp] theorem Dev.add64_la (o n : Nat) (s : Dev) : (s.add64 o n).la = s.la := by rw [Dev.add64_regs]
@[simp] theorem Dev.add64_laLast (o n : Nat) (s : Dev) : (s.add64 o n).laLast = s.laLast := by rw [Dev.add64_regs]
@[simp] theorem Dev.add64_lcReset (o n : Nat) (s : Dev) : (s.add64 o n).lcReset = s.lcReset := by rw [Dev.add64_regs]
@[simp] theorem Dev.add64_hst (o n : Nat) (s : Dev) : (s.add64 o n).hst = s.hst := by rw [Dev.add64_regs]
@[simp] theorem Dev.add64_upd (o n : Nat) (s : Dev) : (s.add64 o n).upd = s.upd := by rw [Dev.add64_regs]
@[simp] theorem Dev.add64_dram (o n : Nat) (s : Dev) : (s.add64 o n).dram = s.dram := by rw [Dev.add64_regs]
@[simp] theorem Dev.add64_once (o n : Nat) (s : Dev) : (s.add64 o n).once = s.once := by rw [Dev.add64_regs]
@[simp] theorem Dev.add64_intc (o n : Nat) (s : Dev) : (s.add64 o n).intc = s.intc := by rw [Dev.add64_regs]
@[simp] theorem Dev.add64_eps (o n : Nat) (s : Dev) : (s.add64 o n).eps = s.eps := by rw [Dev.add64_regs]
@[simp] theorem Dev.add64_ck (o n : Nat) (s : Dev) : (s.add64 o n).ck = s.ck := by rw [Dev.add64_regs]
@[simp] theorem Dev.add64_lk (o n : Nat) (s : Dev) : (s.add64 o n).lk = s.lk := by rw [Dev.add64_regs]
@[simp] theorem Dev.add64_can (o n : Nat) (s : Dev) : (s.add64 o n).can = s.can := by rw [Dev.add64_regs]
@[simp] theorem Dev.add64_hbuf (o n : Nat) (s : Dev) : (s.add64 o n).hbuf = s.hbuf := by rw [Dev.add64_regs]
@[simp] theorem Dev.add64_tts (o n : Nat) (s : Dev) : (s.add64 o n).tts = s.tts := by rw [Dev.add64_regs]
@[simp] theorem Dev.add64_turn (o n : Nat) (s : Dev) : (s.add64 o n).turn = s.turn := by rw [Dev.add64_regs]
@[simp] theorem Dev.add64_lin (o n : Nat) (s : Dev) : (s.add64 o n).lin = s.lin := by rw [Dev.add64_regs]
@[simp] theorem Dev.add64_ser (o n : Nat) (s : Dev) : (s.add64 o n).ser = s.ser := by rw [Dev.add64_regs]
@[simp] theorem Dev.add64_gwy (o n : Nat) (s : Dev) : (s.add64 o n).gwy = s.gwy := by rw [Dev.add64_regs]
@[simp] theorem Dev.add64_mdio (o n : Nat) (s : Dev) : (s.add64 o n).mdio = s.mdio := by rw [Dev.add64_regs]
@[simp] theorem Dev.add64_pair (o n : Nat) (s : Dev) : (s.add64 o n).pair = s.pair := by rw [Dev.add64_regs]
@[simp] theorem Dev.add64_hif (o n : Nat) (s : Dev) : (s.add64 o n).hif = s.hif := by rw [Dev.add64_regs]

end Sys2Proof.Machine
end

