-- ==== Sys2Proof/Laws/Ops.lean ====
section
/-! SUPPORT. What a read gives after the shared operations of Ops: registers, fields, bits, events, counters and table words. -/

namespace Sys2Proof.Machine

theorem bitsOf_testBit (v hi lo i : Nat) : (bitsOf v hi lo).testBit i = (decide (i < hi + 1 - lo) && v.testBit (lo + i)) := by
  unfold bitsOf
  rw [Nat.testBit_mod_two_pow, Nat.testBit_shiftRight]

theorem withBits_split (v hi lo x : Nat) : withBits v hi lo x =
    2 ^ lo * (2 ^ (hi + 1 - lo) * (v / 2 ^ (lo + (hi + 1 - lo))) + x % 2 ^ (hi + 1 - lo)) + v % 2 ^ lo := by
  unfold withBits bitsOf
  dsimp only
  generalize hi + 1 - lo = w
  rw [Nat.shiftRight_eq_div_pow, Nat.pow_add, ← Nat.div_div_eq_div_mul]
  have h1 := Nat.div_add_mod v (2 ^ lo)
  have h2 := Nat.div_add_mod (v / 2 ^ lo) (2 ^ w)
  generalize hq : v / 2 ^ lo = q at *
  generalize hh : q / 2 ^ w = h at *
  generalize q % 2 ^ w = m at *
  generalize v % 2 ^ lo = r at *
  generalize x % 2 ^ w = y
  generalize 2 ^ w = W at *
  generalize 2 ^ lo = L at *
  subst h2
  rw [← h1, Nat.mul_add, Nat.mul_add, Nat.mul_comm m L, Nat.mul_comm y L]
  omega

/-- A word with a field replaced: the field's bits, and every other bit as it was. -/
theorem withBits_testBit (v hi lo x i : Nat) :
    (withBits v hi lo x).testBit i = if lo ≤ i ∧ i < lo + (hi + 1 - lo) then x.testBit (i - lo) else v.testBit i := by
  rw [withBits_split]
  generalize hi + 1 - lo = w
  rw [Nat.testBit_two_pow_mul_add _ (Nat.mod_lt _ (Nat.two_pow_pos lo))]
  by_cases h1 : i < lo
  · have : ¬ (lo ≤ i ∧ i < lo + w) := by omega
    simp [h1, this, Nat.testBit_mod_two_pow]
  · rw [if_neg h1, Nat.testBit_two_pow_mul_add _ (Nat.mod_lt _ (Nat.two_pow_pos w))]
    by_cases h2 : i - lo < w
    · have : lo ≤ i ∧ i < lo + w := by omega
      simp [h2, this, Nat.testBit_mod_two_pow]
    · have h3 : ¬ (lo ≤ i ∧ i < lo + w) := by omega
      rw [if_neg h2, if_neg h3, Nat.testBit_div_two_pow]
      congr 1
      omega

theorem withBits_lt (v hi lo x n : Nat) (hv : v < 2 ^ n) (h : lo + (hi + 1 - lo) ≤ n) : withBits v hi lo x < 2 ^ n := by
  apply Nat.lt_pow_two_of_testBit
  intro i hi'
  rw [withBits_testBit]
  split
  · omega
  · exact Nat.testBit_lt_two_pow (Nat.lt_of_lt_of_le hv (Nat.pow_le_pow_right (by omega) hi'))

/-- A field of a word after it was replaced. -/
theorem bitsOf_withBits (v hi lo x : Nat) : bitsOf (withBits v hi lo x) hi lo = x % 2 ^ (hi + 1 - lo) := by
  apply Nat.eq_of_testBit_eq
  intro i
  rw [bitsOf_testBit, withBits_testBit, Nat.testBit_mod_two_pow]
  by_cases h : i < hi + 1 - lo
  · have : lo ≤ lo + i ∧ lo + i < lo + (hi + 1 - lo) := by omega
    simp [h, this]
  · simp [h]

/-- A field of a word after a field beside it was replaced. -/
theorem bitsOf_withBits_ne (v hi lo x h2 l2 : Nat) (h : h2 < lo ∨ hi < l2) :
    bitsOf (withBits v hi lo x) h2 l2 = bitsOf v h2 l2 := by
  apply Nat.eq_of_testBit_eq
  intro i
  rw [bitsOf_testBit, bitsOf_testBit, withBits_testBit]
  by_cases h1 : i < h2 + 1 - l2
  · have : ¬ (lo ≤ l2 + i ∧ l2 + i < lo + (hi + 1 - lo)) := by omega
    simp [h1, this]
  · simp [h1]

namespace Dev

theorem rd_lt (s : Dev) (o : Nat) : s.rd o < 2 ^ 32 := (s.reg o).isLt

theorem rd_setReg (s : Dev) (o p : Nat) (w : Word) : (s.setReg o w).rd p = if p = o then w.toNat else s.rd p := by
  unfold rd reg setReg
  split
  · next h => subst h; rw [smGet_set_same]
  · next h => rw [smGet_set_ne _ _ h]

theorem rd_wr (s : Dev) (o p v : Nat) : (s.wr o v).rd p = if p = o then v % 2 ^ 32 else s.rd p := by
  unfold wr
  rw [rd_setReg]
  simp

@[simp] theorem rd_wr_same (s : Dev) (o v : Nat) : (s.wr o v).rd o = v % 2 ^ 32 := by rw [rd_wr, if_pos rfl]

theorem rd_wr_ne (s : Dev) {o p : Nat} (h : p ≠ o) (v : Nat) : (s.wr o v).rd p = s.rd p := by rw [rd_wr, if_neg h]

theorem rd_setFld_ne (s : Dev) {o p : Nat} (h : p ≠ o) (hi lo v : Nat) : (s.setFld o hi lo v).rd p = s.rd p := rd_wr_ne s h _

theorem rd_setBit_ne (s : Dev) {o p : Nat} (h : p ≠ o) (i : Nat) (b : Bool) : (s.setBit o i b).rd p = s.rd p := rd_wr_ne s h _

theorem rd_setFld_same (s : Dev) (o hi lo v : Nat) (h : hi < 32) (hl : lo ≤ hi) :
    (s.setFld o hi lo v).rd o = withBits (s.rd o) hi lo v := by
  unfold setFld
  rw [rd_wr_same, Nat.mod_eq_of_lt]
  exact withBits_lt _ _ _ _ _ (rd_lt s o) (by omega)

/-- A field after it was written. -/
theorem fld_setFld_same (s : Dev) (o hi lo v : Nat) (h : hi < 32) (hl : lo ≤ hi) :
    (s.setFld o hi lo v).fld o hi lo = v % 2 ^ (hi + 1 - lo) := by
  unfold fld
  rw [rd_setFld_same s o hi lo v h hl, bitsOf_withBits]

/-- A field after another field of its register was written. -/
theorem fld_setFld_beside (s : Dev) (o hi lo v h2 l2 : Nat) (h : hi < 32) (hl : lo ≤ hi) (hd : h2 < lo ∨ hi < l2) :
    (s.setFld o hi lo v).fld o h2 l2 = s.fld o h2 l2 := by
  unfold fld
  rw [rd_setFld_same s o hi lo v h hl, bitsOf_withBits_ne _ _ _ _ _ _ hd]

theorem fld_of_rd {s t : Dev} {o : Nat} (h : s.rd o = t.rd o) (hi lo : Nat) : s.fld o hi lo = t.fld o hi lo := by
  unfold fld; rw [h]

theorem bit_of_rd {s t : Dev} {o : Nat} (h : s.rd o = t.rd o) (i : Nat) : s.bit o i = t.bit o i := by
  unfold bit; rw [h]

theorem fld_setFld_ne (s : Dev) {o p : Nat} (h : p ≠ o) (hi lo v h2 l2 : Nat) : (s.setFld o hi lo v).fld p h2 l2 = s.fld p h2 l2 :=
  fld_of_rd (rd_setFld_ne s h hi lo v) h2 l2

theorem fld_wr_ne (s : Dev) {o p : Nat} (h : p ≠ o) (v h2 l2 : Nat) : (s.wr o v).fld p h2 l2 = s.fld p h2 l2 :=
  fld_of_rd (rd_wr_ne s h v) h2 l2

theorem bit_wr_ne (s : Dev) {o p : Nat} (h : p ≠ o) (v i : Nat) : (s.wr o v).bit p i = s.bit p i := bit_of_rd (rd_wr_ne s h v) i

theorem bit_setFld_ne (s : Dev) {o p : Nat} (h : p ≠ o) (hi lo v i : Nat) : (s.setFld o hi lo v).bit p i = s.bit p i :=
  bit_of_rd (rd_setFld_ne s h hi lo v) i

theorem bit_setFld_beside (s : Dev) (o hi lo v i : Nat) (h : hi < 32) (hl : lo ≤ hi) (hd : i < lo ∨ hi < i) :
    (s.setFld o hi lo v).bit o i = s.bit o i := by
  unfold bit
  rw [rd_setFld_same s o hi lo v h hl, withBits_testBit, if_neg (by omega)]

/-- A bit after it was written. -/
theorem bit_setBit_same (s : Dev) (o i : Nat) (b : Bool) (h : i < 32) : (s.setBit o i b).bit o i = b := by
  unfold bit setBit
  rw [rd_setFld_same s o i i _ h (Nat.le_refl i), withBits_testBit, if_pos (by omega)]
  cases b <;> simp

/-- A bit after another bit of its register was written. -/
theorem bit_setBit_beside (s : Dev) (o : Nat) {i j : Nat} (b : Bool) (h : i < 32) (hj : j ≠ i) :
    (s.setBit o i b).bit o j = s.bit o j :=
  bit_setFld_beside s o i i _ j h (Nat.le_refl i) (by omega)

theorem bit_setBit_ne (s : Dev) {o p : Nat} (h : p ≠ o) (i : Nat) (b : Bool) (j : Nat) : (s.setBit o i b).bit p j = s.bit p j :=
  bit_setFld_ne s h i i _ j

theorem fld_setBit_ne (s : Dev) {o p : Nat} (h : p ≠ o) (i : Nat) (b : Bool) (h2 l2 : Nat) :
    (s.setBit o i b).fld p h2 l2 = s.fld p h2 l2 := fld_setFld_ne s h i i _ h2 l2

theorem fld_setBit_beside (s : Dev) (o i : Nat) (b : Bool) (h2 l2 : Nat) (h : i < 32) (hd : h2 < i ∨ i < l2) :
    (s.setBit o i b).fld o h2 l2 = s.fld o h2 l2 := fld_setFld_beside s o i i _ h2 l2 h (Nat.le_refl i) hd

/-- An event raised stands in EV_RAW (R62). -/
theorem bit_raise_same (s : Dev) (p e : Nat) (h : e < 32) : (s.raise p e).bit (p + 0x14) e = true := by
  unfold raise bit
  rw [rd_wr_same, Nat.testBit_mod_two_pow, Nat.testBit_or, Nat.testBit_two_pow]
  simp [h]

theorem rd_raise_ne (s : Dev) {p e o : Nat} (h : o ≠ p + 0x14) : (s.raise p e).rd o = s.rd o := rd_wr_ne s h _

theorem fld_raise_ne (s : Dev) {p e o : Nat} (h : o ≠ p + 0x14) (hi lo : Nat) : (s.raise p e).fld o hi lo = s.fld o hi lo :=
  fld_of_rd (rd_raise_ne s h) hi lo

theorem bit_raise_ne (s : Dev) {p e o : Nat} (h : o ≠ p + 0x14) (i : Nat) : (s.raise p e).bit o i = s.bit o i :=
  bit_of_rd (rd_raise_ne s h) i

/-- An event already raised stays raised. -/
theorem bit_raise_keeps (s : Dev) (p e o i : Nat) (h : s.bit o i = true) : (s.raise p e).bit o i = true := by
  by_cases ho : o = p + 0x14
  · subst ho
    have hi : i < 32 := by
      apply Decidable.byContradiction
      intro hn
      have : (s.rd (p + 0x14)).testBit i = false := Nat.testBit_lt_two_pow
        (Nat.lt_of_lt_of_le (rd_lt s _) (Nat.pow_le_pow_right (by omega) (Nat.not_lt.mp hn)))
      unfold bit at h
      rw [this] at h
      cases h
    unfold raise bit
    rw [rd_wr_same, Nat.testBit_mod_two_pow, Nat.testBit_or]
    unfold bit at h
    simp [h, hi]
  · rw [bit_raise_ne s ho, h]

/-- A counter touches its own word, its SAT register and the EV_RAW of its page. -/
theorem rd_incBy_ne (s : Dev) (c : Cnt) (n : Nat) {o : Nat} (h1 : o ≠ c.at_) (h2 : o ≠ c.sat) (h3 : o ≠ c.page + 0x14) :
    (s.incBy c n).rd o = s.rd o := by
  unfold incBy
  split
  · rfl
  · split
    · exact rd_wr_ne s h1 _
    · dsimp only
      split
      · exact rd_wr_ne s h1 _
      · rw [rd_raise_ne _ h3, rd_setBit_ne _ h2, rd_wr_ne s h1]

theorem rd_inc_ne (s : Dev) (c : Cnt) {o : Nat} (h1 : o ≠ c.at_) (h2 : o ≠ c.sat) (h3 : o ≠ c.page + 0x14) :
    (s.inc c).rd o = s.rd o := rd_incBy_ne s c 1 h1 h2 h3

theorem bit_inc_ne (s : Dev) (c : Cnt) {o : Nat} (h1 : o ≠ c.at_) (h2 : o ≠ c.sat) (h3 : o ≠ c.page + 0x14) (i : Nat) :
    (s.inc c).bit o i = s.bit o i := bit_of_rd (rd_inc_ne s c h1 h2 h3) i

theorem fld_inc_ne (s : Dev) (c : Cnt) {o : Nat} (h1 : o ≠ c.at_) (h2 : o ≠ c.sat) (h3 : o ≠ c.page + 0x14) (hi lo : Nat) :
    (s.inc c).fld o hi lo = s.fld o hi lo := fld_of_rd (rd_inc_ne s c h1 h2 h3) hi lo

/-- A saturating counter below its largest value counts (R365). -/
theorem rd_inc_same (s : Dev) (c : Cnt) (hf : s.frozen c.page = false) (hc : s.rd c.at_ < 0xFFFFFFFE) :
    (s.inc c).rd c.at_ = s.rd c.at_ + 1 := by
  unfold inc incBy
  rw [if_neg (by simp [hf]; omega), if_pos (by omega), rd_wr_same, Nat.mod_eq_of_lt (by omega)]

theorem rd_add64_ne (s : Dev) (c n : Nat) {o : Nat} (h1 : o ≠ c) (h2 : o ≠ c + 4) : (s.add64 c n).rd o = s.rd o := by
  unfold add64
  split
  · rfl
  · unfold wr64
    rw [rd_wr_ne _ h2, rd_wr_ne _ h1]

theorem bit_add64_ne (s : Dev) (c n : Nat) {o : Nat} (h1 : o ≠ c) (h2 : o ≠ c + 4) (i : Nat) :
    (s.add64 c n).bit o i = s.bit o i := bit_of_rd (rd_add64_ne s c n h1 h2) i

theorem fld_add64_ne (s : Dev) (c n : Nat) {o : Nat} (h1 : o ≠ c) (h2 : o ≠ c + 4) (hi lo : Nat) :
    (s.add64 c n).fld o hi lo = s.fld o hi lo := fld_of_rd (rd_add64_ne s c n h1 h2) hi lo

/-- A pair of registers reads back what was stored, modulo 2^64. -/
theorem rd64_wr64 (s : Dev) (o v : Nat) : (s.wr64 o v).rd64 o = v % 2 ^ 64 := by
  unfold rd64 wr64
  rw [rd_wr_same, rd_wr_ne _ (by omega), rd_wr_same]
  omega

/-- A 64-bit counter adds and wraps (R364). -/
theorem rd64_add64 (s : Dev) (o n : Nat) (hf : s.frozen (unitBase o) = false) : (s.add64 o n).rd64 o = (s.rd64 o + n) % 2 ^ 64 := by
  unfold add64
  rw [hf]
  exact rd64_wr64 s o _

theorem rd_wr64_ne (s : Dev) (c v : Nat) {o : Nat} (h1 : o ≠ c) (h2 : o ≠ c + 4) : (s.wr64 c v).rd o = s.rd o := by
  unfold wr64
  rw [rd_wr_ne _ h2, rd_wr_ne _ h1]

/-- A table word reads back what was stored. -/
theorem tab_setTab (s : Dev) (t i w t' i' w' v : Nat) :
    (s.setTab t i w v).tab t' i' w' = if tabKey t' i' w' = tabKey t i w then v % 2 ^ 32 else s.tab t' i' w' := by
  unfold tab setTab
  split
  · next h => rw [h, smGet_set_same]; simp
  · next h => rw [smGet_set_ne _ _ h]

@[simp] theorem tab_setTab_same (s : Dev) (t i w v : Nat) : (s.setTab t i w v).tab t i w = v % 2 ^ 32 := by rw [tab_setTab, if_pos rfl]

@[simp] theorem setTab_regs (t i w v : Nat) (s : Dev) : (s.setTab t i w v).regs = s.regs := rfl

@[simp] theorem rd_setTab (s : Dev) (t i w v o : Nat) : (s.setTab t i w v).rd o = s.rd o := rfl

@[simp] theorem tab_wr (s : Dev) (o v t i w : Nat) : (s.wr o v).tab t i w = s.tab t i w := rfl

end Dev

/-- The Bench: a byte written reads back, and the others stay. -/
theorem benchByte_setByte (b : SMap Byte) (a c : Nat) (v : Byte) :
    benchByte (benchSetByte a v b) c = if c = a then v else benchByte b c := by
  unfold benchByte benchSetByte
  split
  · next h => rw [h, smGet_set_same]
  · next h => rw [smGet_set_ne _ _ h]

theorem benchByte_set_out (vs : List Byte) (a : Nat) (b : SMap Byte) (c : Nat) (h : c < a ∨ a + vs.length ≤ c) :
    benchByte (benchSet a vs b) c = benchByte b c := by
  induction vs generalizing a b with
  | nil => rfl
  | cons v vs ih =>
    simp only [List.length_cons] at h
    rw [benchSet, ih _ _ (by omega), benchByte_setByte, if_neg (by omega)]

theorem benchByte_set_in (vs : List Byte) (a : Nat) (b : SMap Byte) (i : Nat) (h : i < vs.length) :
    benchByte (benchSet a vs b) (a + i) = vs[i] := by
  induction vs generalizing a b i with
  | nil => simp at h
  | cons v vs ih =>
    cases i with
    | zero =>
      rw [benchSet, benchByte_set_out _ _ _ _ (by omega), benchByte_setByte, if_pos (by omega)]
      rfl
    | succ i =>
      rw [benchSet, show a + (i + 1) = a + 1 + i by omega, ih _ _ _ (by simpa using h)]
      rfl

theorem Memory.wf_set (vs : List Byte) (a : Nat) (b : SMap Byte) (h : Memory.wf b = true) : Memory.wf (benchSet a vs b) = true := by
  induction vs generalizing a b with
  | nil => exact h
  | cons v vs ih => exact ih _ _ (smWf_set _ b a v h)

theorem Memory.wf_wipe (lo hi : Nat) (b : SMap Byte) (h : Memory.wf b = true) : Memory.wf (benchWipe lo hi b) = true :=
  smWf_filter _ _ b h

theorem Memory.wf_reset : Memory.wf State.reset.bench = true := rfl

end Sys2Proof.Machine
end

