-- ==== Sys2Proof/Laws/Access.lean ====
section
/-! SUPPORT. What an accepted write comes to: its effect, and the journal record of an active member (R559). The journal touches the
pair block alone. -/

namespace Sys2Proof.Machine

/-- An accepted write has its effect, and the journal may record it. -/
theorem guarded_of_accepts {s : State} {r : Req} {off : Nat} (h : Accepts s r off) (f : Dev → Dev) :
    s.dev.guarded r off f = (f s.dev).jrnReg off := by
  obtain ⟨h1, h2, h3, h4⟩ := h
  unfold Dev.guarded Dev.cfgWrite
  rw [if_neg (by simp [h1]), if_neg (by simp [h2]), if_neg (by simp [h3])]
  split
  · next hc =>
    rw [if_neg (by intro hn; rw [h4 hc hn.1] at hn; exact absurd hn.2 (by decide))]
  · next hc => unfold Dev.jrnReg; rw [if_neg hc]

/-- The journal changes registers of the pair page and the pair record alone. -/
theorem Dev.jrn_eq (k : Nat) (ws : List Nat) (s : Dev) : s.jrn k ws = { s with regs := (s.jrn k ws).regs, pair := (s.jrn k ws).pair } := by
  unfold Dev.jrn
  split
  · rfl
  · dsimp only
    split
    · rw [Dev.inc, Dev.incBy_regs]; rfl
    · rfl

/-- The journal's registers: a counter of the pair page. -/
theorem Dev.rd_jrn (k : Nat) (ws : List Nat) (s : Dev) {o : Nat} (h : o < 0x128000) : (s.jrn k ws).rd o = s.rd o := by
  unfold Dev.jrn
  split
  · rfl
  · dsimp only
    split
    · rw [Dev.rd_inc_ne]
      · rfl
      · simp only [C.PAIR_JRNL_OVF]; omega
      · simp only [C.PAIR_JRNL_OVF]; omega
      · simp only [C.PAIR_JRNL_OVF]; omega
    · rfl

theorem Dev.jrnReg_eq (off : Nat) (s : Dev) :
    s.jrnReg off = { s with regs := (s.jrnReg off).regs, pair := (s.jrnReg off).pair } := by
  unfold Dev.jrnReg
  split
  · exact Dev.jrn_eq _ _ _
  · rfl

theorem Dev.rd_jrnReg (off : Nat) (s : Dev) {o : Nat} (h : o < 0x128000) : (s.jrnReg off).rd o = s.rd o := by
  unfold Dev.jrnReg
  split
  · exact Dev.rd_jrn _ _ _ h
  · rfl

theorem Dev.fld_jrnReg (off : Nat) (s : Dev) {o : Nat} (h : o < 0x128000) (hi lo : Nat) : (s.jrnReg off).fld o hi lo = s.fld o hi lo :=
  Dev.fld_of_rd (Dev.rd_jrnReg off s h) hi lo

theorem Dev.bit_jrnReg (off : Nat) (s : Dev) {o : Nat} (h : o < 0x128000) (i : Nat) : (s.jrnReg off).bit o i = s.bit o i :=
  Dev.bit_of_rd (Dev.rd_jrnReg off s h) i

@[simp] theorem Dev.jrnReg_snap (off : Nat) (s : Dev) : (s.jrnReg off).snap = s.snap := by rw [Dev.jrnReg_eq]
@[simp] theorem Dev.jrnReg_held (off : Nat) (s : Dev) : (s.jrnReg off).held = s.held := by rw [Dev.jrnReg_eq]
@[simp] theorem Dev.jrnReg_snapTurn (off : Nat) (s : Dev) : (s.jrnReg off).snapTurn = s.snapTurn := by rw [Dev.jrnReg_eq]
@[simp] theorem Dev.jrnReg_snapEx (off : Nat) (s : Dev) : (s.jrnReg off).snapEx = s.snapEx := by rw [Dev.jrnReg_eq]
@[simp] theorem Dev.jrnReg_tabs (off : Nat) (s : Dev) : (s.jrnReg off).tabs = s.tabs := by rw [Dev.jrnReg_eq]
@[simp] theorem Dev.jrnReg_rdata (off : Nat) (s : Dev) : (s.jrnReg off).rdata = s.rdata := by rw [Dev.jrnReg_eq]
@[simp] theorem Dev.jrnReg_out (off : Nat) (s : Dev) : (s.jrnReg off).out = s.out := by rw [Dev.jrnReg_eq]
@[simp] theorem Dev.jrnReg_free (off : Nat) (s : Dev) : (s.jrnReg off).free = s.free := by rw [Dev.jrnReg_eq]
@[simp] theorem Dev.jrnReg_pins (off : Nat) (s : Dev) : (s.jrnReg off).pins = s.pins := by rw [Dev.jrnReg_eq]
@[simp] theorem Dev.jrnReg_boot (off : Nat) (s : Dev) : (s.jrnReg off).boot = s.boot := by rw [Dev.jrnReg_eq]
@[simp] theorem Dev.jrnReg_pwr (off : Nat) (s : Dev) : (s.jrnReg off).pwr = s.pwr := by rw [Dev.jrnReg_eq]
@[simp] theorem Dev.jrnReg_mbox (off : Nat) (s : Dev) : (s.jrnReg off).mbox = s.mbox := by rw [Dev.jrnReg_eq]
@[simp] theorem Dev.jrnReg_bells (off : Nat) (s : Dev) : (s.jrnReg off).bells = s.bells := by rw [Dev.jrnReg_eq]
@[simp] theorem Dev.jrnReg_time (off : Nat) (s : Dev) : (s.jrnReg off).time = s.time := by rw [Dev.jrnReg_eq]
@[simp] theorem Dev.jrnReg_keys (off : Nat) (s : Dev) : (s.jrnReg off).keys = s.keys := by rw [Dev.jrnReg_eq]
@[simp] theorem Dev.jrnReg_cache (off : Nat) (s : Dev) : (s.jrnReg off).cache = s.cache := by rw [Dev.jrnReg_eq]
@[simp] theorem Dev.jrnReg_la (off : Nat) (s : Dev) : (s.jrnReg off).la = s.la := by rw [Dev.jrnReg_eq]
@[simp] theorem Dev.jrnReg_laLast (off : Nat) (s : Dev) : (s.jrnReg off).laLast = s.laLast := by rw [Dev.jrnReg_eq]
@[simp] theorem Dev.jrnReg_lcReset (off : Nat) (s : Dev) : (s.jrnReg off).lcReset = s.lcReset := by rw [Dev.jrnReg_eq]
@[simp] theorem Dev.jrnReg_hst (off : Nat) (s : Dev) : (s.jrnReg off).hst = s.hst := by rw [Dev.jrnReg_eq]
@[simp] theorem Dev.jrnReg_upd (off : Nat) (s : Dev) : (s.jrnReg off).upd = s.upd := by rw [Dev.jrnReg_eq]
@[simp] theorem Dev.jrnReg_dram (off : Nat) (s : Dev) : (s.jrnReg off).dram = s.dram := by rw [Dev.jrnReg_eq]
@[simp] theorem Dev.jrnReg_once (off : Nat) (s : Dev) : (s.jrnReg off).once = s.once := by rw [Dev.jrnReg_eq]
@[simp] theorem Dev.jrnReg_intc (off : Nat) (s : Dev) : (s.jrnReg off).intc = s.intc := by rw [Dev.jrnReg_eq]
@[simp] theorem Dev.jrnReg_eps (off : Nat) (s : Dev) : (s.jrnReg off).eps = s.eps := by rw [Dev.jrnReg_eq]
@[simp] theorem Dev.jrnReg_ck (off : Nat) (s : Dev) : (s.jrnReg off).ck = s.ck := by rw [Dev.jrnReg_eq]
@[simp] theorem Dev.jrnReg_lk (off : Nat) (s : Dev) : (s.jrnReg off).lk = s.lk := by rw [Dev.jrnReg_eq]
@[simp] theorem Dev.jrnReg_can (off : Nat) (s : Dev) : (s.jrnReg off).can = s.can := by rw [Dev.jrnReg_eq]
@[simp] theorem Dev.jrnReg_hbuf (off : Nat) (s : Dev) : (s.jrnReg off).hbuf = s.hbuf := by rw [Dev.jrnReg_eq]
@[simp] theorem Dev.jrnReg_tts (off : Nat) (s : Dev) : (s.jrnReg off).tts = s.tts := by rw [Dev.jrnReg_eq]
@[simp] theorem Dev.jrnReg_turn (off : Nat) (s : Dev) : (s.jrnReg off).turn = s.turn := by rw [Dev.jrnReg_eq]
@[simp] theorem Dev.jrnReg_lin (off : Nat) (s : Dev) : (s.jrnReg off).lin = s.lin := by rw [Dev.jrnReg_eq]
@[simp] theorem Dev.jrnReg_ser (off : Nat) (s : Dev) : (s.jrnReg off).ser = s.ser := by rw [Dev.jrnReg_eq]
@[simp] theorem Dev.jrnReg_gwy (off : Nat) (s : Dev) : (s.jrnReg off).gwy = s.gwy := by rw [Dev.jrnReg_eq]
@[simp] theorem Dev.jrnReg_mdio (off : Nat) (s : Dev) : (s.jrnReg off).mdio = s.mdio := by rw [Dev.jrnReg_eq]
@[simp] theorem Dev.jrnReg_hif (off : Nat) (s : Dev) : (s.jrnReg off).hif = s.hif := by rw [Dev.jrnReg_eq]

end Sys2Proof.Machine
end

