-- ==== Sys2Proof/Laws/Mailbox.lean ====
section
/-! SUPPORT. What a mailbox answer does: CMB_CPL, CMB_RES, BUSY, CPL_READY (R80), and what a loop over registers leaves. -/

namespace Sys2Proof.Machine

/-- A loop keeps what each turn of it keeps. -/
theorem forL_keeps {α σ β : Type} (p : σ → β) (l : List α) (f : α → σ → σ) (s : σ) (h : ∀ a ∈ l, ∀ s, p (f a s) = p s) :
    p (forL l f s) = p s := by
  unfold forL
  induction l generalizing s with
  | nil => rfl
  | cons a l ih =>
    rw [List.foldl_cons, ih _ fun b hb => h b (List.mem_cons_of_mem a hb)]
    exact h a List.mem_cons_self s

theorem forN_keeps {σ β : Type} (p : σ → β) (n : Nat) (f : Nat → σ → σ) (s : σ) (h : ∀ i < n, ∀ s, p (f i s) = p s) :
    p (forN n f s) = p s := forL_keeps p (List.range n) f s fun i hi s => h i (List.mem_range.mp hi) s

theorem forN_succ {σ : Type} (n : Nat) (f : Nat → σ → σ) (s : σ) : forN (n + 1) f s = f n (forN n f s) := by
  unfold forN
  rw [List.range_succ, List.foldl_append]
  rfl

/-- A loop that stores registers side by side. -/
theorem rd_forN_setReg (n : Nat) (o : Nat → Nat) (w : Nat → Word) (s : Dev) (k : Nat) (hk : k < n)
    (ho : ∀ i < n, i ≠ k → o k ≠ o i) : (forN n (fun i s => s.setReg (o i) (w i)) s).rd (o k) = (w k).toNat := by
  induction n with
  | zero => omega
  | succ n ih =>
    rw [forN_succ]
    by_cases h : k = n
    · subst h
      unfold Dev.rd Dev.reg Dev.setReg
      rw [smGet_set_same]
    · have hne := ho n (by omega) (by omega)
      have : ((forN n (fun i s => s.setReg (o i) (w i)) s).setReg (o n) (w n)).rd (o k) =
          (forN n (fun i s => s.setReg (o i) (w i)) s).rd (o k) := by
        unfold Dev.rd Dev.reg Dev.setReg
        dsimp only
        rw [smGet_set_ne _ _ hne]
      rw [this]
      exact ih (by omega) fun i hi => ho i (by omega)

namespace Dev

theorem rd_setMb (m : Nat) (b : Mbox) (s : Dev) (o : Nat) : (s.setMb m b).rd o = s.rd o := rfl

/-- A register outside what an answer writes keeps its value. -/
theorem rd_cmbWrite_ne (m tag cpl : Nat) (res : List Word) (s : Dev) {o : Nat}
    (h : o < 0x2014 + 0x1000 * m ∨ (0x2014 + 0x1000 * m < o ∧ o < 0x2104 + 0x1000 * m) ∨ 0x2180 + 0x1000 * m ≤ o) :
    (s.cmbWrite m tag cpl res).rd o = s.rd o := by
  unfold cmbWrite
  dsimp only
  rw [rd_raise_ne _ (by omega)]
  simp only [rd_setMb]
  have h1 : o ≠ R.CMB_STAT m := by simp only [R.CMB_STAT]; omega
  have h2 : o ≠ R.CMB_CPL m := by simp only [R.CMB_CPL]; omega
  show ((Dev.setBit (R.CMB_STAT m) 0 false _)).rd o = _
  rw [rd_setBit_ne _ h1]
  rw [forN_keeps (fun s => Dev.rd s o)]
  · exact rd_wr_ne s h2 _
  · intro i hi s
    unfold Dev.rd Dev.reg Dev.setReg
    dsimp only
    rw [smGet_set_ne]
    simp only [R.CMB_RES]; omega

theorem rd_cmbWrite_cpl (m tag cpl : Nat) (res : List Word) (s : Dev) :
    (s.cmbWrite m tag cpl res).rd (R.CMB_CPL m) = (tag * 2 ^ 16 + cpl) % 2 ^ 32 := by
  unfold cmbWrite
  dsimp only
  rw [rd_raise_ne _ (by simp only [R.CMB_CPL]; omega)]
  simp only [rd_setMb]
  show ((Dev.setBit (R.CMB_STAT m) 0 false _)).rd _ = _
  rw [rd_setBit_ne _ (by simp only [R.CMB_CPL, R.CMB_STAT]; omega)]
  rw [forN_keeps (fun s => Dev.rd s (R.CMB_CPL m))]
  · exact rd_wr_same s _ _
  · intro i hi s
    unfold Dev.rd Dev.reg Dev.setReg
    dsimp only
    rw [smGet_set_ne]
    simp only [R.CMB_RES, R.CMB_CPL]; omega

theorem cmbBusy_cmbWrite (m tag cpl : Nat) (res : List Word) (s : Dev) : (s.cmbWrite m tag cpl res).cmbBusy m = false := by
  unfold cmbWrite cmbBusy
  dsimp only
  rw [bit_raise_ne _ (by simp only [R.CMB_STAT]; omega)]
  exact bit_setBit_same _ _ _ _ (by omega)

theorem raw_cmbWrite (m tag cpl : Nat) (res : List Word) (s : Dev) : (s.cmbWrite m tag cpl res).bit (0x2014 + 0x1000 * m) 0 = true := by
  unfold cmbWrite
  dsimp only
  rw [show 0x2014 + 0x1000 * m = 0x2000 + 0x1000 * m + 0x14 by omega]
  exact bit_raise_same _ _ _ (by omega)

theorem rd_cmbWrite_res (m tag cpl : Nat) (res : List Word) (s : Dev) (k : Nat) (hk : k < 16) :
    (s.cmbWrite m tag cpl res).rd (R.CMB_RES m k) = ((res[k]?).getD 0).toNat := by
  unfold cmbWrite
  dsimp only
  rw [rd_raise_ne _ (by simp only [R.CMB_RES]; omega)]
  simp only [rd_setMb]
  show ((Dev.setBit (R.CMB_STAT m) 0 false _)).rd _ = _
  rw [rd_setBit_ne _ (by simp only [R.CMB_RES, R.CMB_STAT]; omega)]
  exact rd_forN_setReg 16 (R.CMB_RES m) (fun k => (res[k]?).getD 0) _ k hk fun i hi hne => by simp only [R.CMB_RES]; omega

theorem fld_lt (s : Dev) (o hi lo : Nat) : s.fld o hi lo < 2 ^ (hi + 1 - lo) := Nat.mod_lt _ (Nat.two_pow_pos _)

theorem cmbTag_lt (s : Dev) (m : Nat) : s.cmbTag m < 2 ^ 16 := fld_lt s _ _ _

/-- An answer that is not remembered. -/
theorem answered_cmbAnswer (m st : Nat) (s : Dev) (hs : st ≠ 0) (hl : st < 256) : Answered m st [] s (s.cmbAnswer m st) := by
  unfold cmbAnswer
  refine ⟨?_, cmbBusy_cmbWrite _ _ _ _ _, raw_cmbWrite _ _ _ _ _, ?_⟩
  · rw [rd_cmbWrite_cpl]
    have := cmbTag_lt s m
    split <;> omega
  · exact fun h => absurd h hs

/-- The words that an opcode gives stand first among the results. -/
theorem cmbResults_of_lt (s : Dev) (res : List Nat) (k : Nat) (h : k < res.length) (hk : k < 16) :
    (((((s.cmbResults res).take 16)[k]?).getD 0 : Word)).toNat = ((res[k]?).getD 0) % 2 ^ 32 := by
  unfold cmbResults
  rw [List.getElem?_take_of_lt hk, List.getElem?_append_left (by simpa using h), List.getElem?_map]
  cases res[k]? <;> simp

theorem rd_jrnTag (m : Nat) (t : TagRec) (s : Dev) {o : Nat} (h : o < 0x128000) : (s.jrnTag m t).rd o = s.rd o := by
  unfold jrnTag
  split
  · rfl
  · exact rd_jrn _ _ _ h

theorem rd_cmbFinish (m st : Nat) (res : List Nat) (s : Dev) {o : Nat} (h : o < 0x128000) :
    (s.cmbFinish m st res).rd o = (s.drawn16.cmbWrite m (s.cmbTag m) (st + (if s.cmbRsvd m then 0x200 else 0))
      ((s.cmbResults (if st = 0 then res else [])).take 16)).rd o := by
  unfold cmbFinish
  dsimp only
  split
  · rfl
  · rw [rd_jrnTag _ _ _ h]
    rfl

/-- A command that ends shows its answer, whatever it did before: `s` is the state that it was taken in. -/
theorem answered_cmbFinish (m st : Nat) (res : List Nat) (s s' : Dev) (hm : m < 4) (hl : st < 256)
    (ht : s'.cmbTag m = s.cmbTag m) (hr : s'.cmbRsvd m = s.cmbRsvd m) : Answered m st res s (s'.cmbFinish m st res) := by
  refine ⟨?_, ?_, ?_, ?_⟩
  · rw [rd_cmbFinish _ _ _ _ (by simp only [R.CMB_CPL]; omega), rd_cmbWrite_cpl, ht, hr]
    have := cmbTag_lt s m
    split <;> omega
  · unfold cmbBusy
    rw [bit_of_rd (rd_cmbFinish m st res s' (by simp only [R.CMB_STAT]; omega))]
    exact cmbBusy_cmbWrite _ _ _ _ _
  · rw [bit_of_rd (rd_cmbFinish m st res s' (by omega))]
    exact raw_cmbWrite _ _ _ _ _
  · intro h0 k hk hl
    rw [rd_cmbFinish _ _ _ _ (by simp only [R.CMB_RES]; omega), rd_cmbWrite_res _ _ _ _ _ _ hk, if_pos h0]
    exact cmbResults_of_lt s' res k hl hk

end Dev

end Sys2Proof.Machine
end

