-- ==== Sys2Proof/WellFormed.lean ====
section
/-! DEFINITION. Which commands the interface can express: the index ranges of R27 to R29, R58 and the chapters' counts of units, and the
widths of the values. The meanings are total: a command outside these ranges addresses nothing and changes nothing. -/

namespace Sys2Proof

/-- The register window of R10: 16 MB. -/
def windowSize : Nat := 2 ^ 24

/-- FRC units of one time-clock cycle (R369): 2.5 ns in 2^-16 ns. -/
def cycleUnits : Nat := 0x28000

/-- Whether a command's operands lie in the ranges of its row. -/
def Instr.wellFormed (i : Instr) : Bool :=
  match i with
  | .registerWrite _ off size v => decide (off < windowSize) && decide (size < 65) && decide (v < 2 ^ 64)
  | .loRegisterRead _ off size => decide (off < windowSize) && decide (size < 65)
  | .rcRead _ off => decide (off < windowSize)
  | .softRst _ p => decide (p < windowSize)
  | .evForce _ p v => decide (p < windowSize) && decide (v < 2 ^ 32)
  | .pgOwnerWrite _ p v => decide (p < windowSize) && decide (v < 2 ^ 32)
  | .pgLockWrite _ p v => decide (p < windowSize) && decide (v < 2 ^ 32)
  | .satClear _ off v => decide (off < windowSize) && decide (v < 2 ^ 32)
  | .tawRead _ w => decide (w < windowSize)
  | .tawWrite _ w => decide (w < windowSize)
  | .writeValidLast _ w => decide (w < windowSize)
  | .tawOpDone w ecc => decide (w < windowSize) && decide (ecc < 3)
  | .featRequest _ e => decide (e < 2)
  | .featAnswer e => decide (e < 2)
  | .reneg _ e => decide (e < 2)
  | .cmbGo _ m => decide (m < 4)
  | .cmbTake => true
  | .cmbAbort _ m v => decide (m < 4) && decide (v < 2 ^ 32)
  | .nop m => decide (m < 4)
  | .identify m => decide (m < 4)
  | .featQuery m => decide (m < 4)
  | .tagFlush m => decide (m < 4)
  | .porstAssert => true
  | .porstRelease st => decide (st.sel < 4)
  | .pllLock => true
  | .fuseStageDone _ _ => true
  | .memoryStageDone _ _ => true
  | .headerStageDone _ _ => true
  | .imageStageDone _ => true
  | .verifyStageDone => true
  | .keysStageDone => true
  | .tablesStageDone => true
  | .dpRelease _ => true
  | .hostRelease _ => true
  | .bootTimeout => true
  | .turnEdge _ => true
  | .turnApply _ => true
  | .clrOvr _ => true
  | .turnHstDone _ => true
  | .portEnWrite _ n v => decide (n < 32) && decide (v < 2 ^ 32)
  | .ethModeWrite _ n v => decide (n < 32) && decide (v < 2 ^ 32)
  | .linkUp n _ _ _ _ => decide (n < 32)
  | .linkDown n _ => decide (n < 32)
  | .inbandRateChange n rate => decide (n < 4) && decide (rate < 8)
  | .ethFrameRx p bytes _ _ sub _ => decide (p < 32) && decide (sub < cycleUnits) && decide (bytes.length ≤ 9216)
  | .spindlePass k _ => decide (k < 4)
  | .recircReenter => true
  | .txSelect n _ ecc _ => decide (n < 32) && decide (ecc < 3)
  | .ethTxDone n _ _ => decide (n < 32)
  | .lpiEntry n _ => decide (n < 32)
  | .lpiExitDone n _ => decide (n < 32)
  | .sleepReq _ n => decide (n < 32)
  | .tc10Slept n => decide (n < 32)
  | .tc10Fail n => decide (n < 32)
  | .tc10RemoteSleep n => decide (n < 32)
  | .wakeReq _ n _ => decide (n < 32)
  | .tc10Woke n => decide (n < 32)
  | .diagStart _ n => decide (n < 32)
  | .diagDone n result dist => decide (n < 32) && decide (result < 8) && decide (dist < 2 ^ 16)
  | .mdioWrite _ n addr => decide (n < 4) && decide (addr < 2 ^ 26)
  | .mdioRead _ n addr => decide (n < 4) && decide (addr < 2 ^ 26)
  | .mdioDone _ => true
  | .mdioPoll n _ => decide (n < 4)
  | .chEnWrite _ n v => decide (n < 24) && decide (v < 2 ^ 32)
  | .canIntegrated n => decide (n < 24)
  | .canFrameRx n f _ => decide (n < 24) && decide (f.data.length ≤ 2048)
  | .canBusError n code _ _ _ _ => decide (n < 24) && decide (code < 7)
  | .boffDelayExpiry n => decide (n < 24)
  | .recover _ n => decide (n < 24)
  | .canRecoveryDone n => decide (n < 24)
  | .canTxStart n tdcv => decide (n < 24) && decide (tdcv < 256)
  | .canTxDone n => decide (n < 24)
  | .arbLost n => decide (n < 24)
  | .canCancel _ n v => decide (n < 24) && decide (v < 2 ^ 32)
  | .chSleepWrite _ n _ => decide (n < 24)
  | .canWakeDetect n reason f => decide (n < 24) && decide (reason < 4) && decide (f.data.length ≤ 2048)
  | .gwyEnterFrame => true
  | .gwyCopyIn ecc _ => decide (ecc < 3)
  | .gwyBatchTimeout p => decide (p < 64)
  | .ttsEnWrite _ n v => decide (n < 24) && decide (v < 2 ^ 32)
  | .ttsRefDue n sub _ => decide (n < 24) && decide (sub < 0x28000)
  | .ttsRefRx n prio cnt _ mark _ => decide (n < 24) && decide (prio < 8) && decide (cnt < 64) && decide (mark < 2 ^ 19)
  | .ttsRefTimeout n => decide (n < 24)
  | .ttsWindowStart n i tdcv _ => decide (n < 24) && decide (i < 8192) && decide (tdcv < 256)
  | .ttsTxenClose n => decide (n < 24)
  | .rxMiss n => decide (n < 24)
  | .ttsSwap _ n v => decide (n < 24) && decide (v < 2 ^ 32)
  | .swapDone n => decide (n < 24)
  | .ttsHbclr _ n v => decide (n < 24) && decide (v < 2 ^ 32)
  | .linEnWrite _ n v => decide (n < 8) && decide (v < 2 ^ 32)
  | .linSlotStart n _ => decide (n < 8)
  | .linHeaderRx n id _ => decide (n < 8) && decide (id < 64)
  | .linResponseRx n data _ => decide (n < 8) && decide (data.length ≤ 8)
  | .linNoResp n => decide (n < 8)
  | .linSleepCmdRx n => decide (n < 8)
  | .linIdleTimeout n => decide (n < 8)
  | .linWakeReq _ n => decide (n < 8)
  | .linWoke n => decide (n < 8)
  | .linWakingDone n => decide (n < 8)
  | .serEnWrite _ n v => decide (n < 4) && decide (v < 2 ^ 32)
  | .serFrameRx n bytes _ _ => decide (n < 4) && decide (bytes.length ≤ 1024)
  | .serTxStart n _ => decide (n < 4)
  | .serTxDone n _ => decide (n < 4)
  | .parsCommit _ => true
  | .parsCheckDone _ => true
  | .ruleCommit _ => true
  | .ruleCheckDone _ _ => true
  | .zoneSet m _ => decide (m < 4)
  | .flowInsertServe k _ => decide (k < 4)
  | .find _ => true
  | .insert _ => true
  | .delete _ => true
  | .srchDone k _ => decide (k < 4)
  | .flowPurgeWrite _ v => decide (v < 2 ^ 32)
  | .learnApply => true
  | .shadowRead _ => true
  | .shadowWrite _ _ => true
  | .bufCfgWrite _ off v => decide (off < windowSize) && decide (v < 2 ^ 32)
  | .bufDeepWrite _ k v => decide (k < 16) && decide (v < 2 ^ 32)
  | .spillWriteDone k => decide (k < 16)
  | .refill k ecc _ => decide (k < 16) && decide (ecc < 3)
  | .reorderTimeout f => decide (f < 2048)
  | .sgChangeReq _ => true
  | .sgChange g => decide (g < 1024)
  | .configChangeReq _ n v => decide (n < 38) && decide (v < 2 ^ 32)
  | .configChange n => decide (n < 38)
  | .gclEntryAdvance n => decide (n < 38)
  | .preemptVerify n _ => decide (n < 28)
  | .rcvyReset r => decide (r < 2048)
  | .mirScfgWrite _ k v => decide (k < 8) && decide (v < 2 ^ 32)
  | .capRecordWrite _ ecc _ => decide (ecc < 3)
  | .capFreeze _ v => decide (v < 2 ^ 32)
  | .capDrainDeliver ecc _ _ => decide (ecc < 3)
  | .capRelease _ n => decide (n < 2 ^ 32)
  | .timeFrc0Read _ => true
  | .tdSLoRead _ k => decide (k < 8)
  | .xsnap _ => true
  | .tdRateHiWrite _ k v => decide (k < 8) && decide (v < 2 ^ 32)
  | .step _ k _ => decide (k < 8)
  | .tdAdjWrite _ k v => decide (k < 8) && decide (v < 2 ^ 32)
  | .adjDone k => decide (k < 8)
  | .tdEnWrite _ k v => decide (k < 8) && decide (v < 2 ^ 32)
  | .toutArm _ k v => decide (k < 8) && decide (v < 2 ^ 32)
  | .toutPulse k => decide (k < 8)
  | .tcapEdge i _ sub => decide (i < 8) && decide (sub < cycleUnits)
  | .tcapPop _ => true
  | .tsfPop _ => true
  | .keepSyncInterval d => decide (d < 8)
  | .keepFrameRx => true
  | .keepLost d => decide (d < 8)
  | .slpRatioMeasure _ => true
  | .ringEnWrite _ k v => decide (k < 128) && decide (v < 2 ^ 32)
  | .ringTailWrite _ k v => decide (k < 128) && decide (v < 2 ^ 32)
  | .rpCfgWrite _ n v => decide (n < 64) && decide (v < 2 ^ 32)
  | .start _ k => decide (k < 128)
  | .stop _ k _ => decide (k < 128)
  | .ringStopped k => decide (k < 128)
  | .abort _ k => decide (k < 128)
  | .force _ k => decide (k < 128)
  | .hifTxFetch e _ => decide (e < 2)
  | .hifTxComplete k => decide (k < 128)
  | .hifRxDeliver e ecc _ _ _ => decide (e < 2) && decide (ecc < 3)
  | .dmaErr k _ => decide (k < 128)
  | .modHoldoffExpiry n => decide (n < 64)
  | .pcieLinkChange e env => decide (e < 2) && decide (env.link < 8)
  | .perstAssert e => decide (e < 2)
  | .perstRise e => decide (e < 2)
  | .intcSourceChange src => decide (src < 256)
  | .intcHoldoffExpiry g t => decide (g < 16) && decide (t < 4)
  | .intcClaim _ t => decide (t < 4)
  | .intcDone _ t v => decide (t < 4) && decide (v < 2 ^ 32)
  | .intcSrcCfgWrite _ src v => decide (src < 256) && decide (v < 2 ^ 32)
  | .intcTgtSleepWrite _ v => decide (v < 2 ^ 32)
  | .msixPendingSend e => decide (e < 2)
  | .safetyCondition c => decide (c < 6)
  | .intcSafeForce _ v => decide (v < 2 ^ 32)
  | .gcmEnc k e => decide (k < 16) && decide (e.ecc < 3)
  | .gcmDec k e => decide (k < 16) && decide (e.ecc < 3)
  | .cmacGen k e => decide (k < 16) && decide (e.ecc < 3)
  | .cmacVer k e => decide (k < 16) && decide (e.ecc < 3)
  | .sha3256 k e => decide (k < 16) && decide (e.ecc < 3)
  | .random k e => decide (k < 16) && decide (e.ecc < 3)
  | .laStart => true
  | .laDone k => decide (k < 16)
  | .laAbort _ k v => decide (k < 16) && decide (v < 2 ^ 32)
  | .cpeUwinWrite _ k _ v => decide (k < 16) && decide (v < 2 ^ 32)
  | .keyInstall m => decide (m < 4)
  | .keyErase m => decide (m < 4)
  | .keyDerive m => decide (m < 4)
  | .attest m => decide (m < 4)
  | .lcTransition m _ => decide (m < 4)
  | .lcReset => true
  | .ownerKey m _ => decide (m < 4)
  | .tamperInput src _ => decide (src < 5)
  | .entFail => true
  | .lockstepMismatch unit => decide (unit < 4)
  | .hstRestarted _ _ => true
  | .ckptExtra => true
  | .benchRead _ _ n _ ecc => decide (n < 0x400001) && decide (ecc < 3)
  | .benchWrite _ _ bytes _ => decide (bytes.length ≤ 0x400000)
  | .benchOwnWrite _ n v => decide (n < 64) && decide (v < 2 ^ 32)
  | .handoverDone n => decide (n < 60)
  | .add _ _ => true
  | .swap _ _ => true
  | .cas _ _ => true
  | .dramScrub ecc => decide (ecc < 3)
  | .dramCleared => true
  | .pwrReqActive _ => true
  | .pwrReqRest _ => true
  | .pwrReqSleep _ => true
  | .confirm _ => true
  | .drainDone => true
  | .drainTimeout => true
  | .restEntered => true
  | .restExitDone => true
  | .pointOfNoReturn => true
  | .sleepEntered => true
  | .minSleepExpiry => true
  | .wakeSupplyReady _ _ => true
  | .wakeRailTimeout => true
  | .legacyRelease _ => true
  | .lateSectionsLoaded _ => true
  | .wakeHstStarted _ => true
  | .hostWakeTimeout => true
  | .wakeInEdge k _ => decide (k < 4)
  | .vehMovingRise _ => true
  | .pwrTimerExpiry => true
  | .fwWindowExpiry => true
  | .lineSafeState => true
  | .nmEnWrite _ n v => decide (n < 24) && decide (v < 2 ^ 32)
  | .nmReqWrite _ n v => decide (n < 24) && decide (v < 2 ^ 32)
  | .nmCycle n => decide (n < 24)
  | .nmTimeout n => decide (n < 24)
  | .vbatSample mv => decide (mv < 2 ^ 16)
  | .d2dLinkLoss => true
  | .d2dLinkRetrained => true
  | .xtalFail => true
  | .clk32kLost => true
  | .supplyOutOfRange _ => true
  | .supplyBelowTrip rail => decide (rail < 3)
  | .helloRx _ _ => true
  | .beatRx _ _ sub => decide (sub < cycleUnits)
  | .journalRx _ _ => true
  | .resyncRx _ _ => true
  | .resyncRequestRx => true
  | .resyncStartRx => true
  | .resyncEndRx => true
  | .inputRx _ _ bytes => decide (bytes.length ≤ 9216)
  | .raccRx _ off v => decide (off < windowSize) && decide (v < 2 ^ 32)
  | .raccRspRx v => decide (v < 2 ^ 32)
  | .raccRead _ => true
  | .raccWrite _ => true
  | .raccTimeout => true
  | .pairSwitch _ => true
  | .pairResync _ => true
  | .pairWaitExpiry => true
  | .updBegin m => decide (m < 4)
  | .updWrite m => decide (m < 4)
  | .updFinish m _ => decide (m < 4)
  | .activate m _ _ => decide (m < 4)
  | .activateFwLoaded _ => true
  | .activateSectionsLoaded _ => true
  | .activated => true
  | .updFloor m _ => decide (m < 4)
  | .updStatus m => decide (m < 4)
  | .updCancel m => decide (m < 4)
  | .hstCopyTake ecc _ => decide (ecc < 3)
  | .hstFrameSend bytes tc tsr td tag _ => decide (tc < 8) && decide (tsr < 4) && decide (td < 8) && decide (tag < 2 ^ 16) && decide (bytes.length ≤ 9212)
  | .jtagInstruction _ st => decide (st.sel < 4)
  | .serWakeActivity n => decide (n < 4)
  | .swkFrameDecoded n _ _ => decide (n < 24)
  | .dramTrained => true
  | .hstStateRestored => true

end Sys2Proof
end

