-- ==== Sys2Proof/Tests/Slice0.lean ====
section
/-! SUPPORT. The model's own tests: the checks of WellFormed, and for each statement a state and operands that meet its
hypotheses. -/

namespace Sys2Proof.Tests

open Sys2Proof.Machine

/-- A device that runs: released, in ACTIVE, both hosts answered, no register written but BOOT_STAT. -/
def runDev : Dev :=
  Dev.wr R.BOOT_STAT 0xA { Dev.porst with
    pins := { porst := true, safe := true, resetOut := true, porstIn := true, perstA := true, perstB := true }
    pwr := { phase := .active, hostRel := true, dieLink := true }
    time := { run := true } }

/-- The state of a running device. -/
def run : State := { State.reset with dev := runDev }

/-- A running device after an operation. -/
def after (f : Dev → Dev) : State := { run with dev := f runDev }

/-- A register word in a running device. -/
def withReg (off v : Nat) : State := after (Dev.wr off v)

/-- Register words in a running device. -/
def withRegs (l : List (Nat × Nat)) : State := after (forL l fun e s => s.wr e.1 e.2)

/-- Each check of WellFormed refuses a term that breaks it alone. -/
theorem test_ill_formed_1 : ([
    .registerWrite .hst windowSize 0 0, .registerWrite .hst 0 65 0, .registerWrite .hst 0 0 (2 ^ 64),
    .loRegisterRead .hst windowSize 0, .loRegisterRead .hst 0 65, .rcRead .hst windowSize, .softRst .hst windowSize,
    .evForce .hst windowSize 0, .evForce .hst 0 (2 ^ 32), .pgOwnerWrite .hst windowSize 0, .pgOwnerWrite .hst 0 (2 ^ 32),
    .pgLockWrite .hst windowSize 0, .pgLockWrite .hst 0 (2 ^ 32), .satClear .hst windowSize 0, .satClear .hst 0 (2 ^ 32),
    .tawRead .hst windowSize, .tawWrite .hst windowSize, .writeValidLast .hst windowSize, .tawOpDone windowSize 0, .tawOpDone 0 3,
    .featRequest .hst 2, .featAnswer 2, .reneg .hst 2, .cmbGo .hst 4, .cmbAbort .hst 4 0, .cmbAbort .hst 0 (2 ^ 32), .nop 4,
    .identify 4, .featQuery 4, .tagFlush 4, .porstRelease { sel := 4 }, .portEnWrite .hst 32 0, .portEnWrite .hst 0 (2 ^ 32),
    .ethModeWrite .hst 32 0, .ethModeWrite .hst 0 (2 ^ 32), .linkUp 32 0 0 0 false, .linkDown 32 false, .inbandRateChange 4 0,
    .inbandRateChange 0 8, .ethFrameRx 32 [] false false 0 {}, .ethFrameRx 0 [] false false cycleUnits {}
    ] : List Instr).all (fun i => !i.wellFormed) = true := by decide

/-- More checks of WellFormed, each with a term that breaks it alone. -/
theorem test_ill_formed_2 : ([
    .spindlePass 4 {}, .txSelect 32 0 0 0, .txSelect 0 0 3 0, .ethTxDone 32 none false, .lpiEntry 32 false, .lpiExitDone 32 false,
    .sleepReq .hst 32, .tc10Slept 32, .tc10Fail 32, .tc10RemoteSleep 32, .wakeReq .hst 32 false, .tc10Woke 32, .diagStart .hst 32,
    .diagDone 32 0 0, .diagDone 0 8 0, .diagDone 0 0 (2 ^ 16), .mdioWrite .hst 4 0, .mdioWrite .hst 0 (2 ^ 26), .mdioRead .hst 4 0,
    .mdioRead .hst 0 (2 ^ 26), .mdioPoll 4 0, .chEnWrite .hst 24 0, .chEnWrite .hst 0 (2 ^ 32), .canIntegrated 24,
    .canFrameRx 24 {} 0, .canBusError 24 0 false false false false, .canBusError 0 7 false false false false, .boffDelayExpiry 24,
    .recover .hst 24, .canRecoveryDone 24, .canTxStart 24 0, .canTxStart 0 256, .canTxDone 24, .arbLost 24, .canCancel .hst 24 0,
    .canCancel .hst 0 (2 ^ 32), .chSleepWrite .hst 24 false, .canWakeDetect 24 0 {}, .canWakeDetect 0 4 {}, .gwyCopyIn 3 0
    ] : List Instr).all (fun i => !i.wellFormed) = true := by decide

/-- More checks of WellFormed, each with a term that breaks it alone. -/
theorem test_ill_formed_3 : ([
    .gwyBatchTimeout 64, .ttsEnWrite .hst 24 0, .ttsEnWrite .hst 0 (2 ^ 32), .ttsRefDue 24 0 false, .ttsRefDue 0 0x28000 false, .ttsRefRx 24 0 0 false 0 0,
    .ttsRefRx 0 8 0 false 0 0, .ttsRefRx 0 0 64 false 0 0, .ttsRefRx 0 0 0 false (2 ^ 19) 0, .ttsRefTimeout 24,
    .ttsWindowStart 24 0 0 false, .ttsWindowStart 0 8192 0 false, .ttsWindowStart 0 0 256 false, .ttsTxenClose 24, .rxMiss 24,
    .ttsSwap .hst 24 0, .ttsSwap .hst 0 (2 ^ 32), .swapDone 24, .ttsHbclr .hst 24 0, .ttsHbclr .hst 0 (2 ^ 32), .linEnWrite .hst 8 0,
    .linEnWrite .hst 0 (2 ^ 32), .linSlotStart 8 false, .linHeaderRx 8 0 0, .linHeaderRx 0 64 0, .linResponseRx 8 [] 0,
    .linNoResp 8, .linSleepCmdRx 8, .linIdleTimeout 8, .linWakeReq .hst 8, .linWoke 8, .linWakingDone 8, .serEnWrite .hst 4 0,
    .serEnWrite .hst 0 (2 ^ 32), .serFrameRx 4 [] 0 0, .serTxStart 4 false, .serTxDone 4 none, .zoneSet 4 false,
    .flowInsertServe 4 [], .srchDone 4 [], .flowPurgeWrite .hst (2 ^ 32)
    ] : List Instr).all (fun i => !i.wellFormed) = true := by decide

/-- More checks of WellFormed, each with a term that breaks it alone. -/
theorem test_ill_formed_4 : ([
    .bufCfgWrite .hst windowSize 0, .bufCfgWrite .hst 0 (2 ^ 32), .bufDeepWrite .hst 16 0, .bufDeepWrite .hst 0 (2 ^ 32),
    .spillWriteDone 16, .refill 16 0 0, .refill 0 3 0, .reorderTimeout 2048, .sgChange 1024, .configChangeReq .hst 38 0,
    .configChangeReq .hst 0 (2 ^ 32), .configChange 38, .gclEntryAdvance 38, .preemptVerify 28 false, .rcvyReset 2048,
    .mirScfgWrite .hst 8 0, .mirScfgWrite .hst 0 (2 ^ 32), .capRecordWrite false 3 0, .capFreeze .hst (2 ^ 32),
    .capRelease .hst (2 ^ 32), .tdSLoRead .hst 8, .tdRateHiWrite .hst 8 0, .tdRateHiWrite .hst 0 (2 ^ 32), .step .hst 8 false,
    .tdAdjWrite .hst 8 0, .tdAdjWrite .hst 0 (2 ^ 32), .adjDone 8, .tdEnWrite .hst 8 0, .tdEnWrite .hst 0 (2 ^ 32), .toutArm .hst 8 0,
    .toutArm .hst 0 (2 ^ 32), .toutPulse 8, .tcapEdge 8 false 0, .tcapEdge 0 false cycleUnits, .keepSyncInterval 8, .keepLost 8,
    .ringEnWrite .hst 128 0, .ringEnWrite .hst 0 (2 ^ 32), .ringTailWrite .hst 128 0, .ringTailWrite .hst 0 (2 ^ 32)
    ] : List Instr).all (fun i => !i.wellFormed) = true := by decide

/-- More checks of WellFormed, each with a term that breaks it alone. -/
theorem test_ill_formed_5 : ([
    .rpCfgWrite .hst 64 0, .rpCfgWrite .hst 0 (2 ^ 32), .start .hst 128, .stop .hst 128 false, .ringStopped 128, .abort .hst 128,
    .force .hst 128, .hifTxFetch 2 [], .hifTxComplete 128, .hifRxDeliver 2 0 0 false [], .hifRxDeliver 0 3 0 false [],
    .dmaErr 128 false, .modHoldoffExpiry 64, .pcieLinkChange 2 {}, .pcieLinkChange 0 { link := 8 }, .perstAssert 2, .perstRise 2,
    .intcSourceChange 256, .intcHoldoffExpiry 16 0, .intcHoldoffExpiry 0 4, .intcClaim .hst 4, .intcDone .hst 4 0,
    .intcDone .hst 0 (2 ^ 32), .intcSrcCfgWrite .hst 256 0, .intcSrcCfgWrite .hst 0 (2 ^ 32), .intcTgtSleepWrite .hst (2 ^ 32),
    .msixPendingSend 2, .safetyCondition 6, .intcSafeForce .hst (2 ^ 32), .gcmEnc 16 {}, .gcmEnc 0 { ecc := 3 }, .gcmDec 16 {}, .cmacGen 16 {},
    .cmacVer 16 {}, .sha3256 16 {}, .random 16 {}, .laDone 16, .laAbort .hst 16 0, .laAbort .hst 0 (2 ^ 32),
    .cpeUwinWrite .hst 16 false 0, .cpeUwinWrite .hst 0 false (2 ^ 32)
    ] : List Instr).all (fun i => !i.wellFormed) = true := by decide

/-- More checks of WellFormed, each with a term that breaks it alone. -/
theorem test_ill_formed_6 : ([
    .keyInstall 4, .keyErase 4, .keyDerive 4, .attest 4, .lcTransition 4 false, .ownerKey 4 false, .tamperInput 5 false,
    .lockstepMismatch 4, .benchRead .hst 0 0x400001 0 0, .benchRead .hst 0 0 0 3, .benchOwnWrite .hst 64 0,
    .benchOwnWrite .hst 0 (2 ^ 32), .handoverDone 60, .dramScrub 3, .wakeInEdge 4 false, .nmEnWrite .hst 24 0,
    .nmEnWrite .hst 0 (2 ^ 32), .nmReqWrite .hst 24 0, .nmReqWrite .hst 0 (2 ^ 32), .nmCycle 24, .nmTimeout 24, .vbatSample (2 ^ 16),
    .supplyBelowTrip 3, .beatRx {} [] cycleUnits, .raccRx false windowSize 0, .raccRx false 0 (2 ^ 32), .raccRspRx (2 ^ 32),
    .updBegin 4, .updWrite 4, .updFinish 4 [], .updFloor 4 false, .updStatus 4, .updCancel 4, .hstCopyTake 3 0,
    .hstFrameSend [] 8 0 0 0 0, .hstFrameSend [] 0 4 0 0 0, .hstFrameSend [] 0 0 8 0 0, .hstFrameSend [] 0 0 0 (2 ^ 16) 0,
    .jtagInstruction .bypass { sel := 4 }, .serWakeActivity 4
    ] : List Instr).all (fun i => !i.wellFormed) = true := by decide

/-- More checks of WellFormed, each with a term that breaks it alone. -/
theorem test_ill_formed_7 : ([
    .swkFrameDecoded 24 false false
    ] : List Instr).all (fun i => !i.wellFormed) = true := by decide

/-- The checks of lengths, each with terms that break it alone. -/
theorem test_ill_formed_lengths (bs : List Byte) (h : 0x400000 < bs.length) : ([
    .ethFrameRx 0 bs false false 0 {},
    .canFrameRx 0 { data := bs } 0,
    .canWakeDetect 0 0 { data := bs },
    .linResponseRx 0 bs 0,
    .benchWrite .hst 0 bs 0,
    .inputRx {} [] bs,
    .hstFrameSend bs 0 0 0 0 0] : List Instr).all (fun i => !i.wellFormed) = true := by
  simp [Instr.wellFormed]; omega

/-- Commands in range are well formed. -/
theorem test_well_formed : ([.registerWrite .hosta 0xA040 4 0x81000000, .cmbGo .hostb 1, .turnEdge { }, .chEnWrite .hst 23 1,
    .benchWrite .hst 0 [1, 2] 0, .hstFrameSend [] 7 3 7 0xFFFF 0] : List Instr).all (fun i => i.wellFormed) = true := by decide

/-- The front of a queue. -/
theorem test_step_front : step { run with pending := [.safetyCondition 1, .cmbTake] } =
    exec (.safetyCondition 1) { run with pending := [.cmbTake] } := rfl

/-- States with an empty queue: in reset, with the time clock running, and without it. -/
theorem test_empty_queues : State.reset.pending = [] ∧ State.reset.dev.pins.porst = false ∧ run.pending = [] ∧
    run.dev.pins.porst = true ∧ run.dev.time.run = true ∧ (after fun d => { d with time := {} }).dev.time.run = false ∧
    (∀ n, n < 8 → (run.dev.linCh n).bye = none) := by decide

/-- A command that completes keeps the queue; the premise of the invariants is met. -/
theorem test_next_exists : (∃ t, exec .cmbTake run = .next t ∧ t.pending = []) ∧
    (∃ t, step { run with pending := [.benchWrite .hst 0 [1] 0] } = .next t ∧ Memory.wf run.bench = true) := ⟨⟨_, rfl, rfl⟩, ⟨_, rfl, rfl⟩⟩

/-- A Bench access that runs one byte past the end faults, and one that ends there does not. -/
theorem test_bench_end : exec (.benchRead .hst 0x3FFFFF 2 0 0) run = .fault .benchAddress ∧
    (∃ t, exec (.benchWrite .hst 0x3FFFFF [7] 0) run = .next t) := ⟨rfl, ⟨_, rfl⟩⟩

/-- A fused device, past BLANK, with both keys programmed and one revoked, a tamper latched and recorded. -/
def fused : State :=
  { run with vault := { fuses := { Fuses.blank with lc := 3, prog0 := true, prog1 := true, rev1 := true, floor := 3 }
                        latch := 4, tampRec := 0x80000004 } }

/-- Steps of a fused device meet the premises of the fuse and tamper statements. -/
theorem test_fused : (∃ t, step fused = .next t) ∧ fused.vault.fuses.lc ≠ 0 ∧ fused.vault.fuses.prog0 = true ∧
    fused.vault.fuses.prog1 = true ∧ fused.vault.fuses.rev1 = true ∧ fused.pending.head? ≠ some (.supplyBelowTrip 1) ∧
    fused.vault.latch.testBit 2 = true ∧ fused.vault.tampRec.toNat.testBit 31 = true ∧ storesToBench .cmbTake = false ∧
    writesVault .cmbTake = false := ⟨⟨_, rfl⟩, by decide, rfl, rfl, rfl, by decide, rfl, by decide, rfl, rfl⟩

/-- Boundary values of R12: sizes and alignments of each clause. -/
theorem test_access_sizes : (4 = 4 ∧ 0xFFFFFC % 4 = 0) ∧ (8 = 8 ∧ 0xFFFFF8 % 8 = 0) ∧ (¬(8 = 4 ∧ 4 % 4 = 0) ∧ ¬(8 = 8 ∧ 4 % 8 = 0)) := by
  decide

/-- A register of the gateway page and an unassigned offset of it are plain. -/
theorem test_plain_registers : Accepts run .hst R.GWY_CTRL ∧ hdrOf R.GWY_CTRL = none ∧ winAt R.GWY_CTRL = none ∧
    atomAt R.GWY_CTRL = none ∧ isSatReg R.GWY_CTRL = false ∧ (∃ row i o g, blkOf R.GWY_CTRL = some (row, i, o) ∧ row.blk = .gwy ∧
    row.blk.row? o = some g) ∧ Accepts run .hst (R.GWY_CTRL + 0xF00) ∧ hdrOf (R.GWY_CTRL + 0xF00) = none ∧
    (∃ row i o, blkOf (R.GWY_CTRL + 0xF00) = some (row, i, o) ∧ row.blk = .gwy ∧ row.blk.row? o = none) :=
  ⟨by decide, by decide, by decide, by decide, by decide, ⟨_, _, _, _, rfl, rfl, rfl⟩, by decide, by decide, ⟨_, _, _, rfl, rfl, rfl⟩⟩

/-- An owner, a claimant of a page with no owner, one that gives it back, and one that may do neither. -/
theorem test_ownership : 0xA000 ∈ unitPages ∧ run.dev.reach .hosta 0xA024 = true ∧ run.dev.ownerOf 0xA000 = 0xF ∧ 1 % 16 = Req.id .hosta ∧
    (withReg 0xA024 1).dev.ownerOf 0xA000 = Req.id .hosta ∧ 0xF % 16 = 0xF ∧
    ¬(Req.hostb = .hst ∨ ((withReg 0xA024 1).dev.ownerOf 0xA000 = 0xF ∧ 2 % 16 = Req.id .hostb) ∨
      ((withReg 0xA024 1).dev.ownerOf 0xA000 = Req.id .hostb ∧ 2 % 16 = 0xF)) ∧
    ¬(Req.hosta = .hst ∨ run.dev.ownerOf 0xA000 = Req.id .hosta) := by decide

/-- Pages of both clauses of SOFT_RST. -/
theorem test_soft_reset : (∃ row, blkOf 0x0 = some (row, 0, 0) ∧ row.blk = .glb) ∧ (∃ row, blkOf 0xA000 = some (row, 0, 0) ∧ row.blk = .pwr) ∧
    0 ∈ unitPages ∧ run.dev.reach .hosta 0xA00C = true ∧ run.dev.reach .hosta 0x0C = true ∧ run.dev.rd 0xA00C < 8 ∧
    run.dev.bit 0xA00C 1 = false := ⟨⟨_, rfl, rfl⟩, ⟨_, rfl, rfl⟩, by decide, by decide, by decide, by decide, by decide⟩

/-- EV_FORCE and INTC_SAFE_FORCE are reached. -/
theorem test_forcing : run.dev.reach .hosta 0xA020 = true ∧ Accepts run .hst R.INTC_SAFE_FORCE := by decide

/-- A pair of registers, an RC register and a SAT register. -/
theorem test_reads : run.dev.reach .hosta R.TURN_CNT_LO = true ∧ isLo R.TURN_CNT_LO = true ∧ isHi R.TURN_CNT_LO = false ∧
    plainRead R.TURN_CNT_LO = true ∧ plainRead (R.TURN_CNT_LO + 4) = true ∧ plainRead R.GLB_PART = true ∧ Req.hostb ≠ Req.hosta ∧
    (0x1000 ≤ R.TURN_CNT_LO) ∧ R.TURN_CNT_LO + 4 < 0xA000 ∧ R.DRAM_CORR_INFO ∈ rcRegs ∧ run.dev.reach .hosta R.DRAM_CORR_INFO = true ∧
    Accepts run .hst C.GLB_OWN_VIOL.sat ∧ Accepts run .hst C.KEY_ENT_FAIL.sat := by decide

/-- A running device whose mailbox m is open and has an outstanding command of an opcode, tag 1, with arguments. -/
def rung (m op : Nat) (args : List Nat) : Dev :=
  { forL args.zipIdx (fun e s => s.wr (R.CMB_ARG m e.2) e.1)
      ((runDev.wr (R.CMB_HDR m) (op * 2 ^ 24 + 0x100 + args.length)).wr (R.CMB_STAT m) 3) with bells := [m] }

/-- The same, the command taken by the Headstock. -/
def taken (m op : Nat) (args : List Nat) : State := { run with dev := (rung m op args).setMb m { taken := true } }

/-- A device with a tag of another command. -/
def tagged (d : Dev) (dig : List Byte) : Dev := d.setMb 1 { tags := [{ tag := 1, cpl := 0x200, res := [5], digest := dig }] }

/-- Doorbells in order: halted; closed; a tag remembered, of the same and of another command; COUNT 33; an unknown opcode; a known one. -/
theorem test_cmb_take : ((rung 3 0x20 []).wr R.HST_STAT 0x20000000).hstHalted = true ∧ (rung 1 0x20 [1]).hstServes = true ∧
    ((rung 1 0x20 [1]).wr (R.CMB_STAT 1) 1).cmbOpen 1 = false ∧ 3 < (rung 1 0x20 [1]).cmbOp 1 ∧ (rung 1 0x20 [1]).cmbOpen 1 = true ∧
    (rung 1 0x20 [1]).bells = [1] ∧ (rung 1 0x20 [1]).cmbCount 1 ≤ 32 ∧ opMasks ((rung 1 0x20 [1]).cmbOp 1) ((rung 1 0x20 [1]).arg 1 0) ≠ none ∧
    ((rung 1 0x20 [1]).mb 1).tags = [] ∧ 32 < ((rung 1 0x20 [1]).wr (R.CMB_HDR 1) 0x20000121).cmbCount 1 ∧
    opMasks ((rung 1 0x21 []).cmbOp 1) 0 = none := by decide

/-- The digest of R81 follows the registers alone. -/
theorem cmbDigest_regs {a b : Dev} (h : a.regs = b.regs) (m : Nat) : a.cmbDigest m = b.cmbDigest m := by
  have hr : ∀ o, a.rd o = b.rd o := fun o => by simp only [Dev.rd, Dev.reg, h]
  have hc : a.cmbCount m = b.cmbCount m := by simp only [Dev.cmbCount, Dev.fld, hr]
  have ha : ∀ k, a.arg m k = b.arg m k := fun k => by simp only [Dev.arg, hc, hr]
  simp only [Dev.cmbDigest, Dev.cmbOp, Dev.fld, hr, ha]

/-- The remembered tag is found; its digest is that of the command, or not. -/
theorem test_cmb_tags : (tagged (rung 1 3 []) ((rung 1 3 []).cmbDigest 1)).cmbDigest 1 = (rung 1 3 []).cmbDigest 1 ∧
    (∀ dig, ((tagged (rung 1 3 []) dig).mb 1).tags.find? (fun g => g.tag == 1) = some { tag := 1, cpl := 0x200, res := [5], digest := dig }) ∧
    (tagged (rung 1 3 []) []).cmbTag 1 = 1 := ⟨cmbDigest_regs rfl 1, fun _ => rfl, by decide⟩

/-- The four opcodes of chapter 03 run. -/
theorem test_cmb_opcodes : ∀ op < 4, (taken 2 op []).dev.cmbRuns 2 op = true := by decide

/-- A doorbell of the mailbox's own requester and of another, with BUSY clear and set, serving and halted; aborts of a taken command
and of none. -/
theorem test_cmb_go : run.dev.reach .hostb (R.CMB_HDR 1) = true ∧ run.dev.failed = false ∧ Req.id .hostb = 1 + 1 ∧
    run.dev.mayWrite .hostb (R.CMB_HDR 1) = true ∧ run.dev.cmbBusy 1 = false ∧ run.dev.hstHalted = false ∧ (rung 1 0 []).cmbBusy 1 = true ∧
    (withReg R.HST_STAT 0x20000000).dev.hstHalted = true ∧ Req.id .hosta ≠ 1 + 1 ∧ run.dev.reach .hosta (R.CMB_HDR 1) = true ∧
    (taken 1 0x40 [8]).dev.cmbTag 1 = 0x10001 / 2 ^ 16 ∧ (0x10001).testBit 0 = true ∧ ((taken 1 0x40 [8]).dev.mb 1).taken = true ∧
    3 < (taken 1 0x40 [8]).dev.cmbOp 1 ∧ (taken 1 0x40 [8]).dev.failed = false ∧ (taken 1 0x40 [8]).dev.mayWrite .hostb (R.CMB_HDR 1) = true ∧
    (taken 1 0x40 [8]).dev.cmbTag 1 ≠ 0x20001 / 2 ^ 16 := by decide

/-- A feature request that the offer covers, one that it does not, and one without bit 0; who may ask; PERST_N high and low. -/
theorem test_features : run.dev.reach .hosta (featCtrl 0) = true ∧ run.dev.mayWrite .hosta 0 = true ∧
    (let d := (withRegs [(R.FEAT_CTRL_A, 1), (R.DEV_FEAT 0, 0x301), (R.DRV_FEAT_A 0, 0x101)]).dev
     d.bit (featCtrl 0) 0 = true ∧ d.bit (featCtrl 0) 1 = false ∧ d.bit (drvFeat 0 0) 0 = true ∧
     ∀ k < 4, d.rd (drvFeat 0 k) &&& d.offered k = d.rd (drvFeat 0 k)) ∧
    (let d := (withRegs [(R.FEAT_CTRL_A, 1), (R.DEV_FEAT 0, 0x301), (R.DRV_FEAT_A 0, 0x100)]).dev
     d.bit (featCtrl 0) 0 = true ∧ d.bit (featCtrl 0) 1 = false ∧ d.bit (drvFeat 0 0) 0 = false) ∧
    run.dev.reach .hostb (featCtrl 0) = true ∧ run.dev.perst 1 = true ∧ run.dev.fabricOn = true ∧
    (after fun d => { d with pins := { d.pins with porst := false } }).dev.fabricOn = false ∧
    (after fun d => { d with pins := { d.pins with perstA := false } }).dev.perst 0 = false ∧
    State.reset.dev.perst 0 = false ∧ State.reset.dev.pins.porst = false := by decide

/-- A booting device in a stage, PORST_N high, with fuses of a life-cycle state. -/
def boots (n lc : Nat) : State :=
  { State.reset with
    dev := ({ Dev.porst with pins := { porst := true, porstIn := true } }.wr R.BOOT_STAT n).wr R.LCS_STATE lc
    vault := { fuses := { Fuses.blank with lc := lc } } }

/-- A header with one directory entry, its image ending right after the signature. -/
def header (seq : Nat) : List Word :=
  [0x314E514D, 0x20000100, 0, 0xFF00, 3884, 0, BitVec.ofNat 32 seq, 7, 1, 0x80, 152, 1464, 0xF, 0, 0, 0] ++ List.replicate 16 0 ++
    [0x00010000, 144, 8, 0]

/-- PORST_N rises on a device in reset, with no tamper and with one, and the TAP holds it or not. -/
theorem test_power_on : State.reset.vault.latch = 0 ∧ State.reset.vault.active = 0 ∧ tapHolds State.reset.dev.pins.tap = false ∧
    State.reset.dev.pins.porst = false ∧ fused.vault.latch ≠ 0 ∧ tapHolds (tapGives 1 .extest) = true ∧ tapHolds (tapGives 3 .extest) = false := by
  decide

/-- The stages POR, FUSE and MEMORY with fuses that are BLANK, usable and SCRAPPED. -/
theorem test_early_stages : (boots 0 1).dev.stage = 0 ∧ (boots 1 1).dev.stage = 1 ∧ (boots 2 1).dev.stage = 2 ∧
    (boots 1 1).dev.pins.porst = true ∧ (∀ g ∈ (boots 1 1).vault.fuses.pgFeat, g.1 ∈ unitPages) ∧ (boots 1 0).vault.fuses.lc = 0 ∧
    (boots 1 5).vault.fuses.lc = 5 ∧ (boots 1 1).vault.fuses.lc ≠ 0 ∧ (boots 1 1).vault.fuses.lc ≠ 5 := by decide

/-- HEADER with one good slot and with two; IMAGE with a candidate left and with none. -/
theorem test_headers : (boots 3 1).dev.stage = 3 ∧
    hdrCode (boots 3 1).dev (some ((header 5).set 2 (BitVec.ofNat 32 ((boots 3 1).dev.rd R.GLB_PART)))) = 0 ∧
    hdrCode (boots 3 1).dev none ≠ 0 ∧ hdrCode (boots 3 1).dev none < 256 ∧ (boots 3 1).dev.fld R.BOOT_STRAP 1 0 = 0 ∧
    (boots 4 1).dev.stage = 4 ∧ (boots 4 1).dev.boot.cand = [] ∧
    ({ (boots 4 1).dev with boot := { cand := [1] } } : Dev).boot.cand = 1 :: [] := by decide

/-- VERIFY of a key that is not owned fails outside TEST; KEYS, TABLES and the time limit. -/
theorem test_late_stages : (boots 5 3).dev.stage = 5 ∧ (boots 6 1).dev.stage = 6 ∧ (boots 7 1).dev.stage = 7 ∧ (boots 5 3).dev.boot.cand = [] ∧
    (boots 7 1).dev.stage < 8 ∧ (boots 8 1).dev.stage = 8 ∧ (boots 9 1).dev.stage = 9 ∧
    (boots 8 1).dev.pins.porst = true ∧ (after fun d => { d with lcReset := true }).dev.lcReset = true := by decide

/-- An image with no section is loaded; one whose only section has an unknown type and is not optional is not. -/
theorem test_load : (boots 7 1).loadSecs true allSecs [] ≠ none ∧
    (boots 7 1).loadSecs true allSecs (List.replicate 8 0 ++ [1] ++ List.replicate 23 0 ++ [0x00630000, 144, 0, 0]) = none := by
  constructor
  · simp [State.loadSecs, dirOf, wordAt, bitsOf, secsOk, loadOrder, sortBy]
  · rfl

/-- Both outcomes of VERIFY, as the open signature check gives them: a device in TEST whose check holds, and one whose key is
not owned. -/
theorem test_verify (img : List Word) : (verifyImage Fuses.blank img).1 = 9 ∧
    ((verifyImage { Fuses.blank with lc := 1 } img).1 = 0 ∨ (verifyImage { Fuses.blank with lc := 1 } img).1 = 0xA ∨
      (verifyImage { Fuses.blank with lc := 1 } img).1 = 0xB) := by
  constructor
  · simp [verifyImage, keyOwned, Fuses.blank]
  · unfold verifyImage
    simp only [ne_eq, not_true_eq_false, false_and, ↓reduceIte]
    split
    · exact Or.inr (Or.inl rfl)
    · split
      · exact Or.inr (Or.inr rfl)
      · split
        · exact Or.inl rfl
        · exact Or.inr (Or.inr rfl)

/-- A command of mailbox 0 with a life-cycle state in force. -/
def takenIn (lc op : Nat) (args : List Nat) : State :=
  { taken 0 op args with dev := (taken 0 op args).dev.wr R.LCS_STATE lc, vault := { fuses := { Fuses.blank with lc := lc } } }

/-- The state with a key slot. -/
def withSlot (s : State) (n : Nat) (k : KeySlot) : State := { s with dev := s.dev.setSlot n k }

/-- Key commands of a mailbox that may not use them, of one that may, and with a tamper latched. -/
theorem test_key_commands : (∀ op ∈ [0x30, 0x31, 0x32, 0x33, 0x34, 0x35], (taken 3 op []).dev.cmbRuns 3 op = true ∧
    (taken 3 op []).dev.cmbKeys 3 = false ∧ (takenIn 1 op []).dev.cmbRuns 0 op = true ∧ (takenIn 1 op []).dev.cmbKeys 0 = true) ∧
    fused.vault.latch ≠ 0 ∧ (takenIn 1 0x30 []).vault.latch = 0 := by decide

/-- KEY_INSTALL of a slot out of use, of one in use, and of a clear key in PRODUCTION; KEY_ERASE; KEY_DERIVE. -/
theorem test_key_slots :
    (let d := (takenIn 1 0x30 [8, 0, 1]).dev
     d.cmbRuns 0 0x30 = true ∧ 8 = bitsOf (d.arg 0 0) 9 0 ∧ (d.arg 0 0).testBit 31 = false ∧ d.lc ≠ 3 ∧ d.lc ≠ 4 ∧ d.installRefused 0 8 = 0 ∧
     (d.slot 8).held = none ∧ (d.slot 8).inUse = 0) ∧
    (let d := (withSlot (takenIn 1 0x30 [8, 0, 1]) 8 { inUse := 2 }).dev
     d.installRefused 0 8 = 0 ∧ (d.slot 8).held = none ∧ 0 < (d.slot 8).inUse) ∧ (takenIn 3 0x30 [8, 0, 1]).dev.lc = 3 ∧
    (let d := (takenIn 1 0x31 [8]).dev
     d.cmbRuns 0 0x31 = true ∧ 8 = bitsOf (d.arg 0 0) 9 0 ∧ d.slotForeign 8 (0 + 1) = false ∧ (d.slot 8).held = none ∧ (d.slot 8).inUse = 0) ∧
    (let d := (withSlot (takenIn 1 0x32 [0x00080009, 0, 1]) 9 { attr := 2 ^ 31 + 2 ^ 26, limit := 1 }).dev
     d.cmbRuns 0 0x32 = true ∧ 8 = bitsOf (d.arg 0 0) 25 16 ∧ 9 = bitsOf (d.arg 0 0) 9 0 ∧ d.installRefused 0 8 = 0 ∧ (d.slot 8).held = none ∧
     (d.slot 8).inUse = 0 ∧ (d.slot 9).attr.testBit KA.valid = true ∧ (d.slot 9).attr.testBit KA.derive_ = true ∧
     (d.slot 9).errored = false ∧ (d.slot 9).use + 1 ≤ (d.slot 9).limit) := by decide

/-- A wrapped install under a KEK, with a tag. -/
def wrapped (tag : List Nat) : State :=
  withSlot (takenIn 3 0x30 ([0x80000008, 0, 1, 0] ++ [1, 2, 3] ++ [1, 2, 3, 4, 5, 6, 7, 8] ++ tag)) 0
    { key := List.replicate 32 7, attr := 2 ^ 31 + 2 ^ 25, limit := 1 }

/-- A wrapped install meets the premises. -/
theorem test_wrapped :
    (let d := (wrapped [0, 0, 0, 0]).dev
     d.cmbRuns 0 0x30 = true ∧ d.cmbKeys 0 = true ∧ 8 = bitsOf (d.arg 0 0) 9 0 ∧ (d.arg 0 0).testBit 31 = true ∧ d.installRefused 0 8 = 0 ∧
     (d.slot 8).held = none ∧ (d.slot 8).inUse = 0 ∧ (d.slot 0).attr.testBit KA.valid = true ∧ (d.slot 0).attr.testBit KA.wrap = true ∧
     (d.slot 0).errored = false ∧ (d.slot 0).use + 1 ≤ (d.slot 0).limit) ∧ (wrapped []).vault.latch = 0 := by decide

/-- A tag that holds, and one that does not. -/
theorem test_wrapped_tags :
    (let d := (wrapped [0xA7E936EB, 0x9FF42237, 0x89D9F37B, 0x7E420100]).dev
     gcmTag (d.slot 0).key (d.argBytes 0 4 3) (d.argBytes 0 0 4) (d.argBytes 0 7 8) = d.argBytes 0 15 4) ∧
    (let d := (wrapped [0, 0, 0, 0]).dev
     gcmTag (d.slot 0).key (d.argBytes 0 4 3) (d.argBytes 0 0 4) (d.argBytes 0 7 8) ≠ d.argBytes 0 15 4) := by decide +kernel

/-- FIPS 202: SHA3-256 of the empty message; FIPS 197, appendix C.1: AES-128. -/
theorem test_standards : beNat (sha3_256 []) = 0xA7FFC6F8BF1ED76651C14756A061D662F580FF4DE43B49FA82D80A4B80F8434A ∧
    beNat (aesBlock (beBytes 16 0x000102030405060708090A0B0C0D0E0F) (beBytes 16 0x00112233445566778899AABBCCDDEEFF)) =
      0x69C4E0D86A7B0430D8CDB78070B4C55A ∧
    beNat (gcmText (List.replicate 32 0) (List.replicate 12 0) (List.replicate 16 0)) = 0xCEA7403D4D606B6E074EC5D3BAF39D18 ∧
    beNat (gcmTag (List.replicate 32 0) (List.replicate 12 0) [] (beBytes 16 0xCEA7403D4D606B6E074EC5D3BAF39D18)) =
      0xD0D1C8A799996BF0265B98B5D48AB919 ∧
    beNat (aesCmac (beBytes 32 0x603DEB1015CA71BE2B73AEF0857D77811F352C073B6108D72D9810A30914DFF4)
      (beBytes 16 0x6BC1BEE22E409F96E93D7E117393172A)) = 0x28A7023F452E8F82BD4BF28D8C37C35C ∧
    crc32c (ascii "123456789") = 0xE3069283 := by decide +kernel

/-- ATTEST with a good address, at its greatest, and with a bad one. -/
theorem test_attest :
    (let d := (takenIn 1 0x33 [0, 0x3BF608]).dev
     d.cmbRuns 0 0x33 = true ∧ d.arg 0 1 % 8 = 0 ∧ d.arg 0 1 + 2548 ≤ 0x3C0000 ∧ d.pwr.hostRel = true) ∧
    0x3C0000 < (takenIn 1 0x33 [0, 0x3BF610]).dev.arg 0 1 + 2548 ∧ (takenIn 1 0x33 [0, 4]).dev.arg 0 1 % 8 ≠ 0 := by decide

/-- Life-cycle transitions: refused by R492, by VEH_MOVING, and TEST to DEVELOP with an owner key; owner digests. -/
theorem test_life_cycle :
    lcAllowed 1 (bitsOf ((takenIn 1 0x34 [4]).dev.arg 0 0) 3 0) = false ∧ lcAllowed 1 (bitsOf ((takenIn 1 0x34 [2]).dev.arg 0 0) 3 0) = true ∧
    (takenIn 1 0x34 [2]).dev.cmbRuns 0 0x34 = true ∧ (takenIn 1 0x34 [2]).vault.fuses.lc = 1 ∧ (takenIn 1 0x34 [2]).dev.pins.vehMoving = false ∧
    fused.vault.fuses.prog0 = true ∧ fused.vault.fuses.rev0 = false ∧
    (let s := takenIn 1 0x35 [0]
     s.dev.cmbRuns 0 0x35 = true ∧ s.vault.fuses.lc = 1 ∧ (∀ g ∈ s.vault.fuses.pgFeat, g.1 ∈ unitPages) ∧ (s.dev.arg 0 0).testBit 8 = false ∧
     (s.dev.arg 0 0).testBit 0 = false ∧ s.vault.fuses.prog0 = false) := by decide

/-- An update command with an engine. -/
def updating (op : Nat) (args : List Nat) (u : UpdSt) : State :=
  { takenIn 1 op args with dev := { (takenIn 1 op args).dev with upd := u } }

/-- The staging opcodes: refused, UPD_BEGIN at its bounds, UPD_WRITE in STAGING and not, UPD_CANCEL. -/
theorem test_staging : (∀ op ∈ [0x41, 0x42, 0x46], (updating op [] { holder := 2 }).dev.cmbRuns 0 op = true ∧
      (updating op [] { holder := 2 }).dev.updRefused 0 false = true ∧ (updating op [] { state := 1, holder := 1 }).dev.updRefused 0 false = false) ∧
    (let d := (updating 0x40 [1024] {}).dev
     d.cmbRuns 0 0x40 = true ∧ d.updRefused 0 true = false ∧ d.upd.state ≠ 3 ∧ d.vbatLow = false ∧ 1024 ≤ d.arg 0 0 ∧ d.arg 0 0 ≤ 25165824) ∧
    25165824 < (updating 0x40 [25165825] {}).dev.arg 0 0 ∧
    (let d := (updating 0x41 [4, 0x3BFFF8, 8] { state := 1, holder := 1, len := 12, done := [(0, 4)] }).dev
     d.cmbRuns 0 0x41 = true ∧ d.updRefused 0 false = false ∧ 4 ≤ d.arg 0 2 ∧ d.arg 0 2 ≤ 65536 ∧ d.arg 0 0 % 4 = 0 ∧ d.arg 0 2 % 4 = 0 ∧
     d.arg 0 0 + d.arg 0 2 ≤ d.upd.len ∧ d.arg 0 1 + d.arg 0 2 ≤ 0x3C0000 ∧
     (∀ g ∈ d.upd.done, rangesMeet (d.arg 0 0) (d.arg 0 2) g.1 g.2 = false)) ∧ (updating 0x41 [] { state := 2 }).dev.upd.state ≠ 1 := by decide

/-- UPD_FINISH of a slot whose digest holds, and of one whose digest does not. -/
theorem test_finish :
    (let d := (updating 0x42 [0xA7FFC6F8, 0xBF1ED766, 0x51C14756, 0xA061D662, 0xF580FF4D, 0xE43B49FA, 0x82D80A4B, 0x80F8434A]
       { state := 1, holder := 1 }).dev
     let img := (header 5).set 2 (BitVec.ofNat 32 (d.rd R.GLB_PART))
     d.cmbRuns 0 0x42 = true ∧ d.updRefused 0 false = false ∧ d.upd.state = 1 ∧ d.upd.written = d.upd.len ∧
     sha3_256 (wordSlice img 0 d.upd.len) = d.argBytes 0 0 8 ∧ hdrCode d (some img) = 0) ∧
    (let d := (updating 0x42 [] { state := 1, holder := 1 }).dev
     sha3_256 (wordSlice (header 5) 0 d.upd.len) ≠ d.argBytes 0 0 8) := by decide +kernel

/-- ACTIVATE refused and not; the steps of the pause. -/
theorem test_activating :
    (let d := (updating 0x43 [] { state := 2, holder := 1, hdr := header 5 }).dev
     d.cmbRuns 0 0x43 = true ∧ d.updRefused 0 true = false ∧ d.activateRefused false = true ∧ d.activateRefused true = false) ∧
    (∀ p ∈ [2, 3, 5], (updating 0 [] { pause := p }).dev.upd.pause = p) := by decide

/-- The sections of an image without any are loaded in the pause. -/
theorem test_pause_load : State.loadSecs false pauseSecs [] run ≠ none ∧ State.loadSecs false [3, 4] [] run ≠ none := by
  constructor <;> simp [State.loadSecs, dirOf, wordAt, bitsOf, secsOk, loadOrder, sortBy]

/-- UPD_FLOOR within and beyond what the image allows; UPD_STATUS. -/
theorem test_floor :
    (let s := updating 0x44 [2] {}
     let s := { s with dev := { s.dev with boot := { hdrA := [0, 0, 0, 0, 0, 3] } } }
     s.dev.cmbRuns 0 0x44 = true ∧ s.dev.updRefused 0 true = false ∧ s.vault.fuses.floor < bitsOf (s.dev.arg 0 0) 6 0 ∧
     bitsOf (s.dev.arg 0 0) 6 0 ≤ s.dev.runSecVer ∧ s.dev.pins.vehMoving = false) ∧
    (updating 0x44 [2] {}).dev.runSecVer < bitsOf ((updating 0x44 [2] {}).dev.arg 0 0) 6 0 ∧
    (updating 0x45 [7, 0x80000005] {}).dev.cmbRuns 0 0x45 = true ∧ (updating 0x45 [] {}).dev.cmbKeys 0 = true := by decide

/-- The Headstock running, inside and outside the escalation window, restarting, and with a full write log. -/
theorem test_headstock : run.dev.fld R.HST_STAT 31 28 = 0 ∧ run.dev.stage = 0xA ∧ run.dev.inEscWindow = false ∧
    (after fun d => { d with hst := { sinceRestart := some 0 } }).dev.inEscWindow = true ∧
    (withReg R.HST_STAT 0x10000000).dev.fld R.HST_STAT 31 28 = 1 ∧
    (after fun d => { d with hst := { log := [(8, [1])] } }).dev.hst.log = [(8, [1])] := by decide

/-- A write log may be full. -/
theorem test_full_log : 65536 ≤ (after fun d => { d with hst := { log := List.replicate 65536 (0, []) } }).dev.hst.log.length :=
  Nat.le_of_eq List.length_replicate.symm

/-- Bench accesses: within the Bench and at its end, of a reader and one of a secure bank, of an owner and of another. -/
theorem test_bench_access : run.dev.benchReach .hosta = true ∧ (0x3FFFF8 : BitVec 22).toNat + 8 ≤ 0x400000 ∧ benchMayRead .hst 0x3FFFF8 = true ∧
    benchMayRead .hosta 0x3C0000 = false ∧ run.dev.benchMayWrite .hst 0x3FFFFF = true ∧ run.dev.benchMayWrite .hosta 0 = false ∧
    (withReg (R.BENCH_OWN 0) 1).dev.benchMayWrite .hosta 0 = true ∧
    run.dev.wiping = false ∧ (after fun d => { d with wipeAt := some 0 }).dev.wiping = true := by decide

/-- Atomic operations of HSTA, allowed and not; the compare holds on a Bench of zeros and fails with another value. -/
theorem test_atomics : Req.id .hosta < 5 ∧ run.dev.reach .hosta (R.ATOM_CMD 1) = true ∧ run.dev.mayWrite .hosta (R.ATOM_CMD 1) = true ∧
    run.dev.benchReach .hosta = true ∧ (withReg (R.BENCH_OWN 0) 1).dev.wiping = false ∧
    run.dev.notActive = false ∧ (withReg (R.BENCH_OWN 0) 1).dev.benchMayWrite .hosta (run.dev.fld (R.ATOM_ADDR 1) 21 3 * 8) = true ∧
    leNat (benchBytes run.bench (run.dev.fld (R.ATOM_ADDR 1) 21 3 * 8) 8) = run.dev.rd64 (R.ATOM_CMP_LO 1) ∧
    leNat (benchBytes run.bench ((withReg (R.ATOM_CMP_LO 1) 5).dev.fld (R.ATOM_ADDR 1) 21 3 * 8) 8) ≠ (withReg (R.ATOM_CMP_LO 1) 5).dev.rd64 (R.ATOM_CMP_LO 1) ∧
    run.dev.benchMayWrite .hosta (run.dev.fld (R.ATOM_ADDR 1) 21 3 * 8) = false := by decide

/-- A bank with no hand-over, one PENDING, a requester that may not pass it on; the scrubber and the clear. -/
theorem test_banks : Accepts run .hst (R.BENCH_OWN 59) ∧ run.dev.bit (R.BENCH_OWN 59) 31 = false ∧
    (withReg (R.BENCH_OWN 59) 0x80000001).dev.bit (R.BENCH_OWN 59) 31 = true ∧ Accepts (withReg (R.BENCH_OWN 59) 1) .hostb (R.BENCH_OWN 59) ∧
    (withReg (R.BENCH_OWN 59) 1).dev.fld (R.BENCH_OWN 59) 3 0 ≠ Req.id .hostb ∧
    (withReg 0x110024 1).dev.mayWrite .hostb (R.BENCH_OWN 59) = false ∧ (withReg 0x110024 1).dev.reach .hostb (R.BENCH_OWN 59) = true ∧
    (∀ p ∈ [0xFFFFFF, 0xEFFFFF, 0xF00000], let d := (withRegs [(R.DRAM_SCRUB_CFG, 0x80000000), (R.DRAM_STAT, 1), (R.DRAM_SCRUB_POS, p)]).dev
      d.bit R.DRAM_SCRUB_CFG 31 = true ∧ d.bit R.DRAM_STAT 0 = true ∧ d.bit R.DRAM_STAT 1 = false ∧ d.rd R.DRAM_SCRUB_POS = p) ∧
    0xEFFFFF * 32 < 0x1E000000 ∧ 0x1E000000 ≤ 0xF00000 * 32 ∧ (withReg R.DRAM_STAT 5).dev.bit R.DRAM_STAT 2 = true := by decide

/-- A look-aside page with a window over all open banks, an operation and lengths. -/
def page (k op : Nat) (p : LaPage) : State :=
  let s := withRegs [(R.LA_CMD k, op * 2 ^ 24 + 0x100009), (R.CPE_UWIN_LIM k, 0x3C0000), (R.LA_LEN k, 16), (R.LA_DST k, 0x1000)]
  { s with dev := (s.dev.setLaPage k p).setSlot 9 { attr := 2 ^ 31 + 2 ^ 27 + 2 ^ k, limit := 1 } }

/-- The next page to start: with a bad operand, without a key, and with a key that it may use. -/
theorem test_la_start : (page 15 0 { waiting := true }).dev.laNext = some 15 ∧ (page 15 0 { waiting := true }).dev.laBadArg 15 = true ∧
    (page 15 5 { waiting := true }).dev.laBadArg 15 = false ∧ (page 15 5 { waiting := true }).dev.laOp 15 = 5 ∧
    (page 15 5 { waiting := true }).dev.noRng = false ∧ (page 15 0 { waiting := true }).dev.laPage 15 ≠ { running := true } ∧
    ((List.range 16).filter fun j => ((page 15 5 { waiting := true }).dev.laPage j).running).length < 4 ∧
    (let d := (page 0 1 { waiting := true }).dev
     d.laNext = some 0 ∧ d.laBadArg 0 = false ∧ laKeyed (d.laOp 0) = true ∧ (d.slot (d.laSlot 0)).attr.testBit 0 = true ∧
     (d.slot (d.laSlot 0)).attr.testBit KA.valid = true ∧ (d.slot (d.laSlot 0)).attr.testBit KA.la = true ∧
     (d.slot (d.laSlot 0)).errored = false ∧ (d.slot (d.laSlot 0)).use + 1 ≤ (d.slot (d.laSlot 0)).limit) := by decide

/-- Each operation runs on a page and has not reached its completion point. -/
theorem test_la_ops : ∀ op ∈ [1, 2, 3, 4, 5, 6], (page 15 op { running := true }).dev.laOp 15 = op ∧
    ((page 15 op { running := true }).dev.laPage 15).running = true ∧ ((page 15 op { running := true }).dev.laPage 15).done = none ∧
    ({} : BenchEnv).busy < 17 ∧ ({} : BenchEnv).ecc < 2 ∧ (page 15 op { running := true }).dev.laNoSeed op = false ∧
    17 ≤ ({ busy := 17 } : BenchEnv).busy ∧ ((page 15 op { running := true }).dev.wr R.CPE_STAT 4).laNoSeed op = true := by decide

/-- Operations past their completion point, aborts, and writes of the windows. -/
theorem test_la_ends : ((page 3 1 { running := true, done := some (0, [1], [2]) }).dev.laPage 3).done = some (0, [1], [2]) ∧
    ((page 3 2 { running := true, done := some (0xA, [], []) }).dev.laPage 3).done = some (0xA, [], []) ∧
    Accepts (page 3 1 { running := true }) .hst (R.LA_ABORT 3) ∧ Nat.testBit 1 0 = true ∧ (run.dev.laPage 3).waiting = false ∧
    (run.dev.laPage 3).running = false ∧ Accepts run .hst (R.LA_ABORT 3) ∧ Accepts run .hst (R.CPE_UWIN_BASE 15) ∧
    Accepts (withReg 0xF0024 1) .hosta (R.CPE_UWIN_BASE 15) := by decide

/-- The running device with sources high and their configuration. -/
def irq (l : List Nat) (cfg : Nat) (tmr : Nat) : State :=
  after fun d => { forL l (fun x s => s.wr (R.INTC_SRC_CFG x) cfg) d with
    intc := { high := l, tmr := [(0, tmr)], runs := [(0, (0, 0))] } }

/-- Sources, timers, configuration writes and sleep bits. -/
theorem test_intc : run.dev.coreOn = true ∧ (irq [5] 0x80000000 1).dev.timer 0 0 = 1 ∧ (irq [5] 0x80000000 1).dev.timerUp 0 0 = true ∧ (irq [5] 0x80000000 1).dev.groupPending 0 0 = true ∧
    (irq [] 0 1).dev.groupPending 0 0 = false ∧ Accepts run .hst (R.INTC_SRC_CFG 191) ∧ Accepts run .hst R.INTC_TGT_SLEEP ∧
    Accepts (withReg 0xC024 1) .hosta R.INTC_TGT_SLEEP ∧ (∀ y ∈ (irq [5] 0x80000000 1).dev.intc.high, ((irq [5] 0x80000000 1).dev.srcCfg y).testBit 30 = false) := by
  decide

/-- Claims by another requester, of a deliverable source, of a target with an active source, and of none; completions. -/
theorem test_claims : run.dev.reach .hst (R.INTC_CLAIM 0) = true ∧ tgtReq 1 .hst = false ∧ tgtReq 0 .hst = true ∧ tgtReq 3 .hostb = true ∧
    (irq [5, 9] 0x80000000 2).dev.actOf 0 = 0 ∧ (irq [5, 9] 0x80000000 2).dev.nextSource 0 = some 5 ∧ run.dev.nextSource 0 = none ∧
    (after fun d => { d with intc := { act := [(0, 6)] } }).dev.actOf 0 = 5 + 1 ∧ Accepts run .hst (R.INTC_DONE 0) ∧
    run.dev.actOf 0 ≠ 5 + 1 := by decide

/-- Buffer settings that fit and that do not; a deep slot free and in use. -/
theorem test_buffers : Accepts run .hst R.BUF_HDRM ∧ tooMuch run.dev.minSum (1024 % 65536) run.dev.stageOn = false ∧
    tooMuch run.dev.minSum (65535 % 65536) run.dev.stageOn = true ∧ run.dev.fld R.BUF_HDRM 15 0 < 65535 % 65536 ∧ Accepts run .hst (R.QCFG 303) ∧
    bitsOf 0 25 16 ≤ run.dev.qMin 303 ∧ Accepts run .hst (R.BUF_DEEP 15) ∧ run.dev.fld (R.BUF_DEEP 15) 31 30 = 0 ∧
    bitsOf 0x8080010F 23 16 ≠ 0 ∧ bitsOf 0x8080010F 8 0 < 272 ∧ Nat.testBit 0x8080010F 31 = true ∧ bitsOf 0x8080010F 23 16 ≤ 128 ∧
    tooMuch run.dev.minSum (run.dev.fld R.BUF_HDRM 15 0) true = false ∧ (∀ j < 16, run.dev.fld (R.BUF_DEEP j) 31 30 = 0) ∧
    272 ≤ bitsOf 0x80800110 8 0 ∧ Nat.testBit 0 31 = false := by decide +kernel

/-- A queue minimum that does not fit beside large others. -/
theorem test_first_deep_slot : Accepts (withReg R.BUF_HDRM 0xB000) .hst (R.BUF_DEEP 15) ∧ (withReg R.BUF_HDRM 0xB000).dev.stageOn = false ∧
    (2 ^ 31).testBit 31 = true ∧
    tooMuch (withReg R.BUF_HDRM 0xB000).dev.minSum ((withReg R.BUF_HDRM 0xB000).dev.fld R.BUF_HDRM 15 0) true = true := by decide +kernel
theorem test_queue_minimum : (withReg (R.BUF_HDRM) 0xB000).dev.qMin 0 < bitsOf 0x03FF0000 25 16 ∧
    tooMuch ((withReg R.BUF_HDRM 0xB000).dev.minSum - (withReg R.BUF_HDRM 0xB000).dev.qMin 0 + bitsOf 0x03FF0000 25 16)
      ((withReg R.BUF_HDRM 0xBE00).dev.fld R.BUF_HDRM 15 0) false = true := by decide +kernel

/-- A deep slot of queue 0 whose oldest copy is `c`, and a frame. -/
def spilled (c : Copy) : State :=
  after fun d => (d.wr (R.BUF_DEEP 0) 0xC0010000).setCk { frames := [(1, { bytes := [7] })], nextId := 2, qs := [(0, { dram := [c] })] }

/-- A copy not yet written, and one written; a reorder window that holds one frame. -/
theorem test_spill : (spilled { frame := 1, q := 0, cells := 1, len := 5 }).dev.fld (R.BUF_DEEP 0) 31 30 ≠ 0 ∧
    ((spilled { frame := 1, q := 0, cells := 1, len := 5 }).dev.qst 0).dram = [{ frame := 1, q := 0, cells := 1, len := 5 }] ∧
    ((spilled { frame := 1, q := 0, cells := 1, len := 5 }).dev.frame 1).more = false ∧
    (spilled { frame := 1, q := 0, cells := 1, len := 5, saved := some {} }).dev.qlen 0 < run.dev.refillLimit ∧
    36 ≤ (spilled { frame := 1, q := 0, cells := 1, len := 5, saved := some {} }).dev.freeCells ∧
    (let d := { runDev.setCk { reo := [(0, { e := some 3, held := [(5, 1)] })] } with time := { run := true, frc := 2 ^ 40 } }
     (d.reo 0).held = [(5, 1)] ∧ (d.reo 0).e = some 3 ∧
     d.passed (d.frame 1).since (min 1000 (max 1 (d.tfld T.rcvy 0 1 9 0)) * 1000) = true) := by decide +kernel

/-- Commits of the graph and the rules, free and while a check runs. -/
theorem test_commits : Accepts run .hst R.PARS_CTRL ∧ Accepts run .hst R.RULE_CTRL ∧ run.dev.bit R.PARS_STAT 2 = false ∧ run.dev.bit R.PARS_STAT 0 = false ∧
    run.dev.bit R.RULE_STAT 2 = false ∧ run.dev.bit R.RULE_STAT 0 = false ∧ (withReg R.PARS_STAT 4).dev.bit R.PARS_STAT 2 = true ∧
    (withReg R.RULE_STAT 4).dev.bit R.RULE_STAT 2 = true ∧ (withReg R.RULE_STAT 4).dev.lk.zoneWait = none := by decide

/-- A rule store with no staged entry passes its check, a matrix word that fails SECDED does not; a graph whose start node is bad fails. -/
theorem test_checks : (withReg R.RULE_STAT 4).dev.ruleCheck [] [] = none ∧ (withReg R.RULE_STAT 4).dev.ruleCheck [] [7] = some (3, true, 7) := by decide +kernel

/-- ZONE_SET by a requester that does not own the page, while a check runs, without and with COMMIT, and waiting for its check. -/
theorem test_zone_set : (taken 1 0x20 [1, 0x4F0007]).dev.cmbRuns 1 0x20 = true ∧ (taken 1 0x20 [1, 0x4F0007]).dev.lk.zoneWait ≠ some 1 ∧
    ((taken 1 0x20 [1, 0x4F0007]).dev.wr 0x88024 3).ownerOf 0x88000 ≠ 0xF ∧ ((taken 1 0x20 [1, 0x4F0007]).dev.wr 0x88024 3).ownerOf 0x88000 ≠ 1 + 1 ∧
    (taken 1 0x20 [1, 0x4F0007]).dev.ownerOf 0x88000 = 0xF ∧ 0 < (taken 1 0x20 [1, 0x4F0007]).dev.arg 1 0 % 32 ∧
    (taken 1 0x20 [1, 0x4F0007]).dev.arg 1 0 % 32 + 1 ≤ (taken 1 0x20 [1, 0x4F0007]).dev.cmbCount 1 ∧
    bitsOf ((taken 1 0x20 [1, 0x4F0007]).dev.arg 1 1) 22 16 ≤ 79 ∧ ((taken 1 0x20 [1, 0x4F0007]).dev.arg 1 0).testBit 31 = false ∧
    ((taken 1 0x20 [0x80000001, 0x4F0007]).dev.arg 1 0).testBit 31 = true := by decide

/-- A graph without a start entry passes its check; one whose start node 7 fails its ECC check does not. -/
theorem test_graph : run.dev.graphFault [] = none ∧
    (after fun d => ((d.setTab T.startStaged 0 0 0x80000007).setTab T.node 7 0 0xC0000000)).dev.graphFault [7] = some (3, 7) := by decide +kernel

/-- Mirror sessions off, on, with an RTAG of each kind; releases while the drain is off and on. -/
theorem test_mirror : Accepts run .hst (R.MIR_SCFG 7) ∧ (withReg (R.MIR_SCFG 7) 0x80000000).dev.bit (R.MIR_SCFG 7) 31 = true ∧
    run.dev.bit (R.MIR_SCFG 7) 31 = false ∧ bitsOf 0xA5000000 29 24 = 37 ∧ bitsOf 0xA1000000 29 24 ≤ 33 ∧ bitsOf 0xA1000000 13 0 = 0 ∧
    Nat.testBit 0xA5000000 31 = true ∧ 33 < bitsOf 0xA2000000 29 24 ∧ bitsOf 0xA2000000 29 24 ≠ 37 ∧ Accepts run .hst R.CAP_CTRL ∧
    Nat.testBit 0xA0000000 29 = true ∧ run.dev.bit R.CAP_CTRL 29 = false ∧ Accepts run .hst R.CAP_RELEASE ∧
    (withReg R.CAP_DRAIN 0x80000000).dev.bit R.CAP_DRAIN 31 = true ∧ run.dev.bit R.CAP_DRAIN 31 = false := by decide

/-- A device with one copy in the queue q, whose frame 1 is 60 zero bytes. -/
def queued (q : Nat) (c : Copy) : State :=
  after fun d => d.setCk { frames := [(1, { bytes := List.replicate 60 0, refs := 1 })], nextId := 2, qs := [(q, { sram := [c] })] }

/-- A copy of the capture port, taken, with the ring off and with the ring on. -/
theorem test_capture : let c : Copy := { frame := 1, q := 296, cells := 1, len := 64, kind := 2, mir := List.replicate 32 0 }
    ((queued 296 c).dev.takeCopy 37).1 = some c ∧ c.q / 8 = 37 ∧ ((queued 296 c).dev.takeCopy 37).2.bit R.CAP_CTRL 31 = false ∧
    (let s := (queued 296 c).dev.wr R.CAP_CTRL 0x80000000
     (s.takeCopy 37).1 = some c ∧ (s.takeCopy 37).2.bit R.CAP_CTRL 31 = true ∧ (s.takeCopy 37).2.bit R.CAP_CTRL 29 = false ∧
     c.snap = 0 ∧ c.mir.length = 32 ∧ ((s.takeCopy 37).2.frame c.frame).len < 16384 ∧
     (s.takeCopy 37).2.capFill + capUnits ((s.takeCopy 37).2.frame c.frame).len ≤ 2 ^ 20) := by decide +kernel

/-- Search operations: idle, busy, and with a kind that is no flow. -/
theorem test_search : run.dev.reach .hst R.FLOW_SRCH_CMD = true ∧ run.dev.mayWrite .hst R.FLOW_SRCH_CMD = true ∧ run.dev.ready R.FLOW_SRCH_CMD = true ∧
    (withReg R.FLOW_SRCH_CMD 0x80000000).dev.bit R.FLOW_SRCH_CMD 31 = true ∧ run.dev.bit R.FLOW_SRCH_CMD 31 = false ∧
    run.dev.fld (R.FLOW_SRCH_DATA 0) 30 28 ∈ [0, 2, 4] ∧ (withReg (R.FLOW_SRCH_DATA 0) 0x40000000).dev.fld (R.FLOW_SRCH_DATA 0) 30 28 ∈ [0, 2, 4] ∧
    (withReg (R.FLOW_SRCH_DATA 0) 0x10000000).dev.fld (R.FLOW_SRCH_DATA 0) 30 28 ∉ [0, 2, 4] ∧ Accepts run .hst R.FLOW_PURGE ∧
    (withReg R.FLOW_PURGE 0x80000000).dev.bit R.FLOW_PURGE 31 = true ∧ run.dev.bit R.FLOW_PURGE 31 = false := by decide

/-- A request at the head of shard 0's queue. -/
def served (q : FlowReq) : State := after fun d => d.setInsQ 0 [q]

/-- A search that finds no entry, one that finds the entry placed by the same key, and one whose buckets cannot be read. -/
theorem test_flow_find : (served (.search 2 0 0)).dev.spindlesOn = true ∧ insStops [] = true ∧
    (served (.search 2 0 0)).dev.insQ 0 = [.search 2 0 0] ∧
    (served (.search 2 0 0)).dev.flowFind (keyOf (served (.search 2 0 0)).dev.srchWords) 0 0 [] = none ∧
    (((served (.search 2 0 0)).dev.setInsQ 0 []).flowPlace 0 0 (srchEntry (served (.search 2 0 0)).dev.srchWords) []).isSome = true ∧
    (let d := (served (.search 3 0 0)).dev.flowPut 0 (srchEntry (served (.search 3 0 0)).dev.srchWords)
     d.insQ 0 = [.search 3 0 0] ∧ d.spindlesOn = true ∧ d.flowFind (keyOf d.srchWords) 0 0 [] = some 0) := by decide +kernel

/-- The device with no free slot, and no entry to move, in bucket 0. -/
def crowded (d : Dev) : Dev := forN 4 (fun j d => d.setTab T.flow j 0 0xD0000000) d

/-- A search that finds neither its entry nor a place. -/
theorem test_flow_full : let d := crowded (served (.search 2 0 0)).dev
    d.insQ 0 = [.search 2 0 0] ∧ d.spindlesOn = true ∧ d.flowFind (keyOf d.srchWords) 0 0 [] = none ∧
    ((d.setInsQ 0 []).flowPlace 0 0 (srchEntry d.srchWords) []).isNone = true := by decide +kernel

/-- Requests to track a flow that has no entry, with a place for it and without, and one that has an entry in state 1. -/
theorem test_track : let ws := [0x81000000, 0, 0, 0, 0, 0, 0, 0]
    let d := (served (.track 1 0 0 ws 64 0 [])).dev
    let new := ws.set 0 (withBits (ws.getD 0 0) 15 0 d.flowStamp)
    d.insQ 0 = [.track 1 0 0 ws 64 0 []] ∧ d.spindlesOn = true ∧
    d.flowFind (keyOf new) 0 0 [] (some (fragWords new)) = none ∧ ((d.setInsQ 0 []).flowPlace 0 0 new []).isSome = true ∧
    (crowded d).insQ 0 = [.track 1 0 0 ws 64 0 []] ∧ (crowded d).flowFind (keyOf new) 0 0 [] (some (fragWords new)) = none ∧
    (((crowded d).setInsQ 0 []).flowPlace 0 0 new []).isNone = true ∧
    (d.flowPut 0 new).insQ 0 = [.track 1 0 0 ws 64 0 []] ∧ (d.flowPut 0 new).flowFind (keyOf new) 0 0 [] (some (fragWords new)) = some 0 ∧
    (d.flowPut 0 new).flowState 0 = 1 := by decide +kernel

/-- A learn request with a free place, and with its bucket full; a recovery function; heads that pass and re-enter. -/
theorem test_learn : let s := after fun d => { d with lk := { learn := [⟨1, 2, 3⟩] } }
    s.dev.spindlesOn = true ∧ s.dev.lk.learn = [⟨1, 2, 3⟩] ∧ s.dev.macFind 1 2 s.dev.lk.badMac = none ∧
    (List.range 8).find? (fun j => s.dev.tfld T.mac (s.dev.macBucket 1 2 + j) 0 31 31 == 0) = some 0 ∧
    (let d := forN 8 (fun j d => d.setTab T.mac (s.dev.macBucket 1 2 + j) 0 0x80000000) s.dev
     d.macFind 1 2 d.lk.badMac = none ∧
     (List.range 8).find? (fun j => d.tfld T.mac (d.macBucket 1 2 + j) 0 31 31 == 0) = none) ∧
    (let d := { (runDev.setTab T.rcvy 2047 0 0x80000000).setTab T.rcvyHist 2047 5 1 with time := { run := true, frc := 2 ^ 40 } }
     d.tfld T.rcvy 2047 0 31 31 = 1 ∧ d.tab T.rcvyHist 2047 5 = 1 ∧
     d.passed (d.tab96 T.rcvyHist 2047 2) (max 1 (d.tfld T.rcvy 2047 0 15 0) * 10 ^ 6) = true) := by decide +kernel

/-- A head of a Spindle's queue while forwarding is off, one that an exception drops, and recirculated heads. -/
theorem test_pass : let s := after fun d => d.setCk { frames := [(1, { bytes := [0xFF], eth := false })], nextId := 2, spn := [(0, [1])] }
    s.dev.spnQ 0 = [1] ∧ s.dev.forwards = true ∧ (s.dev.frame 1).legacy = true ∧ (s.dev.frame 1).eth = false ∧ (s.dev.frame 1).rcv = none ∧
    (let d := (s.dev.setSpnQ 0 []).setFrame 1 { s.dev.frame 1 with passes := (s.dev.frame 1).passes + 1 }
     (d.gouge 1 {}).1.exc ≠ 0 ∧ (d.gouge 1 {}).2.excAct (d.gouge 1 {}).1.exc = 0) ∧
    (after fun d => d.setPwr {}).dev.forwards = false := by decide +kernel

/-- The device whose legacy start entry names node 0, which ends the walk. -/
def legacyEnds (d : Dev) : Dev :=
  ((d.wr (R.PARS_LIVE 0) 0xC0000000).setTab (T.startOf 0) 37 0 0x80000000).setTab T.node 0 0 0xC0000000

/-- A head whose walk ends without exception and that no trap takes. -/
theorem test_pass_clean : let s := after fun d => (legacyEnds d).setCk { frames := [(1, { bytes := [0xFF], eth := false })], nextId := 2, spn := [(0, [1])] }
    s.dev.spnQ 0 = [1] ∧ s.dev.forwards = true ∧ (s.dev.frame 1).legacy = true ∧ (s.dev.frame 1).eth = false ∧ (s.dev.frame 1).rcv = none ∧
    (let d := (s.dev.setSpnQ 0 []).setFrame 1 { s.dev.frame 1 with passes := (s.dev.frame 1).passes + 1 }
     (d.gouge 1 {}).1.exc = 0 ∧ (d.gouge 1 {}).2.trapped ((d.gouge 1 {}).2.frame 1) = false) := by decide +kernel

/-- A recirculated head whose queue has room. -/
theorem test_recirc : let s := after fun d => d.setCk { frames := [(1, { bytes := [0xFF] })], nextId := 2, recirc := [1] }
    s.dev.pwr.xtalOk = true ∧ s.dev.recircNext s.dev.ck.recirc [] = some 1 ∧ (s.dev.frame 1).ingTc < 6 ∧
    (s.dev.spnQ (tupleHash (tupleOf (s.dev.frame 1).legacy (s.dev.frame 1).bytes) (s.dev.rd R.RULE_HASH_SEED) % 4)).length < 448 := by decide +kernel

/-- The VLAN table's window: idle and busy, an entry that is there and one past the end, and a page that another owns. -/
theorem test_window : winAt 0x98100 = some .shd ∧ winAt 0xB0180 = some .strm ∧ winAt 0xD5100 = some (.tsn 37) ∧
    winAt (Win.base .fwd) = some .fwd ∧ run.dev.reach .hst (Win.base .fwd) = true ∧
    run.dev.mayWrite .hst (Win.base .fwd + 8) = true ∧ run.dev.ready (Win.base .fwd + 8) = true ∧ run.dev.tawRefused .hst .fwd 2 = false ∧
    (withReg (Win.base .fwd + 8) 0x80000000).dev.bit (Win.base .fwd + 8) 31 = true ∧ run.dev.bit (Win.base .fwd + 8) 31 = false ∧
    (withRegs [(Win.base .fwd, 1), (Win.base .fwd + 4, 4095)]).dev.tawJudge .fwd 2 = 0 ∧
    (withRegs [(Win.base .fwd, 1), (Win.base .fwd + 4, 4096)]).dev.tawJudge .fwd 2 ≠ 0 ∧
    (withReg (unitBase (Win.base .fwd) + 0x24) 1).dev.reach .hosta (Win.base .fwd) = true ∧
    (withReg (unitBase (Win.base .fwd) + 0x24) 2).dev.mayWrite .hosta (Win.base .fwd + 8) = false := by decide

/-- Operations in progress: a READ, a WRITE that is stored, and one that is refused when it completes. -/
theorem test_window_end : let w := Win.base .fwd
    (withReg (w + 8) 0x80000001).dev.bit (w + 8) 31 = true ∧ (withReg (w + 8) 0x80000001).dev.fld (w + 8) 2 0 = 1 ∧
    (let s := withRegs [(w, 1), (w + 4, 4095), (w + 8, 0x80000002)]
     s.dev.fld (w + 8) 2 0 ≠ 1 ∧ s.dev.tawJudge .fwd (s.dev.fld (w + 8) 2 0) = 0 ∧ s.dev.rd w = 1 ∧
     (s.dev.wr (w + 4) 4096).tawJudge .fwd ((s.dev.wr (w + 4) 4096).fld (w + 8) 2 0) ≠ 0) := by decide

/-- Gate list changes: none pending and one pending, a list in order and an empty one. -/
theorem test_gate_change : Accepts run .hst (R.TSN_ADM_LIST 37) ∧ (withReg (R.TSN_STAT 37) 0x80000000).dev.bit (R.TSN_STAT 37) 31 = true ∧
    (withReg (R.TSN_STAT 37) 0x80000000).dev.cctOf 37 ≤ (withReg (R.TSN_STAT 37) 0x80000000).dev.domNow ((withReg (R.TSN_STAT 37) 0x80000000).dev.tsnTd 37) ∧
    run.dev.bit (R.TSN_STAT 37) 31 = false ∧ (run.dev.wr (R.TSN_ADM_LIST 37) 0).admBad 37 = true ∧
    (((withReg (R.TSN_ADM_CYCLE 37) 1000).dev.setTab (T.gclAdm 37) 0 1 1000).wr (R.TSN_ADM_LIST 37) 1).admBad 37 = false := by decide +kernel

/-- Port 0 with an operating list of two entries, in the interval that `g` names. -/
def twoGates (g : Nat) : State :=
  let s := withRegs [(R.TSN_CTRL 0, 0x80000000), (R.TSN_OPR_LIST 0, 2), (R.TSN_OPR_CYCLE 0, 1000), (R.TD_CTRL 0, 0x80000000), (R.TSN_GATE 0, g)]
  { s with dev := (s.dev.setTab (T.gclOpr 0) 0 1 500).setDom 0 { t := (if g = 0 then 600 else 100) * 2 ^ 64 } }

/-- An operating list of two entries in its first and its last interval, with no change pending. -/
theorem test_gate_list :
    (∀ g ∈ [0, 0x10000], listAt ((twoGates g).dev.oprIv 0) ((twoGates g).dev.oprLen 0) 0 ((twoGates g).dev.oprPhase 0) ≠
      (twoGates g).dev.fld (R.TSN_GATE 0) 25 16) ∧ (twoGates 0).dev.listRuns 0 = true ∧ (twoGates 0).dev.fld (R.TSN_GATE 0) 25 16 + 1 < (twoGates 0).dev.oprLen 0 ∧
    (twoGates 0).dev.oprStart 0 ((twoGates 0).dev.fld (R.TSN_GATE 0) 25 16 + 1) < (twoGates 0).dev.oprCycle 0 ∧
    (twoGates 0x10000).dev.listRuns 0 = true ∧ (twoGates 0x10000).dev.oprLen 0 ≤ (twoGates 0x10000).dev.fld (R.TSN_GATE 0) 25 16 + 1 ∧
    (twoGates 0x10000).dev.bit (R.TSN_STAT 0) 31 = false := by decide +kernel

/-- A stream gate with a change pending; a verification in progress, with attempts left and at its last. -/
theorem test_verification : (after fun d => d.setTab T.gate 1023 0 0x40000000).dev.sgPending 1023 = true ∧
    (let d := (after fun d => d.setTab T.gate 1023 0 0x40000000).dev
     d.tab96 T.gateCct 1023 0 ≤ d.domNow (d.tfld T.gate 1023 0 18 16)) ∧
    (let s := withRegs [(R.TSN_STAT 27, 0x10000000), (R.ETH_STAT 27, 0x00200000)]
     s.dev.fld (R.TSN_STAT 27) 29 28 = 1 ∧ s.dev.portUp 27 = true ∧ s.dev.tab T.tsnPort 27 2 < 2 ∧
     2 ≤ (s.dev.setTab T.tsnPort 27 2 2).tab T.tsnPort 27 2) := by decide +kernel

/-- A CAN channel 23 in a state. -/
def can (st : Nat) (c : CanSt) : State := after fun d => (d.wr (R.CAN_STAT 23) (st * 2 ^ 28)).setCan 23 c

/-- The states that a channel leaves by itself. -/
theorem test_can_states : (can 1 {}).dev.canState 23 = 1 ∧ (can 1 {}).dev.legRuns = true ∧ (can 5 {}).dev.canState 23 = 5 ∧
    ((can 4 {}).dev.wr (R.CAN_CTRL 23) 0x2001).canState 23 = 4 ∧ ((can 4 {}).dev.wr (R.CAN_CTRL 23) 0x2001).bit (R.CAN_CTRL 23) 13 = true ∧
    ((can 4 {}).dev.canCh 23).stuck = false ∧ (can 2 {}).dev.notReady 23 = false ∧
    ((can 4 {}).dev.wr (R.CAN_CTRL 23) 0x2001).passed ((can 4 {}).dev.canCh 23).boffAt
      (((can 4 {}).dev.wr (R.CAN_CTRL 23) 0x2001).fld (R.CAN_BOFF 23) 31 16 * 1000000) = true ∧ (can 2 {}).dev.canState 23 = 2 ∧ (can 2 {}).dev.gatedLeg 23 = false ∧ (can 2 {}).dev.canTec 23 < 256 := by
  decide

/-- Enabling with a timing in order and out of order; a channel that is on, armed, and to be recovered. -/
theorem test_can_writes : Accepts run .hst (R.CAN_CTRL 23) ∧ run.dev.bit (R.CAN_CTRL 23) 0 = false ∧ Nat.testBit 1 0 = true ∧ Nat.testBit 1 12 = false ∧
    (withReg (R.CAN_NBT 23) 0x00BA2202).dev.canConfigOk 23 (bitsOf ((1 &&& 0x7000) + (1 &&& 0x7E0)) 10 8) (bitsOf ((1 &&& 0x7000) + (1 &&& 0x7E0)) 7 6) = true ∧
    (withReg (R.CAN_NBT 23) 0x00000000).dev.canConfigOk 23 (bitsOf ((1 &&& 0x7000) + (1 &&& 0x7E0)) 10 8) (bitsOf ((1 &&& 0x7000) + (1 &&& 0x7E0)) 7 6) = false ∧
    (withReg (R.CAN_CTRL 23) 1).dev.bit (R.CAN_CTRL 23) 0 = true ∧ ((can 4 {}).dev.wr (R.CAN_CTRL 23) 1).bit (R.CAN_CTRL 23) 0 = true ∧
    ((can 4 {}).dev.wr (R.CAN_CTRL 23) 1).canState 23 = 4 ∧ ((can 4 {}).dev.wr (R.CAN_CTRL 23) 1).bit (R.CAN_CTRL 23) 13 = false ∧
    ((can 4 { stuck := true }).dev.canCh 23).stuck = true ∧ ((can 2 {}).dev.wr (R.CAN_CTRL 23) 1).bit (R.CAN_CTRL 23) 12 = false ∧
    (can 2 {}).dev.canState 23 ≠ 0 ∧ ((can 7 {}).dev.wr (R.CAN_CTRL 23) 0x1001).bit (R.CAN_CTRL 23) 12 = true ∧ (can 7 {}).dev.canState 23 = 7 ∧
    2 ≤ ((can 7 {}).dev.wr (R.CAN_SWK_CTRL 23) 2).fld (R.CAN_SWK_CTRL 23) 1 0 := by decide

/-- Network management: on and off, awake, ready to sleep. -/
theorem test_nm : Accepts run .hst (R.NM_CFG 23) ∧ (withReg (R.NM_CTRL 23) 1).dev.bit (R.NM_CTRL 23) 0 = true ∧ Accepts run .hst (R.NM_CTRL 23) ∧
    (withReg (R.NM_CFG 23) 0x80000000).dev.bit (R.NM_CFG 23) 31 = true ∧ run.dev.canState 23 ≠ 7 ∧
    (withReg (R.NM_STAT 23) 0x10000000).dev.nmState 23 = 1 ∧ run.dev.gatedLeg 23 = false ∧ run.dev.poolUsedCan 23 < 32 ∧
    (withReg (R.NM_STAT 23) 0x20000000).dev.nmState 23 = 2 ∧
    (let d := { runDev with time := { run := true, frc := 2 ^ 60 } }
     max 1 (d.fld (R.NM_TIMING 23) 31 16) * 1000000 * 2 ^ 16 ≤ d.nmRan 23 ∧
     max 1 (d.fld (R.NM_TIMING 23) 15 0) * 1000000 * 2 ^ 16 ≤ d.nmRan 23) := by decide

/-- A channel that may send: a wake pattern, or its pool's best; an attempt of the pool; a cancel; a received frame. -/
theorem test_can_traffic : (can 2 { pattern := true }).dev.canSends 23 = true ∧ ((can 2 { pattern := true }).dev.canCh 23).pattern = true ∧
    (let e : CanEnt := { fr := { id := 5 } }
     (can 2 { pool := [e] }).dev.canSends 23 = true ∧ ((can 2 { pool := [e] }).dev.canCh 23).pattern = false ∧
     (can 2 { pool := [e] }).dev.ttsState 23 = 0 ∧ poolBest ((can 2 { pool := [e] }).dev.canCh 23).pool = some e) ∧
    (let a : CanAtt := {}
     ((can 2 { att := some a }).dev.canCh 23).att = some a ∧ a.src = 0 ∧ a.ent.covered = false ∧ (can 2 { att := some a }).dev.canMode 23 ≠ 3 ∧
     (can 2 { att := some a }).dev.canMode 23 ≠ 4 ∧ (can 2 { att := some a }).dev.canTec 23 < 256) ∧
    Accepts run .hst (R.CAN_CANCEL 23) ∧ run.dev.bit (R.CAN_CANCEL 23) 31 = false ∧ (run.dev.canCh 23).att = none ∧
    (let f : LegFrame := { kind := 1, id := 5, data := [1] }
     (can 2 {}).dev.notReady 23 = false ∧ (can 2 {}).dev.canFormat 23 f.kind = true ∧ (can 2 {}).dev.fld (R.CAN_SEC 23) 1 0 = 0 ∧
     ((can 2 {}).dev.canCh 23).rx.foldl (fun a e => a + rxBytes e.1) 0 + rxBytes f ≤ 8192) := by decide

/-- Schedule 23 in a state, with a record and a configuration word, on a CAN channel in ERROR_ACTIVE. -/
def tts (st : Nat) (v : TtsCh) (cfg : Nat) : State :=
  let s := withRegs [(R.TTS_CH_STAT 23, st * 2 ^ 28), (R.CAN_STAT 23, 0x20000000), (R.TTS_CH_CFG 23, cfg)]
  { s with dev := s.dev.setTts 23 v }

/-- Enabling with a configuration in order and out of order, and disabling. -/
theorem test_tts_enable : Accepts run .hst (R.TTS_CH_CFG 23) ∧ run.dev.bit (R.TTS_CH_CFG 23) 31 = false ∧
    1 < bitsOf (0xA0000000 &&& 0x37370700) 29 28 ∧ ¬(1 < bitsOf (0x80000000 &&& 0x37370700) 29 28 ∨ bitsOf (0x80000000 &&& 0x37370700) 21 20 = 3 ∨
      bitsOf (0x80000000 &&& 0x37370700) 10 8 = 7) ∧ (withReg R.TTS_CTRL 1).dev.bit R.TTS_CTRL 0 = true ∧
    (withReg (R.TTS_CH_CFG 23) 0x80000000).dev.bit (R.TTS_CH_CFG 23) 31 = true := by decide

/-- A potential time master that may send, and one that follows; a schedule with no message and no gap; a window that serves its cycle. -/
theorem test_tts_messages : (tts 3 {} 0x90000000).dev.ttsState 23 ∈ [1, 2, 3] ∧ (tts 3 {} 0x90000000).dev.ttsPotential 23 = true ∧
    (tts 3 {} 0x90000000).dev.canRuns 23 = true ∧ (tts 3 {} 0x90000000).dev.canSends 23 = true ∧ (tts 3 {} 0x90000000).dev.refCome 23 = true ∧
    (tts 1 {} 0x90000000).dev.refCome 23 = true ∧ (tts 1 {} 0x90000000).dev.ttsPotential 23 = true ∧
    (tts 1 {} 0x80000000).dev.ttsState 23 = 1 ∧ (tts 1 {} 0x80000000).dev.ttsPotential 23 = false ∧
    (tts 1 {} 0x80000000).dev.canRuns 23 = true ∧
    0 = (tts 3 {} 0x90000000).dev.fld (R.TTS_CH_CFG 23) 26 24 ∧ (tts 2 {} 0x80000000).dev.ttsState 23 = 2 ∧
    (tts 2 {} 0x80000000).dev.ttsPotential 23 = false ∧ 0 < (tts 3 {} 0x91000000).dev.fld (R.TTS_CH_CFG 23) 26 24 ∧
    (tts 3 {} 0x91000000).dev.ttsState 23 = 3 ∧ ((tts 2 {} 0x80000000).dev.ttsCh 23).gap = false ∧
    (let d := (tts 2 { base := 8191, count := 1 } 0x80000000).dev.setTab T.slot 8191 0 0xB0000000
     d.ttsState 23 ∈ [2, 3] ∧ 8191 ∈ d.slotsOf 23 ∧ serves (d.tab T.slot 8191 0) (d.cycleCnt 23) = true ∧
     d.ntuCome 23 (d.slotTimes 8191).1 d.time.frc = true) := by decide

/-- Open windows to send, to receive, and of another type. -/
theorem test_tts_windows : ∀ k ∈ [1, 2, 3, 4],
    ((tts 2 { win := some 8191 } 0x80000000).dev.setTab T.slot 8191 0 (0x80000000 + k * 2 ^ 28)).openSlot 23 = some (8191, k) ∧
    ((tts 2 { win := some 8191 } 0x80000000).dev.setTab T.slot 8191 0 (0x80000000 + k * 2 ^ 28)).spanOver 23 8191 = true ∧
    (((tts 2 { win := some 8191 } 0x80000000).dev.setTab T.slot 8191 0 (0x80000000 + k * 2 ^ 28)).canCh 23).att = none := by decide

/-- Swaps of a schedule in order and out of order, pending, and at a cycle count of 0; a write that clears a buffer. -/
theorem test_tts_swap : Accepts run .hst (R.TTS_CH_CTRL 23) ∧ (tts 2 {} 0x80000000).dev.bit (R.TTS_CH_STAT 23) 1 = false ∧
    (tts 2 {} 0x80000000).dev.swapBad 23 = false ∧ (((tts 2 {} 0x80000000).dev.wr (R.TTS_CH_MATRIX 23) 0x1FFF0002).setTab T.slotStaged 8191 0 0x80000000).swapBad 23 = true ∧
    (let d := (tts 2 {} 0x80000000).dev.wr (R.TTS_CH_MATRIX 23) 0x1FFF0001
     0 < (d.stagedRange 23).2 ∧ (d.stagedRange 23).1 + 0 < 8192) ∧
    (withReg (R.TTS_CH_STAT 23) 0x20000002).dev.bit (R.TTS_CH_STAT 23) 1 = true ∧ (withReg (R.TTS_CH_STAT 23) 0x20000002).dev.cycleCnt 23 = 0 ∧
    Accepts run .hst (R.TTS_CH_HBCLR 23) ∧ Nat.testBit 0x80000000 31 = true := by decide

/-- LIN channels: rates at the ends of their range and outside it, in SLEEP, commander with a schedule. -/
theorem test_lin : Accepts run .hst (R.LIN_CTRL 7) ∧ run.dev.bit (R.LIN_CTRL 7) 0 = false ∧
    128000 ≤ (withReg (R.LIN_RATE 7) 128000).dev.fld (R.LIN_RATE 7) 23 0 ∧ (withReg (R.LIN_RATE 7) 2560000).dev.fld (R.LIN_RATE 7) 23 0 ≤ 2560000 ∧
    (withReg (R.LIN_RATE 7) 127999).dev.fld (R.LIN_RATE 7) 23 0 < 128000 ∧ 2560000 < (withReg (R.LIN_RATE 7) 2560001).dev.fld (R.LIN_RATE 7) 23 0 ∧
    (let s := withRegs [(R.LIN_CTRL 7, 3), (R.LIN_STAT 7, 0x20000000)]
     s.dev.bit (R.LIN_CTRL 7) 0 = true ∧ s.dev.linState 7 = 2) ∧
    (∀ w ∈ [0x80000000, 0xA0000000], let s := withRegs [(R.LIN_CTRL 7, 3), (R.LIN_STAT 7, 0x10000000), (R.LIN_SCHED_A 7 31, w)]
     s.dev.linState 7 = 1 ∧ s.dev.linCmd 7 = true ∧ s.dev.legDrives (24 + 7) = true ∧ (s.dev.linCh 7).bye = none ∧
     (s.dev.linCh 7).held = [] ∧ (s.dev.linEntry 7 31).testBit 29 = w.testBit 29 ∧
     (let d := s.dev.setLin 7 { held := [0x80050000, w] }
      (d.linCh 7).held = 0x80050000 :: [w] ∧ Nat.testBit 0x80050000 29 = false ∧ (d.linCh 7).bye = none ∧
      d.bit (R.LIN_CTRL 7) 4 = (d.linCh 7).tbl) ∧
     s.dev.bit (R.LIN_CTRL 7) 4 = (s.dev.linCh 7).tbl ∧ s.dev.linNext 7 (s.dev.linCh 7).pos = some 31 ∧ s.dev.linEntry 7 31 = w) := by decide

/-- A responder that subscribes an identifier, and one that publishes it; a header that waits for its response. -/
theorem test_lin_responder : (∀ w ∈ [0xC0000000, 0xA0000000],
      let s := withRegs [(R.LIN_CTRL 7, 1), (R.LIN_STAT 7, 0x10000000), (R.LIN_ID 7 63, w)]
      s.dev.linState 7 = 1 ∧ s.dev.linCmd 7 = false ∧ s.dev.legDrives (24 + 7) = true ∧ s.dev.bit (R.LIN_ID 7 63) 31 = true ∧
      s.dev.fld (R.LIN_ID 7 63) 30 29 = bitsOf w 30 29) ∧ bitsOf 0xC0000000 30 29 = 2 ∧ bitsOf 0xA0000000 30 29 = 1 ∧
    ((after fun d => d.setLin 7 { bufs := [(63, [(0, some [1])])] }).dev.linCh 7).at 63 (run.dev.time.frc - 0) = some [1] ∧
    (let d := (after fun d => d.setLin 7 { wait := some (5, 9) }).dev
     (d.linCh 7).wait = some (5, 9) ∧ d.legRuns = true ∧ d.headsStopped = false ∧ d.linLen 7 5 ≤ (List.replicate 8 (0 : Byte)).length ∧
     (List.replicate 8 0 ++ [0x7A] : List Byte).take (d.linLen 7 5 + 1) = d.linResponse 7 5 ((List.replicate 8 0).take (d.linLen 7 5)) ∧
     (List.replicate 8 0 ++ [0x7B] : List Byte).take (d.linLen 7 5 + 1) ≠ d.linResponse 7 5 ((List.replicate 8 0).take (d.linLen 7 5))) ∧
    (withReg (R.LIN_STAT 7) 0x30000000).dev.linState 7 = 3 := by decide

/-- RS-485 channels: rates at the ends of their range and outside it, idle with a frame to send, and sending. -/
theorem test_serial : Accepts run .hst (R.SER_CTRL 3) ∧ run.dev.bit (R.SER_CTRL 3) 0 = false ∧
    256 ≤ (withReg (R.SER_RATE 3) 256).dev.fld (R.SER_RATE 3) 23 0 ∧ (withReg (R.SER_RATE 3) 2133333).dev.fld (R.SER_RATE 3) 23 0 ≤ 2133333 ∧
    (withReg (R.SER_RATE 3) 255).dev.fld (R.SER_RATE 3) 23 0 < 256 ∧ 2133333 < (withReg (R.SER_RATE 3) 2133334).dev.fld (R.SER_RATE 3) 23 0 ∧
    (∀ st ∈ [1, 3], let d := (withReg (R.SER_STAT 3) (st * 2 ^ 28)).dev.setSer 3 { queue := [{ data := [1] }] }
      d.serState 3 = st ∧ (d.serCh 3).queue = [{ data := [1] }] ∧ d.legDrives (32 + 3) = true ∧ d.legRuns = true ∧ d.headsStopped = false) := by decide

/-- Wake-ups of an armed CAN channel, of a sleeping LIN channel, and of a serial channel in REST. -/
theorem test_legacy_wakes : run.dev.pwr.lineSafe = false ∧ run.dev.pwr.phase = .active ∧ run.dev.bit R.PWR_STAT 27 = false ∧
    (let s := withRegs [(R.CAN_STAT 23, 0x70000000), (R.CAN_SWK_CTRL 23, 1)]
     s.dev.canState 23 = 7 ∧ s.dev.swkWakes 23 1 {} = true) ∧ (withReg (R.LIN_STAT 7) 0x20000000).dev.linState 7 = 2 ∧
    (let d := (withReg R.PWR_WAKE_LEG 0x800).dev.setPwr { runDev.pwr with phase := .rest }
     d.pwr.lineSafe = false ∧ d.pwr.phase = .rest ∧ d.wakeOn 3 3 = true) := by decide

/-- The gateway: a legacy frame that waits, a copy for an RS-485 channel, one for a CAN channel, and an open 1722 frame. -/
theorem test_gateway : (let d := (after fun d => d.setLin 7 { rx := [({ kind := 4, id := 5, data := [1] }, 9)] }).dev
      d.pwr.phase = .active ∧ d.pwr.xtalOk = true ∧ (∀ n < 24, (d.canCh n).secRx = []) ∧ d.nextLeg = some 31 ∧ (d.takeLeg 31).1 = some ({ kind := 4, id := 5, data := [1] }, 9) ∧
      (cellsOf (16 + 1) : Int) ≤ (d.takeLeg 31).2.freeCells ∧ ∀ k < 4, ((d.takeLeg 31).2.spnQ k).length < 448) ∧
    (let d := (after fun d => { d with gwy := { open_ := [(0, [[1]])] } }).dev
     smGet (fun _ => []) d.gwy.open_ 0 ≠ [] ∧
     d.passed (smGet (fun _ => 0) d.gwy.openAt 0) (d.tfld T.gwyProf 0 0 15 0 * 1000) = true) := by decide +kernel

/-- A copy for the gateway's port. -/
theorem test_gateway_copy : ∀ dest ∈ [23, 35], let c : Copy := { frame := 1, q := 272, cells := 1, len := 17, dest := dest }
    let s := after fun d => (d.wr (R.CAN_CTRL 23) 1).setCk { frames := [(1, { bytes := 1 :: List.replicate 16 0, eth := false, refs := 1 })], nextId := 2, qs := [(272, { sram := [c] })] }
    (s.dev.takeCopy 34).1 = some c ∧ c.q / 8 = 34 ∧ (∀ n < 24, (s.dev.canCh n).secTx = []) ∧
    (let d := (s.dev.takeCopy 34).2
     if dest = 35 then 32 ≤ c.dest ∧ c.dest < 36 ∧ (d.serCh (c.dest - 32)).queue.length < 16
     else c.dest < 24 ∧ d.bufFor c.dest (legFrame (d.frame c.frame).bytes) = none ∧ d.canFormat c.dest (legFrame (d.frame c.frame).bytes).kind = true ∧
       d.poolUsedCan c.dest < 32 ∧ d.fld (R.CAN_SEC c.dest) 1 0 = 0) := by decide +kernel

/-- Port 27 with a link state, a mode and enabled, and what its registers are. -/
def port (st mode en : Nat) : State :=
  withRegs [(R.ETH_STAT 27, st * 2 ^ 20), (R.ETH_MODE 27, mode * 2 ^ 12), (R.ETH_CTRL 27, en)]

/-- Enables with a mode that the port has and one that it has not; diagnostics in TRAINING and outside it. -/
theorem test_port_enable : Accepts run .hst (R.ETH_CTRL 27) ∧ Nat.testBit 1 0 = true ∧ Nat.testBit 1 4 = false ∧ (port 0 4 0).dev.bit (R.ETH_CTRL 27) 0 = false ∧
    modeValid 27 ((port 0 4 0).dev.ethMode 27) = true ∧ (port 0 4 0).dev.portState 27 = 0 ∧ run.dev.pwr.phase = .active ∧ run.dev.pwr.step ≠ 2 ∧
    modeValid 27 ((port 0 0xA 0).dev.ethMode 27) = false ∧ (port 1 4 1).dev.bit (R.ETH_CTRL 27) 0 = true ∧ (port 1 4 1).dev.portState 27 = 1 ∧
    (port 2 4 1).dev.portState 27 ≠ 1 ∧ (port 5 4 1).dev.portState 27 = 5 ∧ Accepts run .hst (R.ETH_MODE 27) := by decide

/-- Links in TRAINING and UP, an in-band rate that differs, and LPI. -/
theorem test_links : (port 2 4 1).dev.portState 27 = 2 ∧ (withRegs [(R.ETH_MODE 3, 0xA100), (R.ETH_STAT 3, 0x00260000)]).dev.ethMode 3 = 0xA ∧
    (withRegs [(R.ETH_MODE 3, 0xA100), (R.ETH_STAT 3, 0x00260000)]).dev.bit (R.ETH_MODE 3) 8 = true ∧
    (withRegs [(R.ETH_MODE 3, 0xA100), (R.ETH_STAT 3, 0x00260000)]).dev.portState 3 = 2 ∧
    (withRegs [(R.ETH_MODE 3, 0xA100), (R.ETH_STAT 3, 0x00260000)]).dev.fld (R.ETH_STAT 3) 18 16 ≠
      (withRegs [(R.ETH_MODE 3, 0xA100), (R.ETH_STAT 3, 0x00260000)]).dev.upRate 3 1 ∧
    (port 2 4 1).dev.portUp 27 = true ∧ (port 2 4 1).dev.eeeMode 27 = true ∧ ((port 2 4 1).dev.wr (R.ETH_EEE 27) 0x80000000).bit (R.ETH_EEE 27) 31 = true ∧
    (port 2 4 1).dev.bit (R.ETH_STAT 27) 6 = false ∧ (port 2 4 1).dev.portIdle 27 = true ∧
    (withReg (R.ETH_STAT 27) 0x00200040).dev.bit (R.ETH_STAT 27) 6 = true ∧
    (after fun d => d.setTx 27 (some ⟨{ frame := 1, q := 216, cells := 1, len := 64 }, [], 0, false⟩)).dev.portIdle 27 = false := by decide

/-- TC10: UP without a request, asleep, on the way to sleep, with remote sleep accepted. -/
theorem test_tc10 : Accepts run .hst (R.ETH_TC10 27) ∧ (port 2 4 1).dev.bit (R.ETH_TC10 27) 1 = false ∧ (port 4 4 1).dev.portState 27 = 4 ∧
    (port 3 4 1).dev.portState 27 = 3 ∧ ((port 2 4 1).dev.wr (R.ETH_TC10 27) 0x10).bit (R.ETH_TC10 27) 4 = true ∧
    (port 4 4 1).dev.pwr.phase = .active ∧ (port 4 4 1).dev.bit R.PWR_STAT 27 = false := by decide

/-- MDIO: idle and busy, a command in progress, and a poll of a link that is up and one that is down. -/
theorem test_mdio : Accepts run .hst (R.ETH_MDIO_CMD 3) ∧ run.dev.bit (R.ETH_MDIO_CMD 3) 31 = false ∧
    (withReg (R.ETH_MDIO_CMD 3) 0x80000000).dev.bit (R.ETH_MDIO_CMD 3) 31 = true ∧
    (after fun d => { d with mdio := [⟨3, true, 0, 0⟩] }).dev.mdio = [⟨3, true, 0, 0⟩] ∧
    (let s := withRegs [(R.ETH_MDIO_CFG 3, 1), (R.ETH_STAT 3, 0x00200000)]
     s.dev.bit (R.ETH_MDIO_CFG 3) 0 = true ∧ s.dev.portState 3 ≠ 0 ∧ s.dev.portState 3 = 2) ∧ Nat.testBit 4 2 = true ∧ Nat.testBit 0 2 = false := by
  decide

/-- Frames received and dropped, and frames received and entered. -/
theorem test_frame_rx : (port 2 4 1).dev.portUp 27 = true ∧ (port 2 4 1).dev.fld (R.ETH_CTRL 27) 3 2 ≠ 1 ∧ (port 2 4 1).dev.wireOf 27 = none ∧
    (port 2 4 1).dev.arrivingOf 27 = none ∧ (port 2 4 1).dev.pwr.phase = .active ∧ (port 2 4 1).dev.pwr.keeper = false ∧
    (port 2 4 1).dev.pairPort 27 = false ∧ (port 2 4 1).dev.tfld T.secy 27 0 30 30 = 0 ∧ etype12 (List.replicate 60 0) ≠ 0x8808 ∧
    60 ≤ (List.replicate 60 (0 : Byte)).length ∧ (List.replicate 60 (0 : Byte)).length + 4 ≤ (port 2 4 1).dev.fld (R.ETH_MAX_FRAME 27) 15 0 ∧
    (cellsOf 64 : Int) ≤ (port 2 4 1).dev.freeCells ∧ (∀ k < 4, ((port 2 4 1).dev.spnQ k).length < 448) ∧ (port 2 4 1).dev.epmelOn = false ∧
    (port 2 4 1).dev.ck.deaf.contains 27 = false := by
  decide +kernel

/-- A port with nothing to send, one with a copy at the head of a queue, and one that sends. -/
theorem test_frame_tx : (port 2 4 1).dev.portUp 27 = true ∧ (port 2 4 1).dev.bit (R.ETH_STAT 27) 6 = false ∧ (port 2 4 1).dev.txOf 27 = none ∧
    (port 2 4 1).dev.heldTx 27 = none ∧ (port 2 4 1).dev.pwr.xtalOk = true ∧ ((port 2 4 1).dev.txPick 27).1 = none ∧
    (let c : Copy := { frame := 1, q := 223, cells := 1, len := 64 }
     let d := (port 2 4 1).dev.setCk { frames := [(1, { bytes := List.replicate 60 0, refs := 1 })], nextId := 2, qs := [(223, { sram := [c] })] }
     (d.txPick 27).1 = some 7 ∧ ((d.txPick 27).2.qst 223).sram = [c] ∧ c.q = 8 * 27 + 7) ∧
    (let x : TxSt := ⟨{ frame := 1, q := 216, cells := 1, len := 64 }, [1], 0, false⟩
     let d := ((port 2 4 1).dev.setCk { frames := [(1, { refs := 1 })], nextId := 2 }).setTx 27 (some x)
     d.txOf 27 = some x ∧ (d.frame x.copy.frame).more = false ∧ x.copy.ct = false ∧ d.fld (R.ETH_CTRL 27) 3 2 ≠ 1) := by decide +kernel

/-- TX ring 127 in a state, of 16 descriptors, with TAIL `tail`, of endpoint A, whose DMA is open. -/
def ring (st tail : Nat) (v : RingSt) : State :=
  let s := withRegs [(ringStat 127, st * 2 ^ 28), (ringCfg 127, 0x80040000), (ringTail 127, tail), (R.FEAT_CTRL_A, 2)]
  { s with dev := { s.dev.setRing 127 v with eps := [(0, { link := 2, bme1 := true })] } }

/-- A ring in each state, with and without agreement; one that has reached its completion point. -/
theorem test_rings : PairAccepts run .hst (127 % 64) (ringReg 127 0x14) ∧ (∀ st < 5, (ring st 0 {}).dev.ringState 127 = st) ∧
    (ring 3 0 {}).dev.epOk ((ring 3 0 {}).dev.ringEp 127) = true ∧ (withReg (ringStat 127) 0x30000000).dev.epOk (run.dev.ringEp 127) = false ∧
    (ring 2 0 { latch := 1 }).dev.ringAtPoint 127 = false ∧ (ring 2 0 {}).dev.ringAtPoint 127 = true := by decide

/-- Writes of a ring's registers and of a pair's owner. -/
theorem test_ring_writes : PairAccepts run .hst (127 % 64) (ringCfg 127) ∧ run.dev.bit (ringCfg 127) 31 = false ∧ Nat.testBit 0x80100000 31 = true ∧
    4 ≤ bitsOf 0x80040000 20 16 ∧ bitsOf 0x80100000 20 16 ≤ 16 ∧ (withReg R.FEAT_CTRL_A 2).dev.rd (ringReg 127 0) % 128 = 0 ∧
    (withReg R.FEAT_CTRL_A 2).dev.epOk (run.dev.ringEp 127) = true ∧ bitsOf 0x80030000 20 16 < 4 ∧ 16 < bitsOf 0x80110000 20 16 ∧
    (withReg (ringReg 127 0) 64).dev.rd (ringReg 127 0) % 128 ≠ 0 ∧ PairAccepts run .hst (127 % 64) (ringTail 127) ∧
    (ring 1 0 {}).dev.ringSize 127 ≤ 16 % 65536 ∧ 15 % 65536 < (ring 1 0 {}).dev.ringSize 127 ∧ PairAccepts run .hst 63 (R.RP_CFG 63) ∧
    PairAccepts run .hosta 63 (R.RP_CFG 63) ∧ bitsOf 0x40000000 30 30 ≠ run.dev.fld (R.RP_CFG 63) 30 30 ∧
    bitsOf 0 30 30 = run.dev.fld (R.RP_CFG 63) 30 30 ∧ run.dev.ringState 63 = 0 ∧ run.dev.ringState (64 + 63) = 0 ∧ Req.hosta ≠ Req.hst := by decide

/-- A pair's hold-off; frames on a TX ring, good and not; a frame in hand to enter. -/
theorem test_ring_frames : (smGet (fun _ => ({} : ModSt)) (after fun d => { d with hif := { mods := [(63, { run := true, rx := true })] } }).dev.hif.mods 63).run = true ∧
    (after fun d => { d with hif := { mods := [(63, { run := true, rx := true })] } }).dev.passed
      (smGet (fun _ => ({} : ModSt)) (after fun d => { d with hif := { mods := [(63, { run := true, rx := true })] } }).dev.hif.mods 63).since
      (run.dev.fld (R.RP_MOD 63) 15 0 * 1000) = true ∧
    (let s := ring 1 1 {}
     let good := [[0, 0, 0xC0000000 + 60, 0, 0, 0, 0, 0]]
     let bad := [[0, 0, 0x40000000 + 60, 0, 0, 0, 0, 0]]
     s.dev.dmaOk 0 = true ∧ s.dev.pwr.phase = .active ∧ s.dev.ringEp 127 = 0 ∧ s.dev.txFrame 127 ⟨127, good, []⟩ = some good ∧
     txGood good = true ∧ s.dev.txFrame 127 ⟨127, bad, []⟩ = some bad ∧ txGood bad = false) ∧
    (let j : RingJob := { descs := [[0]], data := List.replicate 60 0 }
     let s := ring 1 1 { job := some j }
     (s.dev.ring 127).job = some j ∧ s.dev.bit R.BOOT_STRAP 2 = false ∧ s.dev.pwr.phase = .active ∧ (cellsOf (j.data.length + 4) : Int) ≤ s.dev.freeCells ∧
     ∀ i < 4, (s.dev.spnQ i).length < 448) := by decide +kernel

/-- An RX ring with a frame in hand, no ring with one and no copies; a capture record to drop and one to deliver. -/
theorem test_ring_delivery : (let s := after fun d => { d.setRing 5 { job := some {} } with eps := [(0, { link := 2, bme1 := true })] }
      s.dev.rxOpen 0 = some 5 ∧ s.dev.dmaOk 0 = true ∧ (s.dev.ring 5).job = some {}) ∧
    run.dev.rxOpen 1 = none ∧ (∀ c < 8, (run.dev.qst (8 * (32 + 1) + c)).sram = []) ∧
    (withRegs [(R.CAP_DRAIN, 0x80000000), (R.CAP_RECS, 1)]).dev.bit R.CAP_DRAIN 31 = true ∧
    (withRegs [(R.CAP_DRAIN, 0x80000000), (R.CAP_RECS, 1)]).dev.rd R.CAP_RECS ≠ 0 ∧ run.dev.bit R.DRAM_STAT 1 = false ∧
    (let s0 := withRegs [(R.CAP_DRAIN, 0x80000005), (R.CAP_RECS, 1), (R.CAP_WR, 2), (ringStat 5, 0x10000000), (ringCfg 5, 0x80040000), (ringTail 5, 1)]
     let s := { s0.dev with eps := [(0, { link := 2, bme1 := true })] }
     5 = s.fld R.CAP_DRAIN 5 0 ∧ s.ringEp 5 = s.fld R.CAP_DRAIN 16 16 ∧ s.ringState 5 = 1 ∧ (s.ring 5).job = none ∧
     s.dmaOk (s.fld R.CAP_DRAIN 16 16) = true ∧
     (rxPlan s.capBytes.length ([[0, 0, 256, 0, 0, 0, 0, 0]].take (s.posted 5 (s.fld (ringTail 5) 15 0)))).isSome = true) := by decide +kernel

/-- The Headstock runs and takes a copy of its port; it sends a frame of each end of the size range. -/
theorem test_headstock_port : run.dev.fld R.HST_STAT 31 28 = 0 ∧
    (let c : Copy := { frame := 1, q := 280, cells := 1, len := 64, kind := 1 }
     let d := run.dev.setCk { frames := [(1, { bytes := List.replicate 60 0, refs := 1 })], nextId := 2, qs := [(280, { sram := [c] })] }
     (d.takeCopy 35).1 = some c) ∧ run.dev.pwr.phase = .active ∧ 14 ≤ (List.replicate 14 (0 : Byte)).length ∧
    (List.replicate 14 (0 : Byte)).length ≤ 9212 ∧ (cellsOf (9212 + 4) : Int) ≤ run.dev.freeCells ∧
    (∀ i < 4, (run.dev.spnQ i).length < 448) := by decide +kernel

/-- A running device whose domain 7 has an adjustment left that the next cycle ends. -/
def slewing : State :=
  let s := withRegs [(R.TD_CTRL 7, 0x80000001)]
  { s with dev := { s.dev with time := { run := true, doms := [(7, { rem := 1 })] } } }

/-- Reads and writes of the time pages; a domain steered and not. -/
theorem test_time_pages : run.dev.reach .hst (R.TIME_FRC 0) = true ∧ run.dev.reach .hst (R.TD_S_LO 7) = true ∧ Accepts run .hst R.TIME_CTRL ∧
    Accepts run .hst (R.TD_RATE_HI 7) ∧ run.dev.steered 7 = false ∧
    (withRegs [(R.BOOT_STRAP, 4), (R.PAIR_STAT, 0x20000000), (R.PAIR_TIME_MAP, 0x80)]).dev.steered 7 = true ∧
    rateMax < (sgn 48 (0x7FFF % 65536 * 2 ^ 32 + run.dev.rd (R.TD_RATE_LO 7))).natAbs ∧ Accepts run .hst (R.TD_ADJ 7) ∧
    slewing.dev.time.run = true ∧ slewing.dev.adjLast 7 = true ∧ Accepts run .hst (R.TD_CTRL 7) ∧
    10 ^ 9 ≤ (withReg (R.TD_SET_NS 7) 1000000000).dev.fld (R.TD_SET_NS 7) 29 0 ∧ (withReg (R.TD_SET_NS 7) 999999999).dev.fld (R.TD_SET_NS 7) 29 0 < 10 ^ 9 ∧
    Nat.testBit 0x80000000 30 = false := by decide

/-- Outputs: settings in order and out of order, and outputs armed for one pulse and for a train. -/
theorem test_outputs : Accepts run .hst (R.TOUT_CFG 7) ∧ bitsOf 0 29 28 = 0 ∧ bitsOf 0x10000000 29 28 ≠ 0 ∧
    (withReg (R.TOUT_WIDTH 7) 9).dev.toutOk 7 1 = false ∧ (withReg (R.TOUT_WIDTH 7) 10).dev.toutOk 7 1 = true ∧
    (withRegs [(R.TOUT_WIDTH 7, 90), (R.TOUT_PERIOD 7, 100)]).dev.toutOk 7 2 = true ∧
    (∀ m ∈ [1, 2], let s := withRegs [(R.TOUT_CFG 7, m * 2 ^ 28), (R.TD_CTRL 0, 0x80000000)]
     let d := s.dev.setToutNext 7 1
     d.toutNext 7 ≠ 0 ∧ d.domOn (d.fld (R.TOUT_CFG 7) 26 24) = true ∧ d.toutGated 7 = false ∧ d.toutMode 7 = m ∧ d.time.run = true ∧
     d.toutNext 7 ≤ d.domNow (d.fld (R.TOUT_CFG 7) 26 24) + 1) := by decide

/-- Captures: an edge that is taken, a full queue, and reads of empty and filled queues. -/
theorem test_captures : (withReg (R.TCAP_CFG 7) 0x80010000).dev.bit (R.TCAP_CFG 7) 31 = true ∧ run.dev.time.run = true ∧
    ((withReg (R.TCAP_CFG 7) 0x80010000).dev.fld (R.TCAP_CFG 7) 17 16).testBit (if true then 0 else 1) = true ∧
    smGet (fun _ => 0) run.dev.time.lastCap 7 = 0 ∧ (∀ j < 8, smGet (fun _ => 0) run.dev.time.lastCap j ≤ run.dev.time.frc) ∧ run.dev.time.tcap.length < 64 ∧
    64 ≤ (after fun d => { d with time := { run := true, tcap := List.replicate 64 [1] } }).dev.time.tcap.length ∧
    run.dev.reach .hst (R.TCAP_E 0) = true ∧ run.dev.time.tcap = [] ∧ run.dev.reach .hst (R.TSF_E 0) = true ∧ run.dev.time.tsf = [] := by decide

/-- The keeper as master and as one that follows; frames for it, of a domain that no entry maps; no domain 0. -/
theorem test_keeper : (∀ m ∈ [1, 2], let s := after fun d => (d.wr (R.KEEP_CFG 7) (0x80000000 + m * 2 ^ 29)).setPwr { runDev.pwr with keeper := true }
      let d := { s.dev with time := { run := true, frc := 2 ^ 60 } }
      d.pwr.keeper = true ∧ d.keepRole 7 = m ∧ d.passed (d.keeper 7).since (4 * d.keepNs 7) = true ∧
      d.passed (d.keeper 7).since (d.keepNs 7) = true) ∧
    (after fun d => { d with time := { keepQ := [(3, List.replicate 60 0, 9)] } }).dev.time.keepQ = [(3, List.replicate 60 0, 9)] ∧
    run.dev.ptpDomain (beAt (List.replicate 60 0) (etherOff (List.replicate 60 0) + 2 + 4) 1) = none ∧ run.dev.pwr.phase = .active ∧
    run.dev.domOn 0 = false := by decide

/-- A running device in a phase and step of the power sequences. -/
def inPhase (p : Phase) (k : Nat) : State := after fun d => d.setPwr { runDev.pwr with phase := p, step := k }

/-- Requests: by a page's owner and by another, taken, refused, and while one pends. -/
theorem test_power_requests : run.dev.reach .hst R.PWR_CTRL = true ∧ run.dev.ready R.PWR_CTRL = true ∧
    (withReg 0xA024 1).dev.reach .hosta R.PWR_CTRL = true ∧ (withReg 0xA024 1).dev.ready R.PWR_CTRL = true ∧
    Req.hosta ≠ Req.hst ∧ (withReg 0xA024 2).dev.ownerOf R.PWR_CTRL ≠ Req.id .hosta ∧ (withReg 0xA024 2).dev.reach .hosta R.PWR_CTRL = true ∧
    run.dev.pwr.phase = .active ∧ run.dev.bit R.PWR_STAT 27 = false ∧ run.dev.stage = 0xA ∧ run.dev.hstHalted = false ∧
    run.dev.bit R.PWR_CFG 30 = false ∧ (withReg R.HST_STAT 0x20000000).dev.hstHalted = true ∧
    (withReg R.PWR_STAT 0x09000000).dev.bit R.PWR_STAT 27 = true := by decide

/-- The window's end: for each state before it, for a source at its limit and one below. -/
theorem test_fw_window : ∀ m ∈ [1, 2], let d := (withRegs [(R.PWR_STAT, 2), (R.PWR_WAKE_REASON, 0x81170000), (R.PWR_FW_RUN, 0x81170002), (R.PWR_FW_CFG, 0x03000000)]).dev.setPwr { runDev.pwr with from_ := m }
    d.bit R.PWR_STAT 1 = true ∧ d.pwr.phase = .active ∧ d.pwr.from_ = m ∧ d.bit R.PWR_STAT 27 = false ∧ d.stage = 0xA ∧ d.hstHalted = false ∧
    d.pins.vehMoving = false ∧ d.fld R.PWR_WAKE_REASON 28 24 = 1 ∧ d.fld R.PWR_WAKE_REASON 21 16 = 23 ∧ d.fld R.PWR_FW_CFG 27 24 = 3 ∧
    d.fld R.PWR_FW_RUN 3 0 = 2 ∧
    ({ d with time := { run := true, frc := 2 ^ 60 } } : Dev).passed d.pwr.fwAt (d.fld R.PWR_FW_CFG 15 0 * 1000000) = true := by decide

/-- The phases of the entries, each side of the point of no return. -/
theorem test_power_phases : (inPhase .sleepEntry 0).dev.draining = true ∧ (inPhase .sleepEntry 0).dev.drained = true ∧
    (inPhase .restEntry 0).dev.draining = true ∧
    (let d := { (inPhase .restEntry 0).dev with time := { run := true, frc := 2 ^ 60 } }
     d.draining = true ∧ d.passed d.pwr.edgeAt (max 1 (d.fld R.PWR_CFG 15 0) * 1000) = true) ∧
    (let d := ((inPhase .sleep 0).dev.wr R.PWR_MIN_SLEEP 1).setPwr { phase := .sleep, ticks := 33 }
     d.fld R.PWR_MIN_SLEEP 15 0 * 32768 ≤ d.ticksSince * 1000) ∧ (inPhase .restEntry 1).dev.pwr.phase = .restEntry ∧ (inPhase .restEntry 1).dev.pwr.step = 1 ∧
    (inPhase .sleepEntry 1).dev.pwr.phase = .sleepEntry ∧ (inPhase .ponr 2).dev.pwr.phase = .ponr ∧ (inPhase .ponr 2).dev.pwr.latched = false ∧
    (after fun d => d.setPwr { phase := .ponr, latched := true }).dev.pwr.latched = true ∧ (inPhase .sleep 0).dev.pwr.phase = .sleep ∧
    (inPhase .restExit 0).dev.pwr.phase = .restExit ∧ run.dev.pwr.hostRel = true ∧ (withReg R.HST_STAT 0x30000000).dev.fld R.HST_STAT 31 28 = 3 ∧
    Accepts run .hst R.TURN_CTRL ∧ run.dev.reach .hst R.TURN_HST_DONE = true ∧ run.dev.ready R.TURN_HST_DONE = true ∧
    run.dev.reach .hosta R.TURN_HST_DONE = true := by decide

/-- The steps of the wake, with images that load in each part. -/
theorem test_wake_steps : (inPhase .wake 0).dev.pwr.phase = .wake ∧ (inPhase .wake 0).dev.pwr.step = 0 ∧ (inPhase .wake 1).dev.pwr.step = 1 ∧
    ((inPhase .wake 1).loadSecs true [2, 3, 4, 8, 9, 0xB] (inPhase .wake 1).dev.boot.image).isSome = true ∧
    (inPhase .wake 1).dev.pins.porst = true ∧ (inPhase .wake 1).dev.bit R.DRAM_STAT 0 = false ∧ (inPhase .active 2).dev.pwr.step = 2 ∧
    ((inPhase .active 2).loadSecs true [5, 6, 7, 0xA, 0xC, 0xD] (inPhase .active 2).dev.boot.image).isSome = true ∧
    (inPhase .active 3).dev.pwr.step = 3 := by decide +kernel

/-- Wake pins, VEH_MOVING and the timer. -/
theorem test_wake_pins : run.dev.pins.porst = true ∧
    ((withReg (R.PWR_WIN_CFG 3) 0x10000).dev.fld (R.PWR_WIN_CFG 3) 17 16).testBit (if true then 0 else 1) = true ∧
    (let d := (withRegs [(R.PWR_WIN_CFG 3, 0x10000), (R.PWR_WAKE_EN, 0x3F), (R.PWR_TIMER, 1)]).dev.setPwr { runDev.pwr with phase := .rest }
     d.pwr.phase = .rest ∧ d.bit R.PWR_WAKE_EN 3 = true ∧ d.bit R.PWR_FW_BLOCK1 (16 + 3) = false ∧ d.pwr.recorded = false ∧
     d.pins.vehMoving = false ∧ d.bit R.PWR_WAKE_EN 4 = true ∧ d.bit R.PWR_WAKE_EN 5 = true ∧ d.rd R.PWR_TIMER ≠ 0 ∧
     d.rd R.PWR_TIMER ≤ (d.setPwr { phase := .sleep, minDone := true, ticks := 1 }).ticksSince ∧
     d.rd R.PWR_TIMER ≤ (d.setPwr { phase := .sleep, ticks := 1 }).ticksSince ∧
     (d.setPwr { phase := .sleep, minDone := true }).pwr.minDone = true ∧ (d.setPwr { phase := .sleep }).pwr.minDone = false) := by decide

/-- The supplies: the link up and down, a battery sample that completes its ten, tamper inputs in ACTIVE and in boot. -/
theorem test_supplies : run.dev.coreOn = true ∧ run.dev.pwr.dieLink = true ∧ (after fun d => d.setPwr { phase := .active }).dev.pwr.dieLink = false ∧
    (after fun d => d.setPwr { phase := .active }).dev.coreOn = true ∧ run.dev.pwr.phase ≠ .boot ∧ run.dev.pwr.phase ≠ .wake ∧ run.dev.pwr.vbatRun < 9 ∧
    (let d := (withReg R.PWR_VBAT_UV 6000).dev.setPwr { runDev.pwr with vbatRun := 9 }
     d.pwr.vbatRun = 9 ∧ d.bit R.PWR_STAT 9 = false ∧ min 5999 65535 < d.fld R.PWR_VBAT_UV 15 0) ∧ run.dev.bit R.PWR_STAT 8 = false ∧
    run.vault.tampRec.toNat.testBit 31 = false ∧ (inPhase .boot 0).dev.pwr.phase = .boot ∧ (inPhase .boot 0).dev.pins.porst = true := by decide

/-- A strapped member whose link to its partner is up, in a state of the pair. -/
def paired (st : Nat) : State :=
  withRegs [(R.BOOT_STRAP, 4), (R.ETH_MODE 3, 0xC000), (R.ETH_STAT 3, 0x00200000), (R.PAIR_STAT, st * 2 ^ 28), (R.PAIR_PARTNER, 0x20), (R.PAIR_CFG, 0x40000000)]

/-- A turn edge that is due with staged settings in order, and one that is not. -/
theorem test_edge : run.dev.edgeDue = false ∧
    (let d := (withRegs [(R.TURN_CTRL, 1), (R.TURN_CFG, 2)]).dev
     let d := { d with time := { run := true, frc := 250000 * 2 ^ 16 }, hst := { workGiven := true } }
     d.edgeDue = true ∧ d.bit R.TURN_CTRL 0 = true ∧ 2 ≤ d.fld R.TURN_CFG 6 0 ∧ d.fld R.TURN_CFG 6 0 ≤ 64 ∧
     d.fld R.TURN_PHASE 20 0 < d.fld R.TURN_CFG 6 0 * 31250 ∧ d.hst.workGiven = true ∧ d.turnWorks = true ∧ d.pwr.phase = .active ∧ d.bit R.TURN_STAT 2 = false) := by decide

/-- The pair's commands in each state. -/
theorem test_pair_commands : Accepts run .hst R.PAIR_CTRL ∧ (paired 1).dev.pairState = 1 ∧ (paired 1).dev.fld R.PAIR_PARTNER 6 4 = 2 ∧
    (paired 2).dev.pairState = 2 ∧ (paired 2).dev.hstHalted = false ∧ Accepts run .hst R.PAIR_RACC_CMD ∧ (paired 0).dev.pairState = 0 ∧
    run.dev.bit R.PAIR_RACC_CMD 31 = false ∧ (withReg R.PAIR_RACC_CMD 0x80000001).dev.bit R.PAIR_RACC_CMD 31 = true ∧
    (paired 0).dev.bit R.BOOT_STRAP 2 = true ∧ (paired 0).dev.pair.once = false ∧ (paired 0).dev.dpReleased = true ∧
    (let d := { (withReg R.PAIR_RACC_CMD 0x80000001).dev with time := { run := true, frc := 2 ^ 60 } }
     d.passed d.pair.raccAt 100000 = true ∧ d.bit R.PAIR_RACC_CMD 31 = true) ∧
    (let d := { (paired 0).dev with time := { run := true, frc := 2 ^ 60 } }
     d.passed d.pair.relAt (d.fld R.PAIR_CFG 15 0 * 1000000) = true ∧ d.eplUp = true ∧ d.loopMac 3 = false) := by decide

/-- Frames of the partner: HELLOs that pass and do not, BEATs, JOURNALs in order and out of order. -/
theorem test_pair_frames : (∀ st < 5, (paired st).dev.eplUp = true) ∧ (paired 0).dev.helloJudge {} [0, 0] ≠ 0 ∧
    (paired 0).dev.helloJudge {} [0, 0] ≠ (paired 0).dev.fld R.PAIR_STAT 19 16 ∧
    (let s := ((paired 0).dev.wr R.PAIR_STAT 0x400000).wr (R.DEV_FEAT 0) 0x300
     s.helloJudge {} [s.rd R.GLB_PART, s.rd R.BOOT_EPOCH % 65536 * 65536 + 1, s.rd (R.DEV_FEAT 0), 0, 0, 0] = 0) ∧
    (paired 2).dev.pair.yielded = false ∧ Nat.testBit 0x04000000 26 = true ∧
    (let d := (paired 2).dev.setPair { base := true, jrn := true }
     d.pair.frag = none ∧ d.pair.base = true ∧ d.pair.jrn = true ∧ 7 ≠ d.rd R.PAIR_JSEQ ∧ 1 = (d.rd R.PAIR_JSEQ + 1) % 2 ^ 32 ∧
     (State.applyRecs State.applyRec 1 [] { paired 2 with dev := d }).1 = false) ∧
    (paired 4).dev.pairState = 4 ∧ (paired 2).dev.fld R.PAIR_CFG 31 30 = 1 := by decide

end Sys2Proof.Tests
end

section
/-! The register window as the statements on accesses use it: which meaning each access command has, what an access of each size comes
to (R12), what a plain store does to a register bit by bit (R14 to R16), and what a plain read changes (R13, R16). -/

namespace Sys2Proof.Machine

theorem exec_registerWrite (r : Req) (off size v : Nat) (s : State) :
    exec (.registerWrite r off size v) s = .next (s.writeSized r off size v) := rfl

theorem exec_loRegisterRead (r : Req) (off size : Nat) (s : State) :
    exec (.loRegisterRead r off size) s = .next { s with dev := s.dev.readSized r off size } := rfl

theorem exec_rcRead (r : Req) (off : Nat) (s : State) (h : off % 4 = 0) :
    exec (.rcRead r off) s = .next { s with dev := s.dev.readReg r off } := by
  show Host.Outcome.next { s with dev := if off % 4 = 0 then _ else _ } = _
  rw [if_pos h]

theorem exec_satClear (r : Req) (off v : Nat) (s : State) (h : isSatReg off = true) :
    exec (.satClear r off v) s = .next (s.writeReg r off v) := if_pos h

/-! ### Access sizes (R12) -/

theorem accessOk_iff (off size : Nat) : accessOk off size = true ↔ (size = 4 ∧ off % 4 = 0) ∨ (size = 8 ∧ off % 8 = 0) := by
  simp [accessOk]

theorem accessOk_four {off : Nat} (h : off % 4 = 0) : accessOk off 4 = true := (accessOk_iff off 4).mpr (.inl ⟨rfl, h⟩)

theorem accessOk_eight {off : Nat} (h : off % 8 = 0) : accessOk off 8 = true := (accessOk_iff off 8).mpr (.inr ⟨rfl, h⟩)

theorem accessOk_eq_false {off size : Nat} (h4 : ¬(size = 4 ∧ off % 4 = 0)) (h8 : ¬(size = 8 ∧ off % 8 = 0)) :
    accessOk off size = false :=
  Bool.eq_false_iff.mpr fun h => ((accessOk_iff off size).mp h).elim h4 h8

theorem State.writeSized_four (r : Req) {off : Nat} (v : Nat) (s : State) (h : off % 4 = 0) :
    s.writeSized r off 4 v = s.writeReg r off v :=
  (if_neg (by simp [accessOk_four h])).trans (if_neg (by decide))

theorem State.writeSized_eight (r : Req) {off : Nat} (v : Nat) (s : State) (h : off % 8 = 0) :
    s.writeSized r off 8 v = (s.writeReg r off v).writeReg r (off + 4) (v / 2 ^ 32) :=
  (if_neg (by simp [accessOk_eight h])).trans (if_pos rfl)

theorem State.writeSized_other (r : Req) {off size : Nat} (v : Nat) (s : State) (h : accessOk off size = false) :
    s.writeSized r off size v = s :=
  if_pos h

theorem Dev.readSized_four (r : Req) {off : Nat} (s : Dev) (h : off % 4 = 0) : s.readSized r off 4 = s.readReg r off :=
  (if_neg (by simp [accessOk_four h])).trans (if_neg (by decide))

theorem Dev.readSized_eight (r : Req) {off : Nat} (s : Dev) (h : off % 8 = 0) :
    s.readSized r off 8 = ((s.readReg r off).readReg r (off + 4)).answer
      ((s.readReg r off).rdata.toNat % 2 ^ 32 + 2 ^ 32 * ((s.readReg r off).readReg r (off + 4)).rdata.toNat) :=
  (if_neg (by simp [accessOk_eight h])).trans (if_pos rfl)

theorem Dev.readSized_other (r : Req) {off size : Nat} (s : Dev) (h : accessOk off size = false) :
    s.readSized r off size = s.answer 0 :=
  if_pos h

/-! ### Registers -/

theorem Dev.reg_setReg (s : Dev) (o p : Nat) (w : Word) : (s.setReg o w).reg p = if p = o then w else s.reg p := by
  apply BitVec.eq_of_toNat_eq
  rw [apply_ite BitVec.toNat]
  exact Dev.rd_setReg s o p w

theorem Dev.rd_setReg_ne (s : Dev) {o p : Nat} (h : p ≠ o) (w : Word) : (s.setReg o w).rd p = s.rd p := by
  rw [Dev.rd_setReg, if_neg h]

@[simp] theorem Dev.rd_answer (s : Dev) (v o : Nat) : (s.answer v).rd o = s.rd o := rfl

/-- A loop whose every turn leaves the state leaves the state. -/
theorem forL_id {α σ : Type} (l : List α) (f : α → σ → σ) (s : σ) (h : ∀ a ∈ l, ∀ s, f a s = s) : forL l f s = s :=
  forL_keeps id l f s h

/-! ### Plain stores (R14 to R16) and saturation bits (R366) -/

/-- The word that a plain store leaves in a register with a row in its block's table. -/
theorem Dev.plainWrite_of_row {off i o : Nat} {row : BlkRow} {g : RegRow} (v : Nat) (s : Dev) (hb : blkOf off = some (row, i, o))
    (ha : row.blk.absent i o = false) (hg : row.blk.row? o = some g) :
    ∃ m : Word, m = BitVec.ofNat 32 (if g.lock = true ∧ s.bit (off - o + 0x28) 0 = true then 0 else g.rw &&& row.blk.hasBits o) ∧
      s.plainWrite off v = s.setReg off (((s.reg off &&& ~~~m) ||| (BitVec.ofNat 32 v &&& m)) &&&
        ~~~(BitVec.ofNat 32 v &&& BitVec.ofNat 32 g.w1c)) := by
  refine ⟨_, rfl, ?_⟩
  unfold Dev.plainWrite
  rw [hb]
  dsimp only
  rw [if_neg (by simp [ha]), hg]

/-- All that a plain store can do: nothing, or store a word in its register. -/
theorem Dev.plainWrite_cases (off v : Nat) (s : Dev) : s.plainWrite off v = s ∨ ∃ w, s.plainWrite off v = s.setReg off w := by
  unfold Dev.plainWrite
  cases blkOf off with
  | none => exact .inl rfl
  | some x =>
    obtain ⟨row, i, o⟩ := x
    dsimp only
    cases (if row.blk.absent i o = true then none else row.blk.row? o) with
    | none => exact .inl rfl
    | some g => exact .inr ⟨_, rfl⟩

theorem Dev.rd_plainWrite_ne (s : Dev) {off o : Nat} (h : o ≠ off) (v : Nat) : (s.plainWrite off v).rd o = s.rd o := by
  obtain hw | ⟨w, hw⟩ := Dev.plainWrite_cases off v s
  · rw [hw]
  · rw [hw, Dev.rd_setReg_ne s h]

@[simp] theorem Dev.plainWrite_tabs (off v : Nat) (s : Dev) : (s.plainWrite off v).tabs = s.tabs := by
  obtain hw | ⟨w, hw⟩ := Dev.plainWrite_cases off v s
  · rw [hw]
  · rw [hw, Dev.setReg_tabs]

/-- R15, R16: each bit of a register after a plain store: a W1C bit clears where 1 is written, a RW bit that the unit has, and that no
lock holds, takes the bit written, and any other bit stays. -/
theorem Dev.bit_plainWrite {off i o : Nat} {row : BlkRow} {g : RegRow} (v : Nat) (s : Dev) (hb : blkOf off = some (row, i, o))
    (ha : row.blk.absent i o = false) (hg : row.blk.row? o = some g) (b : Nat) (hlt : b < 32) :
    (s.plainWrite off v).bit off b =
      if g.w1c.testBit b = true ∧ v.testBit b = true then false
      else if (g.rw &&& row.blk.hasBits o).testBit b = true ∧ ¬(g.lock = true ∧ s.bit (off - o + 0x28) 0 = true) then v.testBit b
      else s.bit off b := by
  obtain ⟨m, rfl, hw⟩ := Dev.plainWrite_of_row v s hb ha hg
  have hs : s.bit off b = (s.reg off).getLsbD b := rfl
  have ht : (s.plainWrite off v).bit off b = ((s.plainWrite off v).reg off).getLsbD b := rfl
  rw [ht, hw, Dev.reg_setReg, if_pos rfl, hs]
  simp only [BitVec.getLsbD_and, BitVec.getLsbD_or, BitVec.getLsbD_not, BitVec.getLsbD_ofNat, hlt, decide_true, Bool.true_and]
  by_cases hl : g.lock = true ∧ s.bit (off - o + 0x28) 0 = true
  · simp only [hl, and_self, if_true, Nat.zero_testBit]
    cases v.testBit b <;> cases g.w1c.testBit b <;> simp
  · simp only [hl, if_false]
    cases v.testBit b <;> cases g.w1c.testBit b <;> cases (g.rw &&& row.blk.hasBits o).testBit b <;> simp

/-- A plain store of zero leaves a register without RW bits. -/
theorem Dev.rd_plainWrite_zero {off i o : Nat} {row : BlkRow} {g : RegRow} (s : Dev) (hb : blkOf off = some (row, i, o))
    (ha : row.blk.absent i o = false) (hg : row.blk.row? o = some g) (hrw : g.rw = 0) (p : Nat) : (s.plainWrite off 0).rd p = s.rd p := by
  obtain ⟨m, hm, hw⟩ := Dev.plainWrite_of_row 0 s hb ha hg
  have hm0 : m = 0 := by rw [hm, hrw]; simp
  rw [hw, Dev.rd_setReg]
  split
  · next h =>
    subst h
    simp only [hm0, Dev.rd, BitVec.not_zero, BitVec.and_allOnes, BitVec.and_zero, BitVec.or_zero, BitVec.ofNat_eq_ofNat, BitVec.zero_and]
  · rfl

/-- R366: a write without a 1 clears no counter. -/
theorem Dev.satClear_zero (off : Nat) (s : Dev) : s.satClear off 0 = s := by
  unfold Dev.satClear
  cases blkOf off with
  | none => rfl
  | some x => exact forL_id _ _ _ fun x _ s => forL_id _ _ _ fun k _ s => by simp

/-! ### A write of a block register -/

/-- What a write comes to at an offset that is no header, window, atomic-unit or bank-owner register. -/
theorem State.writeReg_blk (r : Req) {off i o : Nat} {row : BlkRow} (v : Nat) (s : State) (hh : hdrOf off = none) (hw : winAt off = none)
    (ha : atomAt off = none) (hb : blkOf off = some (row, i, o)) (ho : off < R.BENCH_OWN 0 ∨ R.BENCH_OWN 63 < off) :
    s.writeReg r off v = { s with dev := s.dev.blkReg row.blk i r off (v % 2 ^ 32) } := by
  unfold State.writeReg
  rw [hh]
  dsimp only
  rw [hw, ha, hb]
  dsimp only
  rw [if_neg (by omega)]

/-- An accepted write of a register outside the configuration set has its effect alone: the journal takes no record. -/
theorem guarded_of_accepts_notCfg {s : State} {r : Req} {off : Nat} (h : Accepts s r off) (hc : isCfgReg off = false) (f : Dev → Dev) :
    s.dev.guarded r off f = f s.dev := by
  have hj : ∀ s : Dev, s.jrnReg off = s := fun _ => if_neg (by simp [hc])
  rw [guarded_of_accepts h, hj]

/-! ### Plain reads (R13, R16) -/

/-- What a holding register returns after one was filled, as a word. -/
theorem Dev.heldAs_holdAs (r r' : Req) (o p v : Nat) (s : Dev) : (s.holdAs r' p v).heldAs r o =
    if r.id * 2 ^ 24 + o = r'.id * 2 ^ 24 + p then v % 2 ^ 32 else s.heldAs r o := by
  unfold Dev.heldAs Dev.holdAs
  dsimp only
  by_cases h : r.id * 2 ^ 24 + o = r'.id * 2 ^ 24 + p
  · rw [if_pos h, h, smGet_set_same, BitVec.toNat_ofNat]
  · rw [if_neg h, smGet_set_ne _ _ h]

theorem Dev.heldAs_holdAs_same (r : Req) (o v : Nat) (s : Dev) : (s.holdAs r o v).heldAs r o = v % 2 ^ 32 := by
  rw [Dev.heldAs_holdAs, if_pos rfl]

theorem Req.id_injective : Function.Injective Req.id :=
  Function.LeftInverse.injective (g := fun n => [Req.hst, .hosta, .hostb, .pair, .debug, .cpe, .dma].getD n .hst) fun r => by
    cases r <;> rfl

/-- R13: each requester has holding registers of its own. -/
theorem Dev.heldAs_holdAs_other {r r' : Req} {o p : Nat} (v : Nat) (s : Dev) (hr : r' ≠ r) (ho : o < 2 ^ 24) (hp : p < 2 ^ 24) :
    (s.holdAs r' p v).heldAs r o = s.heldAs r o := by
  have hid : r.id ≠ r'.id := fun h => hr (Req.id_injective h).symm
  rw [Dev.heldAs_holdAs, if_neg (by omega)]

/-- An offset that names a unit lies below the end of the page map (R58). -/
theorem lt_of_blkOf {off : Nat} {x : BlkRow × Nat × Nat} (h : blkOf off = some x) : off < 0x12A000 := by
  obtain ⟨row, hrow, -⟩ := Option.map_eq_some_iff.mp h
  have hoff : row.base ≤ off ∧ off < row.base + row.inst * row.pages * 0x1000 := by simpa using List.find?_some hrow
  have hend : ∀ r ∈ blkRows, r.base + r.inst * r.pages * 0x1000 ≤ 0x12A000 := by decide
  have := hend row (List.mem_of_find?_eq_some hrow)
  omega

theorem lt_of_isLo {off : Nat} (h : isLo off = true) : off < 0x12A000 := by
  cases hb : blkOf off with
  | some x => exact lt_of_blkOf hb
  | none =>
    unfold isLo hdrOf at h
    rw [hb] at h
    exact absurd h Bool.false_ne_true

theorem isHi_add_four {off : Nat} (h : isLo off = true) : isHi (off + 4) = true := by
  have hlo : decide (4 ≤ off + 4 ∧ isLo (off + 4 - 4) = true) = true := decide_eq_true ⟨Nat.le_add_left 4 off, h⟩
  unfold isHi
  rw [hlo, Bool.true_or, Bool.true_or, Bool.true_or]

/-- What makes a register plain to read: aligned, and no claim, time, capture or time group register. -/
theorem plainRead_iff (off : Nat) : plainRead off = true ↔ off % 4 = 0 ∧ off ≠ R.TIME_FRC 0 ∧ off ≠ R.TCAP_E 0 ∧ off ≠ R.TSF_E 0 ∧
    ¬(R.INTC_CLAIM 0 ≤ off ∧ off ≤ R.INTC_CLAIM 3) ∧ domGroup off = none ∧
    ¬(C.ETH_LPI_TIME 0 ≤ off ∧ off ≤ C.ETH_LPI_TIME 31) := by
  simp only [plainRead, Bool.and_eq_true, Bool.not_eq_true', decide_eq_false_iff_not, bne_iff_ne, ne_eq, beq_iff_eq,
    Option.isNone_iff_eq_none, and_assoc]

/-- A requester that does not reach a register reads zero. -/
theorem Dev.readReg_unreached {r : Req} {off : Nat} {s : Dev} (h : s.reach r off = false) : s.readReg r off = s.answer 0 :=
  if_pos (by simp [h])

/-- A plain read of a register that its requester reaches: a holding register answers, or the register does, and a low half
fills the holding register of its high half. -/
theorem Dev.readReg_plain {r : Req} {off : Nat} (s : Dev) (hr : s.reach r off = true) (hp : plainRead off = true) :
    s.readReg r off = if isHi off = true then s.answer (s.heldAs r off)
      else ((if isLo off = true then s.holdAs r (off + 4) (s.peek (off + 4)) else s).readClear off).answer (s.peek off) := by
  obtain ⟨-, hfrc, htcap, htsf, hclaim, hdom, hlpi⟩ := (plainRead_iff off).mp hp
  have hlpi' : ¬(C.ETH_LPI_TIME 0 ≤ off ∧ off ≤ C.ETH_LPI_TIME 31 ∧ (off - C.ETH_LPI_TIME 0) % 0x1000 = 0) :=
    fun h => hlpi ⟨h.1, h.2.1⟩
  unfold Dev.readReg
  rw [if_neg (by simp [hr]), if_neg hfrc, if_neg htcap, if_neg htsf, if_neg hclaim, hdom]
  dsimp only
  rw [if_neg hlpi']

/-- What a read of a register may leave: that register changed, or the marks of use that the Chuck holds. -/
def Dev.ClearedBy (off : Nat) (s t : Dev) : Prop := (∃ w, t = s.setReg off w) ∨ ∃ c, t = s.setCk c

theorem Dev.ClearedBy.reg {off : Nat} {s : Dev} (w : Word) : s.ClearedBy off (s.setReg off w) := .inl ⟨w, rfl⟩

theorem Dev.ClearedBy.ck {off : Nat} {s : Dev} (c : ChuckSt) : s.ClearedBy off (s.setCk c) := .inr ⟨c, rfl⟩

theorem Dev.ClearedBy.ite {off : Nat} {s a b : Dev} (p : Prop) [Decidable p] (ha : s.ClearedBy off a) (hb : s.ClearedBy off b) :
    s.ClearedBy off (if p then a else b) := by
  by_cases h : p
  · rwa [if_pos h]
  · rwa [if_neg h]

/-- All that a read can clear, along the branches of `Dev.readClear`. -/
theorem Dev.readClear_cases (off : Nat) (s : Dev) : s.ClearedBy off (s.readClear off) :=
  .ite _ (.reg _) (.ite _ (.ck _) (.ite _ (.ck _) (.ite _ (.reg _) (.ite _ (.reg _) (.ck s.ck)))))

theorem Dev.readClear_eq (off : Nat) (s : Dev) :
    s.readClear off = { s with regs := (s.readClear off).regs, ck := (s.readClear off).ck } := by
  obtain ⟨w, hw⟩ | ⟨c, hw⟩ := Dev.readClear_cases off s <;> rw [hw] <;> rfl

theorem Dev.rd_readClear_ne (s : Dev) {off o : Nat} (h : o ≠ off) : (s.readClear off).rd o = s.rd o := by
  obtain ⟨w, hw⟩ | ⟨c, hw⟩ := Dev.readClear_cases off s
  · rw [hw, Dev.rd_setReg_ne s h]
  · rw [hw]
    rfl

theorem regs_ite_congr (p : Prop) [Decidable p] {a b a' b' : Dev} (ha : a.regs = a'.regs) (hb : b.regs = b'.regs) :
    (if p then a else b).regs = (if p then a' else b').regs := by
  rw [apply_ite Dev.regs, apply_ite Dev.regs, ha, hb]

/-- What a read clears does not depend on the holding registers. -/
theorem Dev.readClear_holdAs_regs (r : Req) (off o v : Nat) (s : Dev) : ((s.holdAs r o v).readClear off).regs = (s.readClear off).regs := by
  have hport : (s.holdAs r o v).portState = s.portState := rfl
  unfold Dev.readClear
  rw [hport]
  exact regs_ite_congr _ rfl (regs_ite_congr _ rfl (regs_ite_congr _ rfl (regs_ite_congr _ rfl (regs_ite_congr _ rfl rfl))))

/-- The registers that decide which requesters reach the window (R113, R114, R501, R610). -/
def reachRegs : List Nat := [R.HST_STAT, R.BOOT_STAT, R.LCS_STATE]

theorem Dev.readClear_reachReg {o : Nat} (s : Dev) (ho : o ∈ reachRegs) : s.readClear o = s := by
  simp only [reachRegs, List.mem_cons, List.not_mem_nil, or_false] at ho
  obtain rfl | rfl | rfl := ho <;> rfl

/-- A read clears no register that decides who reaches the window. -/
theorem Dev.rd_readClear_reachReg {o : Nat} (off : Nat) (s : Dev) (ho : o ∈ reachRegs) : (s.readClear off).rd o = s.rd o := by
  by_cases h : o = off
  · rw [← h, Dev.readClear_reachReg s ho]
  · exact Dev.rd_readClear_ne s h

end Sys2Proof.Machine

open Sys2Proof.Machine

/-- Settles O9: `accessOk` admits an access exactly when it is aligned and of 4 or of 8 bytes. -/
theorem accessSizesOfTheWindow : Obligations.AccessSizesOfTheWindow := by
  unfold Obligations.AccessSizesOfTheWindow
  intro r off size v s
  refine ⟨?_, ?_, fun h4 h8 => ?_⟩
  · rintro rfl hoff
    rw [exec_registerWrite, exec_loRegisterRead, State.writeSized_four r v s hoff, Dev.readSized_four r s.dev hoff]
    exact ⟨rfl, rfl⟩
  · rintro rfl hoff
    rw [exec_registerWrite, State.writeSized_eight r v s hoff]
    exact ⟨rfl, _, exec_loRegisterRead r off 8 s, Dev.readSized_eight r s.dev hoff⟩
  · have hno := accessOk_eq_false h4 h8
    rw [exec_registerWrite, exec_loRegisterRead, State.writeSized_other r v s hno, Dev.readSized_other r s.dev hno]
    exact ⟨rfl, rfl⟩

end

section
/-! Reads: what reaches a register does not change with plain reads (R113, R114, R501, R610), the holding registers (R13), the RC
registers (R16) and the SAT bits of the six counters of R366. -/

namespace Sys2Proof.Machine

/-- Who reaches the window follows from the pins, the power state and three registers. -/
theorem Dev.reach_congr {s t : Dev} (hpins : t.pins = s.pins) (hpwr : t.pwr = s.pwr) (hregs : ∀ o ∈ reachRegs, t.rd o = s.rd o) :
    t.reach = s.reach := by
  have hhst : t.fld R.HST_STAT 31 28 = s.fld R.HST_STAT 31 28 := Dev.fld_of_rd (hregs _ (by decide)) _ _
  have hstage : t.stage = s.stage := Dev.fld_of_rd (hregs _ (by decide)) _ _
  have hlc : t.lc = s.lc := Dev.fld_of_rd (hregs _ (by decide)) _ _
  funext r off
  unfold Dev.reach Dev.fabricOn Dev.failed
  rw [hpins, hpwr, hhst, hstage, hlc]

theorem plainRead_aligned {off : Nat} (h : plainRead off = true) : off % 4 = 0 :=
  ((plainRead_iff off).mp h).1

/-- A requester that reaches an offset reaches the next word, but for the ends of the pages that answer in failure release (R114). -/
theorem Dev.reach_add_four {s : Dev} {r : Req} {off : Nat} (h : s.reach r off = true) (hglb : 0x1000 ≤ off ∨ off + 4 < 0x1000)
    (hboot : off + 4 < 0xA000 ∨ 0xA000 ≤ off) : s.reach r (off + 4) = true := by
  have hpages : decide (off < 0x1000 ∨ (0x8000 ≤ off ∧ off < 0xA000)) = true →
      decide (off + 4 < 0x1000 ∨ (0x8000 ≤ off + 4 ∧ off + 4 < 0xA000)) = true := by
    simp only [decide_eq_true_eq]
    omega
  have hhost : (if s.failed then decide (off < 0x1000 ∨ (0x8000 ≤ off ∧ off < 0xA000)) else s.pwr.hostRel) = true →
      (if s.failed then decide (off + 4 < 0x1000 ∨ (0x8000 ≤ off + 4 ∧ off + 4 < 0xA000)) else s.pwr.hostRel) = true := by
    split
    · exact hpages
    · exact id
  obtain ⟨hon, hreq⟩ := Bool.and_eq_true_iff.mp h
  refine Bool.and_eq_true_iff.mpr ⟨hon, ?_⟩
  cases r with
  | hosta => exact hhost hreq
  | hostb => exact hhost hreq
  | hst => exact hreq
  | pair => exact hreq
  | debug => exact hreq
  | cpe => exact hreq
  | dma => exact hreq

/-- A plain read changes nothing that decides who reaches the window. -/
theorem Dev.reach_readReg_plain (r : Req) {off : Nat} (s : Dev) (hp : plainRead off = true) : (s.readReg r off).reach = s.reach := by
  cases hr : s.reach r off with
  | false =>
    rw [Dev.readReg_unreached hr]
    rfl
  | true =>
    rw [Dev.readReg_plain s hr hp]
    split
    · rfl
    · have hheld : (if isLo off = true then s.holdAs r (off + 4) (s.peek (off + 4)) else s).reach = s.reach := by split <;> rfl
      rw [← hheld]
      generalize (if isLo off = true then s.holdAs r (off + 4) (s.peek (off + 4)) else s) = s'
      exact Dev.reach_congr (s := s') (by rw [Dev.readClear_eq]; rfl) (by rw [Dev.readClear_eq]; rfl)
        fun o ho => Dev.rd_readClear_reachReg off s' ho

/-- A plain read leaves the holding registers of the other requesters. -/
theorem Dev.heldAs_readReg_other {r r' : Req} {off o : Nat} (s : Dev) (hr : r' ≠ r) (hp : plainRead off = true) (ho : o < 2 ^ 24) :
    (s.readReg r' off).heldAs r o = s.heldAs r o := by
  cases hreach : s.reach r' off with
  | false =>
    rw [Dev.readReg_unreached hreach]
    rfl
  | true =>
    rw [Dev.readReg_plain s hreach hp]
    split
    · rfl
    · rw [Dev.readClear_eq]
      show Dev.heldAs (if isLo off = true then _ else s) r o = _
      split
      · next hlo =>
        have := lt_of_isLo hlo
        exact Dev.heldAs_holdAs_other _ s hr ho (by omega)
      · rfl

/-- A read of a low half answers it, clears what such a read clears, and holds the high half for its requester (R13). -/
theorem Dev.readReg_lo {r : Req} {off : Nat} (s : Dev) (hr : s.reach r off = true) (hp : plainRead off = true) (hlo : isLo off = true)
    (hhi : isHi off = false) :
    s.readReg r off = ((s.holdAs r (off + 4) (s.peek (off + 4))).readClear off).answer (s.peek off) := by
  rw [Dev.readReg_plain s hr hp]
  simp [hlo, hhi]

/-- A read of a high half answers what was held for its requester (R13). -/
theorem Dev.readReg_hi {r : Req} {off : Nat} (s : Dev) (hr : s.reach r off = true) (hp : plainRead off = true) (hhi : isHi off = true) :
    s.readReg r off = s.answer (s.heldAs r off) := by
  rw [Dev.readReg_plain s hr hp, if_pos hhi]

/-- R13: the high half that a read of the low half held is what its requester reads next, whatever another requester reads between. -/
theorem Dev.readReg_hi_after_lo {r r' : Req} {off off' : Nat} (s : Dev) (hr : s.reach r off = true) (hlo : isLo off = true)
    (hhi : isHi off = false) (hp : plainRead off = true) (hp4 : plainRead (off + 4) = true) (hp' : plainRead off' = true) (hne : r' ≠ r)
    (hr4 : s.reach r (off + 4) = true) :
    ((s.readReg r off).readReg r' off').readReg r (off + 4) =
      ((s.readReg r off).readReg r' off').answer (s.peek (off + 4) % 2 ^ 32) := by
  have hreach : ((s.readReg r off).readReg r' off').reach r (off + 4) = true := by
    rw [Dev.reach_readReg_plain r' _ hp', Dev.reach_readReg_plain r s hp, hr4]
  have hlt := lt_of_isLo hlo
  have hheld : (s.readReg r off).heldAs r (off + 4) = s.peek (off + 4) % 2 ^ 32 := by
    rw [Dev.readReg_lo s hr hp hlo hhi, Dev.readClear_eq]
    exact Dev.heldAs_holdAs_same r (off + 4) _ s
  rw [Dev.readReg_hi _ hreach hp4 (isHi_add_four hlo), Dev.heldAs_readReg_other _ hne hp' (by omega), hheld]

/-! ### RC registers (R16) -/

/-- The value of a register that no header, snapshot or computed value stands for is its word. -/
theorem Dev.peek_stored {off i o : Nat} {row : BlkRow} (s : Dev) (hh : hdrOf off = none) (hs : snapLive off = none)
    (hb : blkOf off = some (row, i, o)) (ha : row.blk.absent i o = false) (hp : s.peekBlk row.blk i off o = none) :
    s.peek off = s.rd off := by
  unfold Dev.peek
  rw [hh]
  dsimp only
  rw [hs]
  dsimp only
  rw [hb]
  dsimp only
  rw [ha, hp, if_neg Bool.false_ne_true]
  rfl

theorem mem_rcRegs (off : Nat) : off ∈ rcRegs ↔ off = R.TURN_LOAD_MAX ∨ off = R.FWD_SHD_STAT ∨ off = R.BUF_BURR_INFO ∨
    off = R.BUF_UNCORR_INFO ∨ off = R.CPE_CAN_FAIL ∨ off = R.HST_MISMATCH ∨ off = R.BENCH_ERR_INFO ∨ off = R.DRAM_CORR_INFO ∨
    off = R.DRAM_UNCORR_INFO := by
  simp only [rcRegs, List.mem_cons, List.not_mem_nil, or_false]

theorem Dev.peek_rcReg {off : Nat} (s : Dev) (h : off ∈ rcRegs) : s.peek off = s.rd off := by
  obtain rfl | rfl | rfl | rfl | rfl | rfl | rfl | rfl | rfl := (mem_rcRegs off).mp h <;>
    exact Dev.peek_stored s (by decide) (by decide) rfl (by decide) rfl

theorem Dev.readClear_rcReg {off : Nat} (s : Dev) (h : off ∈ rcRegs) : s.readClear off = s.wr off 0 :=
  if_pos ((mem_rcRegs off).mp h)

/-- The RC registers are plain and no halves of a pair. -/
theorem rcRegs_plain : ∀ off ∈ rcRegs, off % 4 = 0 ∧ plainRead off = true ∧ isHi off = false ∧ isLo off = false := by decide

/-- R16: a read of an RC register answers its value and clears it. -/
theorem Dev.readReg_rcReg {r : Req} {off : Nat} (s : Dev) (h : off ∈ rcRegs) (hr : s.reach r off = true) :
    s.readReg r off = (s.wr off 0).answer (s.rd off) := by
  obtain ⟨-, hp, hhi, hlo⟩ := rcRegs_plain off h
  rw [Dev.readReg_plain s hr hp, Dev.peek_rcReg s h]
  simp [hhi, hlo, Dev.readClear_rcReg s h]

/-! ### SAT bits (R366) -/

/-- The counters whose SAT bits the statement on R366 speaks of. -/
def satCounters : List Cnt :=
  [C.GLB_OWN_VIOL, C.TURN_STEP_CNT, C.HST_LOCKSTEP_CNT, C.HST_RESTART_CNT, C.BENCH_OWN_REFUSED, C.KEY_ENT_FAIL]

theorem mem_satCounters {c : Cnt} (h : c ∈ satCounters) : c = C.GLB_OWN_VIOL ∨ c = C.TURN_STEP_CNT ∨ c = C.HST_LOCKSTEP_CNT ∨
    c = C.HST_RESTART_CNT ∨ c = C.BENCH_OWN_REFUSED ∨ c = C.KEY_ENT_FAIL := by
  simpa only [satCounters, List.mem_cons, List.not_mem_nil, or_false] using h

/-- Their SAT registers are block registers outside the configuration set. -/
theorem satCounters_place : ∀ c ∈ satCounters, hdrOf c.sat = none ∧ winAt c.sat = none ∧ atomAt c.sat = none ∧
    (c.sat < R.BENCH_OWN 0 ∨ R.BENCH_OWN 63 < c.sat) ∧ isSatReg c.sat = true ∧ isCfgReg c.sat = false := by decide

theorem satCounters_bit : ∀ c ∈ satCounters, c.bit < 32 ∧ c.at_ ≠ c.sat := by decide

/-- Their SAT registers hold no RW bits. -/
theorem satCounters_row {c : Cnt} (hc : c ∈ satCounters) : ∃ row i o g, blkOf c.sat = some (row, i, o) ∧ row.blk.absent i o = false ∧
    row.blk.row? o = some g ∧ g.rw = 0 := by
  have htab : ∀ c ∈ satCounters, ((blkOf c.sat).bind fun x => (x.1.blk.row? x.2.2).map fun g =>
      (x.1.blk.absent x.2.1 x.2.2, g.rw)) = some (false, 0) := by decide
  obtain ⟨⟨row, i, o⟩, hb, hx⟩ := Option.bind_eq_some_iff.mp (htab c hc)
  obtain ⟨g, hg, heq⟩ := Option.map_eq_some_iff.mp hx
  obtain ⟨ha, hrw⟩ := Prod.mk.inj heq
  exact ⟨row, i, o, g, hb, ha, hg, hrw⟩

/-- A write of their SAT registers has no rule but that of SAT bits and of the access types. -/
theorem State.writeReg_satCounter (r : Req) {c : Cnt} (v : Nat) (s : State) (hc : c ∈ satCounters) :
    s.writeReg r c.sat v = { s with dev := s.dev.guarded r c.sat (Dev.basicWrite c.sat (v % 2 ^ 32)) } := by
  obtain ⟨hh, hw, ha, ho, -⟩ := satCounters_place c hc
  obtain rfl | rfl | rfl | rfl | rfl | rfl := mem_satCounters hc <;> exact State.writeReg_blk r v s hh hw ha rfl ho

/-- R366: a 1 written to the SAT bit of one of the counters clears it and zeroes that counter alone. -/
theorem Dev.satClear_counter {c : Cnt} (s : Dev) (hc : c ∈ satCounters) :
    s.satClear c.sat (2 ^ c.bit) = (s.setBit c.sat c.bit false).wr c.at_ 0 := by
  obtain rfl | rfl | rfl | rfl | rfl | rfl := mem_satCounters hc <;> rfl

/-- An accepted SAT_CLEAR of one of the counters, as the rules of its register give it. -/
theorem exec_satClear_counter {r : Req} {c : Cnt} (v : Nat) {s : State} (hc : c ∈ satCounters) (ha : Accepts s r c.sat) :
    exec (.satClear r c.sat v) s = .next { s with dev := (s.dev.satClear c.sat (v % 2 ^ 32)).plainWrite c.sat (v % 2 ^ 32) } := by
  obtain ⟨-, -, -, -, hsat, hcfg⟩ := satCounters_place c hc
  have hbasic : Dev.basicWrite c.sat (v % 2 ^ 32) s.dev = (s.dev.satClear c.sat (v % 2 ^ 32)).plainWrite c.sat (v % 2 ^ 32) :=
    congrArg (Dev.plainWrite c.sat _) (if_pos hsat)
  rw [exec_satClear r c.sat v s hsat, State.writeReg_satCounter r v s hc, guarded_of_accepts_notCfg ha hcfg, hbasic]

/-! ### The commands -/

/-- Writing 1 to the SAT bit of a counter clears the bit and zeroes the counter. -/
theorem satClear_one {r : Req} {c : Cnt} {s : State} (hc : c ∈ satCounters) (ha : Accepts s r c.sat) :
    Completes (.satClear r c.sat (2 ^ c.bit)) s fun t =>
      t.dev.rd c.at_ = 0 ∧ t.dev.bit c.sat c.bit = false ∧ SameBut ([c.at_, c.sat] ++ C.PAIR_JRNL_OVF.touches) s t := by
  obtain ⟨hbit, hne⟩ := satCounters_bit c hc
  obtain ⟨row, i, o, g, hb, hp, hg, hrw⟩ := satCounters_row hc
  have hlt : 2 ^ c.bit % 2 ^ 32 = 2 ^ c.bit := Nat.mod_eq_of_lt (Nat.pow_lt_pow_right (by omega) hbit)
  have hcleared : (((s.dev.setBit c.sat c.bit false).wr c.at_ 0)).bit c.sat c.bit = false := by
    rw [Dev.bit_wr_ne _ hne.symm, Dev.bit_setBit_same _ _ _ _ hbit]
  refine ⟨_, exec_satClear_counter _ hc ha, ?_⟩
  rw [hlt, Dev.satClear_counter s.dev hc]
  refine ⟨?_, ?_, fun p hp => ?_, by simp, rfl, rfl, rfl⟩
  · rw [Dev.rd_plainWrite_ne _ hne, Dev.rd_wr_same, Nat.zero_mod]
  · rw [Dev.bit_plainWrite _ _ hb hp hg _ hbit, hcleared]
    simp [hrw]
  · simp only [List.mem_append, List.mem_cons, List.not_mem_nil, or_false, not_or] at hp
    obtain ⟨⟨hat, hsat⟩, -⟩ := hp
    rw [Dev.rd_plainWrite_ne _ hsat, Dev.rd_wr_ne _ hat, Dev.rd_setBit_ne _ hsat]

/-- Writing 0 to the SAT bits changes nothing. -/
theorem satClear_none {r : Req} {c : Cnt} {s : State} (hc : c ∈ satCounters) (ha : Accepts s r c.sat) :
    Completes (.satClear r c.sat 0) s fun t => SameBut C.PAIR_JRNL_OVF.touches s t := by
  obtain ⟨row, i, o, g, hb, hp, hg, hrw⟩ := satCounters_row hc
  refine ⟨_, exec_satClear_counter 0 hc ha, fun p _ => ?_, ?_, rfl, rfl, rfl⟩
  · rw [Nat.zero_mod, Dev.satClear_zero]
    exact Dev.rd_plainWrite_zero s.dev hb hp hg hrw p
  · rw [Nat.zero_mod, Dev.satClear_zero, Dev.plainWrite_tabs]

/-- A read of a low half and, after any other requester's read, one of its high half. -/
theorem pairRead {r r' : Req} {off off' : Nat} {s : State} (hr : s.dev.reach r off = true) (hlo : isLo off = true)
    (hhi : isHi off = false) (hp : plainRead off = true) (hp4 : plainRead (off + 4) = true) (hp' : plainRead off' = true) (hne : r' ≠ r)
    (hglb : 0x1000 ≤ off ∨ off + 4 < 0x1000) (hboot : off + 4 < 0xA000 ∨ 0xA000 ≤ off) :
    ∃ t, exec (.loRegisterRead r off 4) s = .next t ∧ t.dev.rdata = BitVec.ofNat 64 (s.dev.peek off) ∧
      t.dev.regs = (s.dev.readClear off).regs ∧
      ∃ u, exec (.loRegisterRead r' off' 4) t = .next u ∧
        ∃ w, exec (.loRegisterRead r (off + 4) 4) u = .next w ∧ w.dev.rdata = BitVec.ofNat 64 (s.dev.peek (off + 4) % 2 ^ 32) ∧
          w.dev.regs = u.dev.regs := by
  have hread : ∀ (q : Req) (o : Nat) (s : State), plainRead o = true →
      exec (.loRegisterRead q o 4) s = .next { s with dev := s.dev.readReg q o } := fun q o s ho => by
    rw [exec_loRegisterRead, Dev.readSized_four q s.dev (plainRead_aligned ho)]
  have hw := Dev.readReg_hi_after_lo s.dev hr hlo hhi hp hp4 hp' hne (Dev.reach_add_four hr hglb hboot)
  refine ⟨_, hread r off s hp, ?_, ?_, _, hread r' off' _ hp', _, hread r (off + 4) _ hp4, ?_, ?_⟩
  · rw [Dev.readReg_lo s.dev hr hp hlo hhi]
    rfl
  · rw [Dev.readReg_lo s.dev hr hp hlo hhi]
    exact Dev.readClear_holdAs_regs r off (off + 4) _ s.dev
  · rw [hw]
    rfl
  · rw [hw]
    rfl

/-- RC_READ of an RC register answers its value and clears it alone. -/
theorem rcRead_rcReg {r : Req} {off : Nat} {s : State} (h : off ∈ rcRegs) (hr : s.dev.reach r off = true) :
    Completes (.rcRead r off) s fun t => t.dev.rdata = BitVec.ofNat 64 (s.dev.rd off) ∧ t.dev.rd off = 0 ∧ SameBut [off] s t := by
  obtain ⟨hoff, -⟩ := rcRegs_plain off h
  refine ⟨_, exec_rcRead r off s hoff, ?_⟩
  rw [Dev.readReg_rcReg s.dev h hr]
  exact ⟨rfl, (Dev.rd_answer _ _ off).trans (Dev.rd_wr_same s.dev off 0),
    fun p hp => (Dev.rd_answer _ _ p).trans (Dev.rd_wr_ne s.dev (by simpa using hp) 0), rfl, rfl, rfl, rfl⟩

end Sys2Proof.Machine

open Sys2Proof.Machine

/-- Settles O14: the pairs by `pairRead`, the RC registers by `rcRead_rcReg`, the SAT bits by `satClear_one` and `satClear_none`. -/
theorem readsThatHoldOrClear : Obligations.ReadsThatHoldOrClear := by
  unfold Obligations.ReadsThatHoldOrClear
  refine ⟨?_, fun r off s h hr => rcRead_rcReg h hr, fun r c s hc ha => ⟨satClear_one hc ha, satClear_none hc ha⟩⟩
  intro r r' off off' s hr hlo hhi hp hp4 hp' hne hglb hboot
  exact pairRead hr hlo hhi hp hp4 hp' hne hglb hboot

end

section
/-! A plain write of the window. The statement on plain registers leaves out R15: EXT_EN of TRU_PCFG stands on P0 to P3 only (R407), so
on P4 it is a reserved bit that keeps its value. -/

namespace Sys2Proof.Machine

/-- An accepted write of a register of a block without rules of its own is a plain store, and the journal may record it. -/
theorem State.writeReg_plainBlk {r : Req} {off i o : Nat} {row : BlkRow} (v : Nat) {s : State} (hacc : Accepts s r off)
    (hh : hdrOf off = none) (hw : winAt off = none) (ha : atomAt off = none) (hb : blkOf off = some (row, i, o))
    (ho : off < R.BENCH_OWN 0 ∨ R.BENCH_OWN 63 < off) (hsat : isSatReg off = false)
    (hrow : row.blk ∈ [Blk.boot, .tru, .gwy, .key, .lcs, .bench, .dram, .hst]) :
    s.writeReg r off v = { s with dev := (s.dev.plainWrite off (v % 2 ^ 32)).jrnReg off } := by
  have hblk : s.dev.blkReg row.blk i r off (v % 2 ^ 32) = s.dev.guarded r off (Dev.basicWrite off (v % 2 ^ 32)) := by
    simp only [List.mem_cons, List.not_mem_nil, or_false] at hrow
    generalize row.blk = b at hrow
    obtain rfl | rfl | rfl | rfl | rfl | rfl | rfl | rfl := hrow <;> rfl
  have hbasic : Dev.basicWrite off (v % 2 ^ 32) s.dev = s.dev.plainWrite off (v % 2 ^ 32) :=
    congrArg (Dev.plainWrite off _) (if_neg (by simp [hsat]))
  rw [State.writeReg_blk r v s hh hw ha hb ho, hblk, guarded_of_accepts hacc, hbasic]

/-- The block just out of PORST_N: every register at its Reset cell. -/
def outOfReset : State := { State.reset with dev := { Dev.porst with pins := { porst := true } } }

/-- TRU_PCFG of P4. -/
def truPcfg4 : Nat := 0x150C0

end Sys2Proof.Machine

open Sys2Proof.Machine

/-- Refutes O10: on P4, TRU_PCFG.EXT_EN (bit 31) is reserved (R15, R407), so HST's write of it leaves it 0 where the statement, which reads
the row that P4 shares with P0 to P3, wants the bit written. -/
theorem not_plainRegistersFollowTheirAccessTypes : ¬ Obligations.PlainRegistersFollowTheirAccessTypes := by
  unfold Obligations.PlainRegistersFollowTheirAccessTypes
  intro h
  have hacc : Accepts outOfReset .hst truPcfg4 := by decide
  have hb : blkOf truPcfg4 = some (⟨.tru, 0x14000, 1, 2, 0x11, 0⟩, 0, 0x10C0) := by decide
  have hg : Blk.tru.row? 0x10C0 = some ⟨0x1040, 32, 0x20, 0x80000001, 0, false⟩ := by decide
  obtain ⟨t, ht, hbits, -⟩ := (h .hst truPcfg4 (2 ^ 31) outOfReset _ _ _ hacc (by decide) (by decide) (by decide) (by decide) (by decide)
    (by decide) (by decide) hb (by decide)).2 _ hg
  have hset : t.dev.bit truPcfg4 31 = true := (hbits 31 (by decide)).trans (by decide)
  have hkept : t.dev.bit truPcfg4 31 = false := by
    rw [exec_registerWrite, State.writeSized_four _ _ _ (by decide), State.writeReg_plainBlk _ hacc (by decide) (by decide) (by decide)
      hb (by decide) (by decide) (by decide)] at ht
    cases ht
    rw [Dev.bit_jrnReg _ _ (by decide), Dev.bit_plainWrite _ _ hb (by decide) hg 31 (by decide)]
    decide
  rw [hset] at hkept
  cases hkept

end

section
/-! PORST_N (R87, R88, R91): what its fall leaves, and what its rise changes. -/

namespace Sys2Proof.Machine

theorem exec_porstAssert (s : State) : exec .porstAssert s =
    .next { s with dev := { s.dev.assertPorst with pins := { s.dev.assertPorst.pins with porstIn := false } } } := rfl

/-- The false-wake registers of PD0, which PORST_N does not reset (R88). -/
def falseWakeRegs : List Nat := [R.PWR_FW_RUN, R.PWR_FW_BLOCK0, R.PWR_FW_BLOCK1]

/-- The registers while PORST_N is low (R87, R88). -/
theorem Dev.reg_assertPorst (s : Dev) (o : Nat) : s.assertPorst.reg o = if o ∈ falseWakeRegs then s.reg o else regReset o := by
  have hword : ∀ p, BitVec.ofNat 32 (s.rd p) = s.reg p := fun p => by simp [Dev.rd]
  unfold Dev.assertPorst Dev.wr
  simp only [Dev.reg_setReg, hword, falseWakeRegs, List.mem_cons, List.not_mem_nil, or_false]
  by_cases h0 : o = R.PWR_FW_RUN
  · subst h0; rfl
  · by_cases h1 : o = R.PWR_FW_BLOCK0
    · subst h1; rfl
    · by_cases h2 : o = R.PWR_FW_BLOCK1
      · subst h2; rfl
      · simp only [h0, h1, h2, or_self, if_false]
        rfl

/-- PORST_N empties the device but for the trace, the free values and the input pins (R87). -/
theorem Dev.assertPorst_eq (s : Dev) : s.assertPorst =
    { Dev.porst with regs := s.assertPorst.regs, out := s.out, free := s.free, pins := s.assertPorst.pins } := rfl

/-- The registers that the rise of PORST_N writes (R91, R496, R551). -/
def riseRegs : List Nat := [R.BOOT_STRAP, R.PAIR_STAT, R.LCS_TAMP_STAT, R.LCS_TAMP_REC, R.LCS_TAMP_TICK]

theorem Dev.rd_showTamper_ne (v : Vault) (s : Dev) {o : Nat} (h1 : o ≠ R.LCS_TAMP_STAT) (h2 : o ≠ R.LCS_TAMP_REC)
    (h3 : o ≠ R.LCS_TAMP_TICK) : (s.showTamper v).rd o = s.rd o := by
  unfold Dev.showTamper
  rw [Dev.rd_setReg_ne _ h3, Dev.rd_setReg_ne _ h2, Dev.rd_wr_ne _ h1]

/-- The device as boot starts: the straps sampled, the tamper state shown. -/
def Dev.sampled (st : Straps) (v : Vault) (d : Dev) : Dev :=
  ((({ d with pins := { d.pins with porst := true } }).wr R.BOOT_STRAP (st.sel % 4 + if st.pairEn then 4 else 0)).setBit
    R.PAIR_STAT 22 st.rank).showTamper v

/-- With CLK32K_IN running and no tamper, boot starts as `Dev.sampled` says. -/
theorem State.startBoot_calm {st : Straps} {s : State} (hclk : st.clk32k = true) (hl : s.vault.latch = 0) (ha : s.vault.active = 0) :
    s.startBoot st = { s with dev := s.dev.sampled st s.vault } := by
  simp [State.startBoot, Dev.sampled, hclk, hl, ha]

theorem exec_porstRelease {st : Straps} {s : State} (hp : s.dev.pins.porst = false) (ht : tapHolds s.dev.pins.tap = false) :
    exec (.porstRelease st) s =
      .next (State.startBoot st { s with dev := { s.dev with pins := { s.dev.pins with porstIn := true } } }) :=
  if_neg (by simp [hp, ht])

theorem Dev.rd_sampled_ne (st : Straps) (v : Vault) (d : Dev) {o : Nat} (h : o ∉ riseRegs) : (d.sampled st v).rd o = d.rd o := by
  simp only [riseRegs, List.mem_cons, List.not_mem_nil, or_false, not_or] at h
  obtain ⟨hstrap, hpair, hstat, hrec, htick⟩ := h
  unfold Dev.sampled
  rw [Dev.rd_showTamper_ne v _ hstat hrec htick, Dev.rd_setBit_ne _ hpair, Dev.rd_wr_ne _ hstrap]
  rfl

theorem Dev.rd_sampled_strap (st : Straps) (v : Vault) (d : Dev) :
    (d.sampled st v).rd R.BOOT_STRAP = st.sel % 4 + (if st.pairEn then 4 else 0) := by
  unfold Dev.sampled
  rw [Dev.rd_showTamper_ne v _ (by decide) (by decide) (by decide), Dev.rd_setBit_ne _ (by decide), Dev.rd_wr_same]
  split <;> omega

theorem Dev.bit_sampled_rank (st : Straps) (v : Vault) (d : Dev) : (d.sampled st v).bit R.PAIR_STAT 22 = st.rank := by
  unfold Dev.sampled
  rw [Dev.bit_of_rd (Dev.rd_showTamper_ne v _ (by decide) (by decide) (by decide)), Dev.bit_setBit_same _ _ _ _ (by decide)]

/-- R91: the rise of PORST_N with CLK32K_IN running and no tamper, from a device whose STAGE stands at POR. -/
theorem porstRelease_calm {st : Straps} {s : State} (hp : s.dev.pins.porst = false) (ht : tapHolds s.dev.pins.tap = false)
    (hclk : st.clk32k = true) (hl : s.vault.latch = 0) (ha : s.vault.active = 0) (hst : s.dev.stage = 0) :
    Completes (.porstRelease st) s fun u => u.dev.pins.porst = true ∧ u.dev.stage = 0 ∧
      u.dev.rd R.BOOT_STRAP = st.sel % 4 + (if st.pairEn then 4 else 0) ∧ u.dev.bit R.PAIR_STAT 22 = st.rank ∧
      (∀ o, o ∉ riseRegs → u.dev.rd o = s.dev.rd o) ∧ u.bench = s.bench ∧ u.vault = s.vault := by
  refine ⟨_, (exec_porstRelease hp ht).trans (congrArg _ (State.startBoot_calm hclk hl ha)), rfl, ?_, Dev.rd_sampled_strap _ _ _,
    Dev.bit_sampled_rank _ _ _, fun o ho => Dev.rd_sampled_ne st _ _ ho, rfl, rfl⟩
  exact (Dev.fld_of_rd (Dev.rd_sampled_ne st _ _ (by decide)) 3 0).trans hst

end Sys2Proof.Machine

open Sys2Proof.Machine

/-- Settles O19: the fall by `Dev.reg_assertPorst` and `Dev.assertPorst_eq`, the rise by `porstRelease_calm`. -/
theorem powerOnReset : Obligations.PowerOnReset := by
  unfold Obligations.PowerOnReset
  intro s
  refine ⟨_, exec_porstAssert s, fun o ho => ?_, fun o ho => ?_, ?_, rfl, rfl, rfl, rfl, rfl, rfl, ?_⟩
  · exact (Dev.reg_assertPorst s.dev o).trans (if_neg ho)
  · exact congrArg BitVec.toNat ((Dev.reg_assertPorst s.dev o).trans (if_pos ho))
  · rw [Dev.assertPorst_eq]
  · intro hl ha ht st hclk
    have hstat : s.dev.assertPorst.reg R.BOOT_STAT = regReset R.BOOT_STAT := (Dev.reg_assertPorst s.dev _).trans (if_neg (by decide))
    have hst : s.dev.assertPorst.stage = 0 := by
      unfold Dev.stage Dev.fld Dev.rd
      rw [hstat]
      decide
    exact porstRelease_calm rfl ht hclk hl ha hst

end
